-- ==== Sys2Proof/Word.lean ====
section
/-! DEFINITION. The word types of the Jenca J256 and their plainest arithmetic. -/

namespace Sys2Proof

/-- A 64-bit register of the device (R88, R505). -/
abbrev Word := BitVec 64

/-- One byte of physical memory. -/
abbrev Byte := BitVec 8

end Sys2Proof
end

