-- ==== Sys2Proof/Syntax.lean ====
section
/-! DEFINITION. The commands of the block and their operands: one constructor of `Instr` for each row of
opcode_table.json. Krele instructions carry the agent that executes them, their condition and the operand fields of
their encoding (R127 to R150) as raw bits, so that an encoding which R128 calls unallocated can be given and raises
illegal instruction. -/

namespace Sys2Proof

/-- The header of a Krele instruction: the agent that executes it (an application core 0 to 255, 0x100 + q for service
core q, 0x1FF for SEC0; R113), its condition as the 32-bit code of R97, and whether it is a 16-bit form. `raw`: the parcels that the
core fetches, when they are given: they may spell a reserved or unallocated encoding (R126 to R128). `gone`: the TLB entries that
the device removes before it (R186), each as a TLB (0 the L2 TLB, 1 the L1 instruction TLB, 2 the L1 data TLB) and a place in it. -/
structure Hd where
  core  : Nat
  cond  : BitVec 4
  short : Bool
  raw   : Option (BitVec 32) := none
  gone  : List (Nat × Nat) := []
deriving DecidableEq, Repr

/-- The operand fields of an M instruction (R127, R129). In the 16-bit S0 form `disp` holds d5. -/
structure MemOp where
  size : BitVec 2
  mode : BitVec 4
  disp : BitVec 10
  seg  : BitVec 3
  ov   : Bool
deriving DecidableEq, Repr

/-- The fields of an atomic (R144). -/
structure AtomOp where
  ord  : BitVec 2
  size : BitVec 2
  mode : BitVec 4
  ov   : Bool
  seg  : BitVec 3
  d5   : BitVec 5
deriving DecidableEq, Repr

/-- The fields of a block instruction (R145): destination and source overrides, the bit that must be zero, DIR, size. -/
structure BlockOp where
  dov   : Bool
  dseg  : BitVec 3
  sov   : Bool
  sseg  : BitVec 3
  bit19 : Bool
  dir   : Bool
  size  : BitVec 2
deriving DecidableEq, Repr

/-- The fields of MAC.V (R142): the count, bit 7, and the overrides of the X and the Y operand. -/
structure MacOp where
  n    : BitVec 7
  bit7 : Bool
  xov  : Bool
  xseg : BitVec 3
  yov  : Bool
  yseg : BitVec 3
deriving DecidableEq, Repr

/-- The fields of a cache function (R148): the override of [X] and bits 27:20. -/
structure CacheOp where
  ov  : Bool
  seg : BitVec 3
  z   : BitVec 8
deriving DecidableEq, Repr

/-- The originator of a request: the pond tag and world it carries (R23, R423), whether it is a device-agent request
(R425), and whether it comes from the debug port (R431). -/
structure Req where
  pond   : Nat
  secure : Bool
  dev    : Bool
  dbg    : Bool
deriving DecidableEq, Repr

/-- Who sends a home a request without keeping its line (R244, R247): a core, or a block mover for it; a DMA channel; Ethernet receive by
port and ring; a line port's weir packet, with its class; the PCIe endpoint. -/
inductive Sender where
  | core (k : Nat)
  | dma (c : Nat)
  | eth (port ring : Nat)
  | weir (port qos : Nat)
  | host
deriving DecidableEq, Repr

/-- An event on its way to a sluice (R276, R526): its kind, source and angle, the context it names by home cluster and
slot, and the pond of its raiser. -/
structure SluiceEv where
  kind    : Nat
  src     : Nat
  angle   : Word
  cluster : Nat
  slot    : Nat
  pond    : Nat
deriving DecidableEq, Repr

/-- What a source's evaluation cycle delivers (R70 to R72): the measured frequency in µHz; the ticks from the cycle boundary, as
the converter samples (analogue) or the MAC timestamps (sampled values, back from the last frame's) place it; the
positive-sequence amplitude in 1/1000 of full scale and clipping; the samples per nominal cycle and the frames expected; the
Sync intervals since the last Sync message. -/
structure CycleObs where
  freq     : Nat
  ago      : Nat
  amp      : Nat
  clipped  : Bool
  rate     : Nat
  expected : Nat
  syncAge  : Nat
deriving DecidableEq, Repr

/-- The result of a line's error code (R309, R310). -/
inductive EccRes where
  | clean | corrected | poison | uncorrectable
deriving DecidableEq, Repr


/-- The result of decoding a codeword's error-correcting code (R319, R322). -/
inductive FecRes where
  | clean | corrected | uncorrectable
deriving DecidableEq, Repr

/-- A weir packet as it crosses a link (R327): its header fields, the header check, its payload words, and the payload's
CRC-32, 0 with no payload. -/
structure Pkt where
  ver    : Nat
  typ    : Nat
  qos    : Nat
  secure : Bool
  pond   : Nat
  dst    : Nat
  src    : Nat
  hops   : Nat
  flags  : Nat
  len    : Nat
  seq    : Nat
  stamp  : Nat
  hcrc   : Nat
  words  : List Word
  crc    : Nat
deriving DecidableEq, Repr

/-- An on-chip network flit (R23): its header's 120 checked bits, its check, and its payload words. -/
structure Flit where
  head : BitVec 120
  hchk : Nat
  pay  : List Word
deriving DecidableEq, Repr

/-- What a stop's SECDED code says of one payload word (R25). -/
inductive Secded where
  | good | single | double
deriving DecidableEq, Repr

/-- An error that the hardware detects in an array or a unit (R478, R479): unit, kind, instance, severity, the pond concerned
(0xFF: none), the world of the access, the physical address when one is known, and for an array the structure (1 L1I, 2 L1D, 3 a
TLB, 4 L2, 5 operand buffer, 6 register array, 7 LLC, 8 directory, 9 sluice, 10 a service core's L1), row and way. -/
structure HwErr where
  unit   : Nat
  kind   : Nat
  inst   : Nat
  sev    : Nat
  pond   : Nat
  secure : Bool
  addr   : Option Nat
  array  : Nat
  row    : Nat
  way    : Nat
deriving DecidableEq, Repr

/-- What the SPD data of a DIMM say of it (R290, R291, R304): its manufacturer, part number and serial number; whether it is a
DDR5 RDIMM, whether it carries ECC on 80 bits, and whether its devices are 3DS stacks; the width of its devices in bits and their
density in Gbit; its ranks; its rated data rate and the highest that its SPD data permit, both in MT/s. (DESIGN CHOICE, log entry
254.) -/
structure Dimm where
  maker   : Nat
  part    : Nat
  serial  : Nat
  rdimm   : Bool
  ecc     : Bool
  stacked : Bool
  width   : Nat
  density : Nat
  ranks   : Nat
  rated   : Nat
  permits : Nat
deriving DecidableEq, Repr

/-- What a start finds on a DRAM channel (R291, R304, R296): the DIMMs of slots 0 and 1, whether saved parameters verify, whether
full training passes and what it finds (the interface parameters, and the read-centring phase of each data pin, a byte each),
whether zeroing completes, and the retired ranks that fail a new test (R499). -/
structure ChanObs where
  slot0 : Option Dimm
  slot1 : Option Dimm
  saved : Bool
  full  : Bool
  train : Nat
  phase : Nat
  zero  : Bool
  bad   : Nat
deriving DecidableEq, Repr

/-- A command slot of a DRAM channel (R299): the nanoseconds since the slot before it, and the ECC result of the read of DRAM that
is made in it, if one is. (DESIGN CHOICE, log entry 255.) -/
structure ChanSlot where
  ns  : Nat
  ecc : EccRes
deriving DecidableEq, Repr

/-- What a start finds (R493): the boot ROM check, the uncore tests, the PCIe link's speed and width if it trains, the channels, the
lane groups that fail, the retired lanes that fail a new test, the converters' calibration, the rails whose loops lock, and the
cores that fail their tests, wholly or in L1I only. (DEDUCED, log entry 219.) -/
structure StartObs where
  rom    : Bool
  uncore : Bool
  pcie   : Option (Nat × Nat)
  chans  : List ChanObs
  groups : Nat
  lanes  : List Nat
  sense  : Bool
  rails  : Nat
  cores  : List Nat
  l1i    : List Nat
deriving DecidableEq, Repr
/-- A command of the block: one constructor per row of opcode_table.json. -/
inductive Instr where
  /-- LD (R136): Loads a memory operand into A, zero-extended. -/
  | ld (h : Hd) (m : MemOp)
  /-- LDS (R136): Loads a memory operand into A, sign-extended. -/
  | lds (h : Hd) (m : MemOp)
  /-- ST (R136): Stores the low bytes of A to memory. -/
  | st (h : Hd) (m : MemOp)
  /-- LEA (R136): Writes the operand offset to A without any access or check. -/
  | lea (h : Hd) (m : MemOp)
  /-- ADD (R136): Adds a sign-extended memory operand to A and sets Z N C V. -/
  | add (h : Hd) (m : MemOp)
  /-- ADC (R136): Adds a memory operand and the carry to A. -/
  | adc (h : Hd) (m : MemOp)
  /-- SUB (R136): Subtracts a sign-extended memory operand from A. -/
  | sub (h : Hd) (m : MemOp)
  /-- SBC (R136): Subtracts a memory operand and the borrow from A. -/
  | sbc (h : Hd) (m : MemOp)
  /-- AND (R136): ANDs a zero-extended memory operand into A. -/
  | andM (h : Hd) (m : MemOp)
  /-- OR (R136): ORs a zero-extended memory operand into A. -/
  | orM (h : Hd) (m : MemOp)
  /-- XOR (R136): XORs a zero-extended memory operand into A. -/
  | xor (h : Hd) (m : MemOp)
  /-- CMP (R136): Compares A with a memory operand and sets the flags only. -/
  | cmp (h : Hd) (m : MemOp)
  /-- TST (R136): ANDs A with a memory operand and sets Z and N only. -/
  | tst (h : Hd) (m : MemOp)
  /-- INC (R136): Increments a memory operand by a read followed by a write that is not atomic. -/
  | inc (h : Hd) (m : MemOp)
  /-- DEC (R136): Decrements a memory operand by a read followed by a write that is not atomic. -/
  | dec (h : Hd) (m : MemOp)
  /-- LDX (R136): Loads X from memory. -/
  | ldx (h : Hd) (m : MemOp)
  /-- STX (R136): Stores X to memory. -/
  | stx (h : Hd) (m : MemOp)
  /-- LDY (R136): Loads Y from memory. -/
  | ldy (h : Hd) (m : MemOp)
  /-- STY (R136): Stores Y to memory. -/
  | sty (h : Hd) (m : MemOp)
  /-- MUL (R136): Writes the low 64 bits of A times a memory operand to A. -/
  | mul (h : Hd) (m : MemOp)
  /-- MULH (R136): Writes the high 64 bits of the signed product to A. -/
  | mulh (h : Hd) (m : MemOp)
  /-- MULHU (R136): Writes the high 64 bits of the unsigned product to A. -/
  | mulhu (h : Hd) (m : MemOp)
  /-- DIV (R136): Hands off a signed division of A by a memory operand as a long operation. -/
  | div (h : Hd) (m : MemOp)
  /-- DIVU (R136): Hands off an unsigned division as a long operation. -/
  | divu (h : Hd) (m : MemOp)
  /-- REM (R136): Hands off a signed remainder as a long operation. -/
  | rem (h : Hd) (m : MemOp)
  /-- REMU (R136): Hands off an unsigned remainder as a long operation. -/
  | remu (h : Hd) (m : MemOp)
  /-- FADD (R136): Adds a floating-point memory operand to A. -/
  | fadd (h : Hd) (m : MemOp)
  /-- FSUB (R136): Subtracts a floating-point memory operand from A. -/
  | fsub (h : Hd) (m : MemOp)
  /-- FMUL (R136): Multiplies A by a floating-point memory operand. -/
  | fmul (h : Hd) (m : MemOp)
  /-- FDIV (R136): Hands off a floating-point division of A as a long operation. -/
  | fdiv (h : Hd) (m : MemOp)
  /-- FCMP (R91): Compares A with a floating-point operand quietly and sets the flags. -/
  | fcmp (h : Hd) (m : MemOp)
  /-- LDI (R137): Loads a sign-extended immediate into A. -/
  | ldi (h : Hd) (imm : BitVec 16)
  /-- ADDI (R137): Adds a sign-extended immediate to A. -/
  | addi (h : Hd) (imm : BitVec 16)
  /-- CMPI (R137): Compares A with an immediate. -/
  | cmpi (h : Hd) (imm : BitVec 16)
  /-- ANDI (R137): ANDs an immediate into A. -/
  | andi (h : Hd) (imm : BitVec 16)
  /-- LDXI (R137): Loads an immediate into X. -/
  | ldxi (h : Hd) (imm : BitVec 16)
  /-- ADDXI (R137): Adds an immediate to X. -/
  | addxi (h : Hd) (imm : BitVec 16)
  /-- LDYI (R137): Loads an immediate into Y. -/
  | ldyi (h : Hd) (imm : BitVec 16)
  /-- ADDYI (R137): Adds an immediate to Y. -/
  | addyi (h : Hd) (imm : BitVec 16)
  /-- ADDSP (R137): Adds eight times a short immediate to SP. -/
  | addsp (h : Hd) (imm : BitVec 7)
  /-- SHLI (R137): Shifts A left by an immediate amount. -/
  | shli (h : Hd) (imm : BitVec 7)
  /-- SHRI (R137): Shifts A right logically. -/
  | shri (h : Hd) (imm : BitVec 7)
  /-- SARI (R137): Shifts A right arithmetically. -/
  | sari (h : Hd) (imm : BitVec 7)
  /-- ROLI (R137): Rotates A left. -/
  | roli (h : Hd) (imm : BitVec 7)
  /-- BTST (R137): Copies a bit of A into T. -/
  | btst (h : Hd) (imm : BitVec 16)
  /-- BSET (R137): Sets a bit of A. -/
  | bset (h : Hd) (imm : BitVec 16)
  /-- BCLR (R137): Clears a bit of A. -/
  | bclr (h : Hd) (imm : BitVec 16)
  /-- SCALL (R115): Raises supervisor call, vector 17. -/
  | scall (h : Hd) (imm : BitVec 7)
  /-- MCALL (R115): Raises monitor call, vector 18, from supervisor mode. -/
  | mcall (h : Hd) (imm : BitVec 7)
  /-- NOP (R138): Does nothing. -/
  | nop (h : Hd)
  /-- MV (R138): Copies one of A, X, Y or SP to another. -/
  | mv (h : Hd) (k : BitVec 4)
  /-- XCH (R138): Exchanges X and Y. -/
  | xch (h : Hd)
  /-- NEG (R138): Negates A. -/
  | neg (h : Hd)
  /-- NOT (R138): Complements A. -/
  | not (h : Hd)
  /-- PUSHA (R138): Pushes A onto the stack through S2. -/
  | pusha (h : Hd)
  /-- POPA (R138): Pops A from the stack. -/
  | popa (h : Hd)
  /-- PUSHX (R138): Pushes X. -/
  | pushx (h : Hd)
  /-- POPX (R138): Pops X. -/
  | popx (h : Hd)
  /-- PUSHY (R138): Pushes Y. -/
  | pushy (h : Hd)
  /-- POPY (R138): Pops Y. -/
  | popy (h : Hd)
  /-- PUSHF (R138): Pushes FL. -/
  | pushf (h : Hd)
  /-- POPF (R138): Pops FL, keeping LDEPTH and reserved bits. -/
  | popf (h : Hd)
  /-- RET (R123): Pops the return offset and mask, restores the masked registers and returns. -/
  | ret (h : Hd)
  /-- ERET (R118): Restores the lower half and MS from the area at CSH and frees the area. -/
  | eret (h : Hd)
  /-- FRET (R110): Returns from bank B1 to B0 and frees B1. -/
  | fret (h : Hd)
  /-- JMPA (R138): Jumps to the offset in A. -/
  | jmpa (h : Hd)
  /-- LOOPX (R106): Closes the innermost hardware loop level. -/
  | loopx (h : Hd)
  /-- XSYNC (R172): Waits for every older long operation and makes later exceptions precise. -/
  | xsync (h : Hd)
  /-- IFENCE (R179): Waits for older stores in L1D and refetches all younger instructions. -/
  | ifence (h : Hd)
  /-- FENCE_L (R212): Waits until every older read is performed. -/
  | fenceL (h : Hd)
  /-- FENCE_S (R212): Waits until every older write is visible. -/
  | fenceS (h : Hd)
  /-- FENCE_LS (R213): Full cumulative fence over reads and writes. -/
  | fenceLs (h : Hd)
  /-- FENCE_L_F (R222): Fabric-scope form of FENCE.L. -/
  | fenceLF (h : Hd)
  /-- FENCE_S_F (R222): FENCE.S that also waits for completions of posted exchange writes. -/
  | fenceSF (h : Hd)
  /-- FENCE_LS_F (R222): FENCE.LS that also waits for completions of posted exchange writes. -/
  | fenceLsF (h : Hd)
  /-- WAIT (R278): Consumes the context's oldest event or makes it WAITING, or stops fetch on a core without a context. -/
  | wait (h : Hd)
  /-- YIELD (R279): Returns the running context to the tail of its ready queue. -/
  | yield (h : Hd)
  /-- BRK (R138): Raises debug, vector 16. -/
  | brk (h : Hd)
  /-- FNEG_D (R147): Flips the sign bit of a binary64 value in A. -/
  | fnegD (h : Hd) (z : BitVec 12)
  /-- FABS_D (R147): Clears the sign bit of a binary64 value in A. -/
  | fabsD (h : Hd) (z : BitVec 12)
  /-- FSQRT_D (R147): Hands off a binary64 square root as a long operation. -/
  | fsqrtD (h : Hd) (z : BitVec 12)
  /-- LDIU (R139): Loads a zero-extended 16-bit immediate into A. -/
  | ldiu (h : Hd) (imm : BitVec 16)
  /-- SHLDI (R139): Shifts A left by 16 and inserts an immediate. -/
  | shldi (h : Hd) (imm : BitVec 16)
  /-- SUBI (R139): Subtracts an immediate from A. -/
  | subi (h : Hd) (imm : BitVec 16)
  /-- ORI (R139): ORs an immediate into A. -/
  | ori (h : Hd) (imm : BitVec 16)
  /-- XORI (R139): XORs an immediate into A. -/
  | xori (h : Hd) (imm : BitVec 16)
  /-- TSTI (R139): Tests A against an immediate. -/
  | tsti (h : Hd) (imm : BitVec 16)
  /-- MULI (R139): Multiplies A by an immediate. -/
  | muli (h : Hd) (imm : BitVec 16)
  /-- ADCI (R139): Adds an immediate and the carry to A. -/
  | adci (h : Hd) (imm : BitVec 16)
  /-- SBCI (R139): Subtracts an immediate and the borrow from A. -/
  | sbci (h : Hd) (imm : BitVec 16)
  /-- CMPXI (R139): Compares X with an immediate. -/
  | cmpxi (h : Hd) (imm : BitVec 16)
  /-- CMPYI (R139): Compares Y with an immediate. -/
  | cmpyi (h : Hd) (imm : BitVec 16)
  /-- SHLDX (R139): Shifts X left by 16 and inserts an immediate. -/
  | shldx (h : Hd) (imm : BitVec 16)
  /-- SHLDY (R139): Shifts Y left by 16 and inserts an immediate. -/
  | shldy (h : Hd) (imm : BitVec 16)
  /-- ADDSPI (R139): Adds a 16-bit immediate to SP. -/
  | addspi (h : Hd) (imm : BitVec 16)
  /-- SHL (R139): Shifts A left. -/
  | shl (h : Hd) (imm : BitVec 16)
  /-- SHR (R139): Shifts A right logically. -/
  | shr (h : Hd) (imm : BitVec 16)
  /-- SAR (R139): Shifts A right arithmetically. -/
  | sar (h : Hd) (imm : BitVec 16)
  /-- ROL (R139): Rotates A left. -/
  | rol (h : Hd) (imm : BitVec 16)
  /-- BTGL (R139): Inverts a bit of A. -/
  | btgl (h : Hd) (imm : BitVec 16)
  /-- BFX (R139): Extracts a zero-extended bit field of A. -/
  | bfx (h : Hd) (imm : BitVec 16)
  /-- BFXS (R139): Extracts a sign-extended bit field of A. -/
  | bfxs (h : Hd) (imm : BitVec 16)
  /-- MFC (R112): Copies a system register into A. -/
  | mfc (h : Hd) (imm : BitVec 16)
  /-- MTC (R112): Copies A into a system register, context-synchronising. -/
  | mtc (h : Hd) (imm : BitVec 16)
  /-- BR_S (R140): Short PC-relative branch. -/
  | brS (h : Hd) (off : BitVec 12)
  /-- BR (R140): Long PC-relative branch. -/
  | br (h : Hd) (off : BitVec 23)
  /-- CALL (R124): Pushes the masked registers, mask and return offset and branches. -/
  | call (h : Hd) (mask : BitVec 7) (off : BitVec 16)
  /-- CALL_I (R140): Reads a target from memory, pushes a frame and branches to it. -/
  | callI (h : Hd) (mask : BitVec 8) (d : BitVec 8) (mode : BitVec 4)
  /-- LOOP (R141): Opens a hardware loop level counted by A, X or Y. -/
  | loop (h : Hd) (sub : BitVec 4) (imm : BitVec 16) (endShort : Bool)
  /-- LOOPI (R141): Opens a hardware loop level with an immediate count. -/
  | loopi (h : Hd) (imm : BitVec 16) (endShort : Bool)
  /-- MAC_V (R142): Hands off a chain of n fused multiply-adds into the stream lanes. -/
  | macV (h : Hd) (o : MacOp)
  /-- RED (R142): Sums the stream lanes into A by a fixed tree. -/
  | red (h : Hd) (imm : BitVec 16)
  /-- RED_C (R142): As RED, then clears the lanes and the next index. -/
  | redC (h : Hd) (imm : BitVec 16)
  /-- QCLR (R142): Clears the stream lanes and the next index. -/
  | qclr (h : Hd) (imm : BitVec 16)
  /-- SWAP (R144): Atomically writes A to memory and returns the old value. -/
  | swap (h : Hd) (o : AtomOp)
  /-- CAS (R144): Atomically compares with A and writes X on a match, setting T. -/
  | cas (h : Hd) (o : AtomOp)
  /-- LDADD (R144): Atomically adds A to memory. -/
  | ldadd (h : Hd) (o : AtomOp)
  /-- LDAND (R144): Atomically ANDs A into memory. -/
  | ldand (h : Hd) (o : AtomOp)
  /-- LDOR (R144): Atomically ORs A into memory. -/
  | ldor (h : Hd) (o : AtomOp)
  /-- MOVB (R145): Hands a block copy to the cluster's block mover. -/
  | movb (h : Hd) (o : BlockOp)
  /-- FILLB (R145): Hands a block fill to the block mover. -/
  | fillb (h : Hd) (o : BlockOp)
  /-- CMPB (R145): Hands a block compare to the block mover. -/
  | cmpb (h : Hd) (o : BlockOp)
  /-- SCANB (R145): Hands a block scan to the block mover. -/
  | scanb (h : Hd) (o : BlockOp)
  /-- FSQRT_S (R147): Hands off a binary32 square root as a long operation. -/
  | fsqrtS (h : Hd) (z : BitVec 12)
  /-- FNEG_S (R147): Inverts the binary32 sign bit. -/
  | fnegS (h : Hd) (z : BitVec 12)
  /-- FABS_S (R147): Clears the binary32 sign bit. -/
  | fabsS (h : Hd) (z : BitVec 12)
  /-- FCVT_D_S (R147): Converts binary32 to binary64. -/
  | fcvtDS (h : Hd) (z : BitVec 12)
  /-- FCVT_S_D (R147): Converts binary64 to binary32 with rounding. -/
  | fcvtSD (h : Hd) (z : BitVec 12)
  /-- FCVT_D_L (R147): Converts a signed integer to binary64. -/
  | fcvtDL (h : Hd) (z : BitVec 12)
  /-- FCVT_S_L (R147): Converts a signed integer to binary32. -/
  | fcvtSL (h : Hd) (z : BitVec 12)
  /-- FCVT_L_D (R147): Converts binary64 to a signed integer by FL.RM. -/
  | fcvtLD (h : Hd) (z : BitVec 12)
  /-- FCVT_L_S (R147): Converts binary32 to a signed integer by FL.RM. -/
  | fcvtLS (h : Hd) (z : BitVec 12)
  /-- FCVTZ_L_D (R147): Converts binary64 to a signed integer toward zero. -/
  | fcvtzLD (h : Hd) (z : BitVec 12)
  /-- CLZ (R147): Counts the leading zero bits of A. -/
  | clz (h : Hd) (z : BitVec 12)
  /-- CTZ (R147): Counts the trailing zero bits of A. -/
  | ctz (h : Hd) (z : BitVec 12)
  /-- POPC (R147): Counts the set bits of A. -/
  | popc (h : Hd) (z : BitVec 12)
  /-- BSWAP (R147): Reverses the bytes of A. -/
  | bswap (h : Hd) (z : BitVec 12)
  /-- CLT (R147): Clears T. -/
  | clt (h : Hd) (z : BitVec 12)
  /-- SETT (R147): Sets T. -/
  | sett (h : Hd) (z : BitVec 12)
  /-- CLC (R147): Clears C. -/
  | clc (h : Hd) (z : BitVec 12)
  /-- SETC (R147): Sets C. -/
  | setc (h : Hd) (z : BitVec 12)
  /-- FLCLR (R147): Clears the sticky floating-point flags. -/
  | flclr (h : Hd) (z : BitVec 12)
  /-- WLK (R148): Reads one page-table entry physically into A. -/
  | wlk (h : Hd) (z : BitVec 12)
  /-- TLBWR (R193): Installs a leaf entry in the TLBs unless the walk guard is set. -/
  | tlbwr (h : Hd) (z : BitVec 12) (victims : List Nat)
  /-- TLBINV_VA (R199): Drops this core's entries matching linear address X. -/
  | tlbinvVa (h : Hd) (z : BitVec 12)
  /-- TLBINV_AS (R199): Drops this core's non-global entries of an ASID. -/
  | tlbinvAs (h : Hd) (z : BitVec 12)
  /-- TLBINV_W (R199): Drops all of this core's entries of the current world. -/
  | tlbinvW (h : Hd) (z : BitVec 12)
  /-- TLBINV_B_VA (R200): Drops matching entries on every core of the pond and waits for acknowledgement. -/
  | tlbinvBVa (h : Hd) (z : BitVec 12)
  /-- TLBINV_B_AS (R200): Broadcast ASID invalidation across the pond. -/
  | tlbinvBAs (h : Hd) (z : BitVec 12)
  /-- TLBINV_B_W (R200): Broadcast world invalidation across the pond. -/
  | tlbinvBW (h : Hd) (z : BitVec 12)
  /-- SVL (R259): Saves the lower half to an area from CFL and links it at CSH. -/
  | svl (h : Hd) (z : BitVec 12)
  /-- SVU (R259): Saves the upper half to an area from CFL and links it at CSH. -/
  | svu (h : Hd) (z : BitVec 12)
  /-- RSL (R260): Restores the lower half from the area at CSH and frees the area. -/
  | rsl (h : Hd) (z : BitVec 12)
  /-- RSU (R260): Restores the upper half from the area at CSH and frees the area. -/
  | rsu (h : Hd) (z : BitVec 12)
  /-- CPF (R148): Prefetches the line at X into L1D. -/
  | cpf (h : Hd) (o : CacheOp)
  /-- CWB (R256): Writes a dirty line back to DRAM through its home and keeps every copy. -/
  | cwb (h : Hd) (o : CacheOp)
  /-- CWBI (R256): Writes a line back and invalidates every copy. -/
  | cwbi (h : Hd) (o : CacheOp)
  /-- CINV (R256): Invalidates every copy of a line and discards dirty data. -/
  | cinv (h : Hd) (o : CacheOp)
  /-- SWAKE (R149): Raises a software event for a named context and returns a status in A. -/
  | swake (h : Hd) (imm : BitVec 16)
  /-- SPRIO (R149): Sets the running context's priority within CLU.PRIOMAX. -/
  | sprio (h : Hd) (imm : BitVec 16)
  /-- SDEAD (R286): Sets the running context's angle deadline. -/
  | sdead (h : Hd) (imm : BitVec 16)
  /-- PFX (R130): Supplies the high bits of abs32 to the following mode-8 instruction. -/
  | pfx (h : Hd) (imm : BitVec 22)
  /-- TAKE_INTERRUPT (R94): A core takes an assigned normal or secure interrupt at an instruction boundary. -/
  | takeInterrupt (core : Nat)
  /-- FAST_INTERRUPT (R109): A fast source switches the core into bank B1 without a save. -/
  | fastInterrupt (core : Nat)
  /-- MACHINE_CHECK_ASYNC (R482): An asynchronous machine check is taken by the pond's target core. -/
  | machineCheckAsync (core : Nat)
  /-- SINGLE_STEP (R120): Debug is raised after an instruction completes with MS.SS = 1. -/
  | singleStep (core : Nat)
  /-- LONG_OPERATION_COMPLETE (R168): A handed-off long operation completes or fails and is reported. -/
  | longOperationComplete (core : Nat)
  /-- BLOCK_ELEMENT (R146): The block mover completes one element and updates A, X and Y. -/
  | blockElement (core : Nat)
  /-- STORE_VISIBLE (R210): A buffered store obtains its line and becomes visible. -/
  | storeVisible (core : Nat) (idx : Nat) (lag : List Nat)
  /-- READ_RESPONSE (R211): A response to a core's read arrives. -/
  | readResponse (core : Nat) (pa : Nat) (size : Nat)
  /-- DEBUG_HALT (R434): A pending halt request takes effect at an admitted instruction boundary. -/
  | debugHalt (core : Nat)
  /-- HALTREQ (R434): A write of DBG.CTL.HALTREQ requests a halt. -/
  | haltreq (rq : Req) (core : Nat)
  /-- RESUME (R434): A write of DBG.CTL.RESUME resumes a halted core. -/
  | resume (rq : Req) (core : Nat)
  /-- RDATA_ACCESS (R433): Reads or writes the selected register of a halted core. -/
  | rdataAccess (rq : Req) (core : Nat) (wr : Bool) (value : Word)
  /-- DEBUG_PORT_ACCESS (R433): A debug-port memory or register access is admitted or refused by the enables. -/
  | debugPortAccess (pond : Nat) (secure : Bool) (addr : Nat) (size : Nat) (wr : Bool) (value : Word)
  /-- CORE_RESET (R265): A write of CORECTL.RST resets one core after draining its stores. -/
  | coreReset (core : Nat)
  /-- CORE_RESET_DRAIN_TIMEOUT (R231): After 4 µs the remaining stores are discarded and counted. -/
  | coreResetDrainTimeout (core : Nat)
  /-- SLUICE_EVENT (R277): An event reaches the cluster's sluice and is queued or refused. -/
  | sluiceEvent (ev : SluiceEv)
  /-- SWITCH_OUT (R282): At an eligible boundary a context's lower half is saved and D1 set. -/
  | switchOut (core : Nat)
  /-- CONTEXT_RESTORE (R282): A core restores an assigned context from D1 and records its start. -/
  | contextRestore (core : Nat)
  /-- SLICE_EXPIRY (R281): A context that has run SLICE µs is pre-empted for an equal-priority one. -/
  | sliceExpiry (core : Nat)
  /-- PLACEMENT_INTERVAL (R287): At each placement interval the sluice may migrate contexts. -/
  | placementInterval (cluster : Nat)
  /-- CTX_CREATE (R275): CTXCMD CREATE makes a FREE slot WAITING after checking its area. -/
  | ctxCreate (cluster : Nat)
  /-- CTX_WAKE (R275): CTXCMD WAKE raises a software event. -/
  | ctxWake (cluster : Nat)
  /-- CTX_STOP (R275): CTXCMD STOP makes a context STOPPED. -/
  | ctxStop (cluster : Nat)
  /-- CTX_START (R275): CTXCMD START makes a STOPPED context READY. -/
  | ctxStart (cluster : Nat)
  /-- CTX_RELEASE (R275): CTXCMD RELEASE frees a STOPPED context. -/
  | ctxRelease (cluster : Nat)
  /-- CTX_MOVE (R275): CTXCMD MOVE migrates a context to another cluster. -/
  | ctxMove (cluster : Nat)
  /-- CTXDATA_WRITE (R274): A descriptor word is written, checked and forwarded for AWAY slots. -/
  | ctxdataWrite (rq : Req) (cluster : Nat) (j : Nat) (value : Word)
  /-- CLUSTER_TIMER_EXPIRY (R276): A cluster timer reaches zero and raises a timer event. -/
  | clusterTimerExpiry (cluster : Nat) (n : Nat)
  /-- SOURCE_EDGE (R267): An interrupt source input changes and its pending state is updated. -/
  | sourceEdge (src : Nat) (level : Bool)
  /-- BOUND_EVENT_REOFFER (R273): A refused bound source is offered again when the event queue frees an entry. -/
  | boundEventReoffer (cluster : Nat)
  /-- EOI (R267): A write to IC.EOI clears a source's active bit. -/
  | eoi (rq : Req) (src : Nat)
  /-- PENDSET (R269): Sets pending bits of sources. -/
  | pendset (rq : Req) (j : Nat) (bits : Word)
  /-- PENDCLR (R269): Clears pending bits of sources. -/
  | pendclr (rq : Req) (j : Nat) (bits : Word)
  /-- MASKSET (R269): Masks sources. -/
  | maskset (rq : Req) (j : Nat) (bits : Word)
  /-- MASKCLR (R269): Unmasks sources. -/
  | maskclr (rq : Req) (j : Nat) (bits : Word)
  /-- MARK_FIRE (R79): An armed mark reaches its angle and takes its action. -/
  | markFire (scope : Nat) (n : Nat)
  /-- MARK_REGISTER_WRITE (R85): A write to a mark register applies at a tick boundary. -/
  | markRegisterWrite (rq : Req) (scope : Nat) (n : Nat) (j : Nat) (size : Nat) (value : Word)
  /-- EVALUATION_CYCLE (R70): A source evaluation cycle ends and the tracker updates. -/
  | evaluationCycle (p : Nat) (obs : CycleObs)
  /-- SOURCE_LOST (R71): A source with no valid cycle for two nominal periods becomes invalid. -/
  | sourceLost (p : Nat)
  /-- HOLDOVER_EXPIRY (R77): HOLDOVER ends and the ATB returns to FREE. -/
  | holdoverExpiry 
  /-- ATB_SETTING_WRITE (R78): A write of HOLDOVER, PJLIMIT, ROCOF or REACQ is checked against its bound. -/
  | atbSettingWrite (rq : Req) (setting : Nat) (value : Word)
  /-- ENCODER_EDGE (R72): A counted encoder edge advances the fraction. -/
  | encoderEdge (forward : Bool)
  /-- PROTECT_RISE (R307): The DRAM protect signal rises and channels pull in refreshes. -/
  | protectRise 
  /-- PROTECT_FALL (R307): The protect signal falls and channels issue owed work. -/
  | protectFall 
  /-- PTPSTEP (R377): A write to EX.PTPSTEP adds an offset to the PTP clock. -/
  | ptpstep (rq : Req) (value : Word)
  /-- FLIT_RECEIVE (R24): A stop checks a received flit's HCHK and accepts or asks for resend. -/
  | flitReceive (stop : Nat) (port : Nat) (flit : Flit) (ecc : List Secded)
  /-- GETCOPY (R244): A home serves a read for a copy. -/
  | getcopy (agent : Nat) (line : Nat)
  /-- GETOWN (R244): A home serves a read with the right to write. -/
  | getown (agent : Nat) (line : Nat)
  /-- PROMOTE (R244): A home grants write right to a shared copy. -/
  | promote (agent : Nat) (line : Nat)
  /-- PEEKLINE (R250): A home returns current data without a copy. -/
  | peekline (sender : Sender) (rq : Req) (line : Nat)
  /-- PUTFULL (R250): A home performs a whole-line write, with optional stash. -/
  | putfull (sender : Sender) (rq : Req) (line : Nat) (data : List Byte) (stash : Option Nat) (wbAttr : Bool) (room : Bool)
  /-- PUTPARTIAL (R250): A home performs a partial write. -/
  | putpartial (sender : Sender) (rq : Req) (pa : Nat) (data : List Byte)
  /-- DROPDIRTY (R249): A home absorbs or holds an eviction with data. -/
  | dropdirty (agent : Nat) (line : Nat)
  /-- DROPCLEAN (R248): A home records a clean eviction. -/
  | dropclean (agent : Nat) (line : Nat)
  /-- PROBEDEMOTE (R244): A holder moves a line to S. -/
  | probedemote (agent : Nat) (line : Nat)
  /-- PROBETAKE (R244): A holder invalidates and forwards its data. -/
  | probetake (agent : Nat) (line : Nat)
  /-- PROBE_TAKE (R158): An invalidating snoop reaches a core's caches. -/
  | probeTake (core : Nat) (line : Nat)
  /-- PROBEPEEK (R244): A holder sends a copy of its data to the home. -/
  | probepeek (agent : Nat) (line : Nat)
  /-- PROBECLEAR (R244): A holder invalidates and sends M data to the home. -/
  | probeclear (agent : Nat) (line : Nat)
  /-- EVICTION_ACK (R249): A private cache frees its writeback entry on acknowledgement. -/
  | evictionAck (agent : Nat) (line : Nat)
  /-- ATOMIC_HOLD_EXPIRY (R254): After 32 cycles a deferred snoop on an atomic's line is answered. -/
  | atomicHoldExpiry (core : Nat)
  /-- DIRPROBE (R244): LLC.DIRPROBE GO looks up a directory entry into DIRDATA. -/
  | dirprobe (slice : Nat)
  /-- TLBINV_B_ARRIVAL (R200): A broadcast invalidation reaches a core, drops entries and sets its guard. -/
  | tlbinvBArrival (core : Nat)
  /-- TLBINV_B_TIMEOUT (R202): A missing acknowledgement after 1 ms raises a machine check. -/
  | tlbinvBTimeout (core : Nat)
  /-- CHECK_SLOT_A (R42): FELT.CMD 1 validates slot A. -/
  | checkSlotA 
  /-- CHECK_SLOT_B (R42): FELT.CMD 2 validates slot B. -/
  | checkSlotB 
  /-- SUBMIT_AMENDMENT (R54): FELT.CMD 3 validates, logs and commits an amendment. -/
  | submitAmendment 
  /-- MOVE_CLUSTER (R56): Evacuates, clears and reassigns a cluster to another pond. -/
  | moveCluster 
  /-- MOVE_FUNCTION (R56): Resets a function and reassigns it. -/
  | moveFunction 
  /-- MOVE_DMA (R56): Finishes or aborts a channel's descriptors and reassigns it. -/
  | moveDma 
  /-- MOVE_IRQ (R56): Clears and reassigns an interrupt source. -/
  | moveIrq 
  /-- SET_BOUND (R50): Changes a felt bound and clamps registers outside it. -/
  | setBound 
  /-- SET_HOLD (R459): Sets a domain hold, waking the domain if needed. -/
  | setHold 
  /-- CLEAR_HOLD (R53): Removes a domain hold. -/
  | clearHold 
  /-- SET_DEBUG (R432): Loads a pond's FELT debug enables and clears LOW. -/
  | setDebug 
  /-- SET_MARK (R82): Loads a mark's pond, action and target. -/
  | setMark 
  /-- SET_SHARE (R53): Changes a pond's DRAM share. -/
  | setShare 
  /-- SET_CAP (R53): Changes the image power cap. -/
  | setCap 
  /-- DEVICE_START (R493): The boot steps BS01 to BS12 run after a reset or power-up. -/
  | deviceStart (obs : StartObs)
  /-- BOOT_STEP_TIMEOUT (R493): A boot step exceeds its limit and fails. -/
  | bootStepTimeout (obs : StartObs) (late : Nat)
  /-- STOPPING_HOLD_EXPIRY (R494): After 2 s in a stopping failure the device resets itself. -/
  | stoppingHoldExpiry 
  /-- RESET_N (R230): RESET_N resets the device, discarding stores and caches. -/
  | resetN (low : Bool)
  /-- POWER_ON (R518): The rails come up and a start begins. -/
  | powerOn 
  /-- DEVRESET (R417): A keyed write resets the device while keeping the link. -/
  | devreset (key : Word)
  /-- PWRCYC (R418): A keyed write asserts PWRCYC_REQ_N. -/
  | pwrcyc (key : Word)
  /-- PWRCYC_RELEASE (R521): PWRCYC_REQ_N is released after 200 ms. -/
  | pwrcycRelease 
  /-- UNDERVOLTAGE (R469): A rail below its limit resets the device. -/
  | undervoltage (vaon : Bool)
  /-- THERMAL_SHUTDOWN (R477): Asserts THERMTRIP_N and turns every domain but 0 off. -/
  | thermalShutdown (hot : Int) (sensor : Nat) (failed : Bool)
  /-- THERMAL_LIMIT_STEP (R476): Every 100 µs or 1 ms the thermal limit is lowered or raised. -/
  | thermalLimitStep (hot : Int) (sensor : Nat)
  /-- POWER_CAP_STEP (R474): Every 100 µs the cap limit of unpinned clusters is adjusted. -/
  | powerCapStep (others : Nat)
  /-- AVS_LOOP_STEP (R472): Every 10 µs each quadrant rail voltage is adjusted. -/
  | avsLoopStep (quad : Nat) (need : List Nat) (fmax : List Nat) (vout : Nat) (iout : Nat) (inBand : Bool)
  /-- DROOP (R472): A detected droop stretches the cluster clock period. -/
  | droop (cluster : Nat) (cycles : Nat)
  /-- HELD_DOMAIN_LOST (R443): A held domain's power-good falls without an admitted transition. -/
  | heldDomainLost (dom : Nat)
  /-- POWER_GOOD_RETURN (R443): A lost domain comes up to on from reset. -/
  | powerGoodReturn (dom : Nat)
  /-- DOMAIN_REQUEST_ON (R452): DOMCTL GO with REQ on. -/
  | domainRequestOn (rq : Req) (dom : Nat)
  /-- DOMAIN_REQUEST_CLOCK_GATE (R452): DOMCTL GO with REQ clock-gated. -/
  | domainRequestClockGate (rq : Req) (dom : Nat)
  /-- DOMAIN_REQUEST_RETENTION (R452): DOMCTL GO with REQ retention. -/
  | domainRequestRetention (rq : Req) (dom : Nat)
  /-- DOMAIN_REQUEST_OFF (R452): DOMCTL GO with REQ off. -/
  | domainRequestOff (rq : Req) (dom : Nat)
  /-- DOMAIN_TRANSITION_DONE (R452): A domain reaches the requested state. -/
  | domainTransitionDone (dom : Nat)
  /-- DOMAIN_REQUEST_TIMEOUT (R452): A cluster request waiting 10 ms for idle completes with TIMEOUT. -/
  | domainRequestTimeout (dom : Nat)
  /-- CLUSTER_IDLE (R453): A cluster becomes idle and is clock-gated. -/
  | clusterIdle (cluster : Nat)
  /-- IDLE_TIMEOUT (R454): After IDLEUS a cluster enters retention or off. -/
  | idleTimeout (cluster : Nat)
  /-- DOMAIN_WAKE (R455): A wake event brings a domain back to on. -/
  | domainWake (dom : Nat)
  /-- WAKE_LEAD (R457): The cluster wakes LEAD µs before a mark. -/
  | wakeLead (cluster : Nat)
  /-- WATCH (R461): DEVCMD WATCH moves the device into watch. -/
  | watch 
  /-- OFF (R465): DEVCMD OFF turns every domain but 0 off. -/
  | off 
  /-- WATCH_SEQUENCER_INTERVAL (R462): The sequencer samples the sense inputs and may wake. -/
  | watchSequencerInterval (rms : List Nat)
  /-- WAKE_SENSE_RISE (R463): WAKE_SENSE rises above its threshold. -/
  | wakeSenseRise 
  /-- FLOOR (R467): Supply falls below the NV write floor. -/
  | floor 
  /-- FLOORUP (R466): Supply stays 100 µs above the floor. -/
  | floorup 
  /-- RECORD_STORE_WRITE (R232): A write reaches the record store. -/
  | recordStoreWrite (rq : Req) (off : Nat) (data : List Byte)
  /-- ERROR_RECORD (R480): A service core takes an error record, logs it and raises an edge. -/
  | errorRecord (quad : Nat) (obs : Option HwErr)
  /-- SELF_TEST_COMPLETE (R485): A test classes the error and applies a repair. -/
  | selfTestComplete (quad : Nat) (pass : Bool) (l1i : Bool) (spare : Bool)
  /-- BUCKET_LEAK (R486): A leaky bucket loses one unit. -/
  | bucketLeak (key : Nat)
  /-- DRAM_RECORD_SAVE (R305): The service core writes the channel training record every hour. -/
  | dramRecordSave 
  /-- LANE_SETTINGS_SAVE (R368): Lane settings are written every hour. -/
  | laneSettingsSave 
  /-- AVS_RECORD_SAVE (R473): The AVS record is written every hour. -/
  | avsRecordSave 
  /-- DIGEST_UPDATE (R501): The health digest is refreshed. -/
  | digestUpdate 
  /-- CHANNEL_READ (R298): A channel performs a read and handles its ECC result. -/
  | channelRead (ch : Nat) (pa : Nat) (pond : Nat) (qos : Nat) (slots : List ChanSlot)
  /-- CHANNEL_WRITE (R298): A channel queues, merges or performs a write. -/
  | channelWrite (ch : Nat) (pa : Nat) (size : Nat) (pond : Nat) (qos : Nat) (slots : List ChanSlot)
  /-- REFRESH_DUE (R306): A rank's refresh comes due and is issued or postponed. -/
  | refreshDue (ch : Nat) (rank : Nat)
  /-- ZQ_CALIBRATION (R306): ZQ calibration runs every 128 ms per rank. -/
  | zqCalibration (ch : Nat) (rank : Nat)
  /-- RETRAINING (R306): Write-timing retraining runs every 32 ms. -/
  | retraining (ch : Nat) (train : Nat) (phase : Nat)
  /-- SCRUB_READ (R312): The patrol scrub reads the next line. -/
  | scrubRead (ch : Nat) (ecc : EccRes)
  /-- ROW_IDLE_TIMEOUT (R303): An idle open row is closed. -/
  | rowIdleTimeout (ch : Nat) (bank : Nat)
  /-- CRC_ALERT (R311): A DRAM CRC or parity alert makes the channel re-issue. -/
  | crcAlert (ch : Nat) (rank : Nat) (parity : Bool) (failures : Nat)
  /-- SPARECMD (R313): SPARECMD GO starts rank migration. -/
  | sparecmd (ch : Nat)
  /-- MIGRATION_COPY (R314): One line is copied to the spare rank. -/
  | migrationCopy (ch : Nat) (ecc : EccRes)
  /-- SHARE_WRITE (R301): A DMC.SHARE write is checked against its bound. -/
  | shareWrite (rq : Req) (ch : Nat) (pond : Nat) (value : Word)
  /-- HSEL_CLR (R302): Clears the selected histogram counts. -/
  | hselClr (rq : Req) (ch : Nat) (value : Word)
  /-- CODEWORD_RECEIVE (R322): A weir receiver takes a codeword. -/
  | codewordReceive (port : Nat) (fec : FecRes) (ctl : BitVec 20) (words : List Word)
  /-- LINK_DOWN (R325): A weir link goes down. -/
  | linkDown (port : Nat) (lockLost : Bool)
  /-- LINK_LOCK (R345): FEC lock and alignment are gained; credits are granted and HELLO begins. -/
  | linkLock (port : Nat)
  /-- HELLO (R346): A received HELLO sets the link version or refusal. -/
  | hello (port : Nat) (pk : Pkt)
  /-- HELLO_SEND (R345): A HELLO interval elapses. -/
  | helloSend (port : Nat)
  /-- WRITE (R335): A WRITE packet is checked and performed. -/
  | write (port : Nat) (pk : Pkt) (stall : Bool)
  /-- TWRITE (R340): A TWRITE is held, released or refused. -/
  | twrite (port : Nat) (pk : Pkt)
  /-- READ (R337): A READ is answered with RDATA. -/
  | read (port : Nat) (pk : Pkt) (stall : Bool)
  /-- RDATA (R338): Read data completes the sender's request. -/
  | rdata (port : Nat) (pk : Pkt)
  /-- CPL (R338): A completion frees the sender's tracker. -/
  | cpl (port : Nat) (pk : Pkt)
  /-- DOORBELL (R339): A DOORBELL raises a fabric doorbell event. -/
  | doorbell (port : Nat) (pk : Pkt)
  /-- TDOORBELL (R340): A TDOORBELL is held or performed. -/
  | tdoorbell (port : Nat) (pk : Pkt)
  /-- TOPO (R348): A TOPO message is relayed or processed by the headwater. -/
  | topo (port : Nat) (pk : Pkt)
  /-- ADDR (R350): An ADDR message assigns the device address. -/
  | addr (port : Nat) (pk : Pkt)
  /-- ROUTE (R357): A ROUTE part is stored; the epoch applies when complete. -/
  | route (port : Nat) (pk : Pkt)
  /-- REFUSE (R350): Refuses a device's admission. -/
  | refuse (port : Nat) (pk : Pkt)
  /-- PORTDOWN (R357): The headwater recomputes tables. -/
  | portdown (port : Nat) (pk : Pkt)
  /-- DRAIN (R361): The headwater routes around a draining device. -/
  | drain (port : Nat) (pk : Pkt)
  /-- DIGESTREQ (R349): Answered with DIGEST. -/
  | digestreq (port : Nat) (pk : Pkt)
  /-- DIGEST (R349): A DIGEST answer arrives. -/
  | digest (port : Nat) (pk : Pkt)
  /-- SYNC (R359): An accepted SYNC gives the ATB a fabric sample. -/
  | sync (port : Nat) (pk : Pkt)
  /-- DREQ (R358): A DREQ is answered with DRSP. -/
  | dreq (port : Nat) (pk : Pkt)
  /-- DRSP (R358): A DRSP updates the link delay. -/
  | drsp (port : Nat) (pk : Pkt)
  /-- PACKET_FORWARD (R353): A transit packet is forwarded. -/
  | packetForward (port : Nat) (pk : Pkt)
  /-- OUTBOUND_PACKET_SEND (R333): Merged exchange-window accesses leave as one packet. -/
  | outboundPacketSend (agent : Nat) (n : Nat)
  /-- RESPONSE_TIMEOUT (R334): A request completes with TIMEOUT. -/
  | responseTimeout (tag : Nat)
  /-- TDB_RELEASE (R341): A held timed entry is released at its angle. -/
  | tdbRelease (group : Nat)
  /-- BECOME_HEADWATER (R347): A device becomes headwater after 20 ms. -/
  | becomeHeadwater 
  /-- BEACON (R351): The headwater increments its beacon count. -/
  | beacon 
  /-- HEADWATER_LOST (R351): No beacon increase for 500 ms restarts the election. -/
  | headwaterLost 
  /-- MGMT_RETRY (R348): An unacknowledged MGMT message is resent. -/
  | mgmtRetry (tag : Nat)
  /-- DREQ_SEND (R358): Each end sends DREQ every 100 ms. -/
  | dreqSend (port : Nat)
  /-- SYNC_SEND (R359): A device sends SYNC every SYNCINT. -/
  | syncSend 
  /-- TMLOST (R359): Three intervals without SYNC set TMLOST. -/
  | tmlost 
  /-- DRAIN_WRITE (R361): WX.CTL.DRAIN starts a drain. -/
  | drainWrite (rq : Req) (value : Word)
  /-- REJOIN (R361): WX.CTL.REJOIN ends a drain or retries. -/
  | rejoin (rq : Req)
  /-- DRAINED (R361): The drain completes. -/
  | drained 
  /-- TIMED_SEND_GO (R344): TSCTL.GO sends a slot's staged packet. -/
  | timedSendGo (slot : Nat)
  /-- TIMED_CONTROL_WRITE (R343): A TREL or TCTL write waits for earlier exchange writes. -/
  | timedControlWrite (rq : Req) (core : Nat) (ctl : Bool) (value : Word)
  /-- RESERVE_CODEWORD (R370): A reserve codeword carries a spare request or acknowledgement. -/
  | reserveCodeword (group : Nat) (uid : Word) (request : Word)
  /-- SPARE_REQUEST_TIMEOUT (R370): An unacknowledged spare request is refused after 1 ms. -/
  | spareRequestTimeout (group : Nat)
  /-- SPARE_GO (R371): LANE.SPARE.GO moves a lane to the spare. -/
  | spareGo (group : Nat)
  /-- LANE_FAULT (R372): A lane fault moves it to a spare or takes the port out of service. -/
  | laneFault (lane : Nat)
  /-- LANE_TRAINING_DONE (R366): A lane's training completes. -/
  | laneTrainingDone (lane : Nat) (ctle : Nat) (taps : Nat) (rx : Nat)
  /-- SAVED_TRAINING_TIMEOUT (R368): Training from saved settings falls back after 20 ms. -/
  | savedTrainingTimeout (lane : Nat)
  /-- NEAR_END_LOOPBACK (R386): LANE.TEST mode 1. -/
  | nearEndLoopback (lane : Nat)
  /-- FAR_END_LOOPBACK (R386): LANE.TEST mode 2. -/
  | farEndLoopback (lane : Nat)
  /-- PRBS_TEST (R386): LANE.TEST mode 3. -/
  | prbsTest (lane : Nat)
  /-- LANE_TEST_END (R386): The test duration ends. -/
  | laneTestEnd (lane : Nat) (errors : Nat)
  /-- FRAME_RECEIVE (R383): A received frame is timestamped, classified and written to a ring. -/
  | frameReceive (port : Nat) (frame : List Byte) (half : Bool)
  /-- FRAME_TRANSMIT (R385): The MAC sends the next frame. -/
  | frameTransmit (port : Nat) (half : Bool)
  /-- RING_ITIME_EXPIRY (R383): ITIME µs pass and an edge is raised. -/
  | ringItimeExpiry (port : Nat) (ring : Nat)
  /-- RING_RESTART (R384): RXCTL.RESTART resumes a stopped ring. -/
  | ringRestart (rq : Req) (port : Nat) (ring : Nat)
  /-- BAR0_REQUEST (R395): A host BAR0 request is served or refused. -/
  | bar0Request (fn : Nat) (off : Nat) (size : Nat) (wr : Bool) (value : Word)
  /-- BAR2_READ (R396): A host BAR2 read is served from DRAM. -/
  | bar2Read (fn : Nat) (off : Nat) (len : Nat)
  /-- BAR2_WRITE (R396): A host BAR2 write is performed in DRAM. -/
  | bar2Write (fn : Nat) (off : Nat) (data : List Byte) (poisoned : Bool)
  /-- EXPANSION_ROM_READ (R397): Returns driver images or the built device description. -/
  | expansionRomRead (off : Nat) (len : Nat)
  /-- CONFIG_WRITE (R388): A configuration write changes function settings. -/
  | configWrite (fn : Nat) (off : Nat) (size : Nat) (value : Nat)
  /-- BUS_MASTER_DISABLE (R414): Bus Master Enable falls to 0. -/
  | busMasterDisable (fn : Nat)
  /-- FLR (R415): A function-level reset begins. -/
  | flr (fn : Nat)
  /-- FLR_COMPLETE (R415): The reset completes and sets FLRDONE. -/
  | flrComplete (fn : Nat)
  /-- VF_ENABLE_CLEAR (R416): VF Enable to 0 resets every VF. -/
  | vfEnableClear 
  /-- HDB (R407): A host doorbell raises an event or pends a source. -/
  | hdb (fn : Nat) (value : Word)
  /-- SQTDB (R404): An SQ tail doorbell fetches entries. -/
  | sqtdb (fn : Nat) (q : Nat) (value : Word)
  /-- CQHDB (R405): A CQ head doorbell frees room. -/
  | cqhdb (fn : Nat) (q : Nat) (value : Word)
  /-- QCTL_WRITE (R402): A QCTL write is checked against ACT. -/
  | qctlWrite (fn : Nat) (q : Nat) (value : Word)
  /-- ENABLE (R403): QCMD ENABLE reads the queue context. -/
  | enable 
  /-- DISABLE (R402): QCMD DISABLE stops a queue pair. -/
  | disable 
  /-- SETLIMIT (R402): QCMD SETLIMIT sets a queue pair limit. -/
  | setlimit 
  /-- JOB_RING_HEAD (R404): QDB KIND 0 reports consumption. -/
  | jobRingHead 
  /-- COMPLETION_RING_TAIL (R405): QDB KIND 1 copies completions to the host CQ. -/
  | completionRingTail 
  /-- OUTBOUND_ACCESS (R398): An outbound-window access becomes a PCIe request. -/
  | outboundAccess
  /-- PCIE_COMPLETION (R400): A completion finishes an outbound read. -/
  | pcieCompletion (tag : Nat) (status : Nat) (poisoned : Bool) (data : List Byte)
  /-- COMPLETION_TIMEOUT (R400): A read without completion completes with TIMEOUT. -/
  | completionTimeout (tag : Nat)
  /-- CPLTIMEOUT_WRITE (R400): A bound-checked CPLTIMEOUT write. -/
  | cpltimeoutWrite (rq : Req) (fn : Nat) (value : Word)
  /-- DLCTL_SEL_WRITE (R413): Switches the active dirty map. -/
  | dlctlSelWrite (v : Nat) (value : Word)
  /-- DMA_TAIL_WRITE (R409): Starts descriptors up to the new tail. -/
  | dmaTailWrite (rq : Req) (c : Nat) (value : Word)
  /-- DMA_DESCRIPTOR_COMPLETE (R409): A descriptor finishes and is written back. -/
  | dmaDescriptorComplete (c : Nat)
  /-- DMA_RESTART (R409): Resumes a stopped channel. -/
  | dmaRestart (rq : Req) (c : Nat)
  /-- PROGRAM (R438): KEYCMD PROGRAM blows a key slot. -/
  | program 
  /-- REVOKE (R439): KEYCMD REVOKE revokes a key. -/
  | revoke 
  /-- CHALLENGE (R436): DBUCMD CHALLENGE draws a nonce. -/
  | challenge 
  /-- SUBMIT (R436): DBUCMD SUBMIT checks a token and grants enables. -/
  | submit 
  /-- RELOCK (R437): DBUCMD RELOCK clears unlocked enables. -/
  | relock 
  /-- DBGEN_LOW_WRITE (R432): LOW bits lower debug enables. -/
  | dbgenLowWrite (rq : Req) (pond : Nat) (value : Word)
  /-- KSBIND_WRITE (R527): Binds a key slot to a domain. -/
  | ksbindWrite (rq : Req) (n : Nat) (value : Word)
  /-- FREQREQ_WRITE (R471): A bound-checked CLU.FREQREQ write. -/
  | freqreqWrite (rq : Req) (cluster : Nat) (value : Word)
  /-- CAP_WRITE (R475): A bound-checked PWR.CAP write. -/
  | capWrite (rq : Req) (value : Word)
  /-- CLRFAIL (R499): Clears failure counters. -/
  | clrfail 
  /-- GP_INPUT_CHANGE (R515): A filtered GP input level changes. -/
  | gpInputChange (n : Nat) (level : Bool) (held : Nat)
  /-- PIN_STUCK_TIMEOUT (R515): Sets STUCK after TMO. -/
  | pinStuckTimeout (n : Nat)
  /-- OUTSET (R514): Drives pins high. -/
  | outset (rq : Req) (j : Nat) (bits : Word)
  /-- OUTCLR (R514): Drives pins low. -/
  | outclr (rq : Req) (j : Nat) (bits : Word)
  /-- DIGEST_SNAPSHOT (R502): SMBus 0x10 snapshots the digest. -/
  | digestSnapshot 
  /-- DIGEST_PIECE (R502): SMBus 0x11–0x17 return snapshot pieces. -/
  | digestPiece (n : Nat)
  /-- SMBUS_PWRCYC (R502): SMBus 0x20 requests a power cycle. -/
  | smbusPwrcyc (key : Nat)
  /-- SMBUS_CLRFAIL (R502): SMBus 0x21 performs CLRFAIL. -/
  | smbusClrfail (key : Nat)
  /-- SMBUS_DEVRESET (R502): SMBus 0x22 resets the device. -/
  | smbusDevreset (key : Nat)
  /-- SMBUS_TIMEOUT (R515): The bus is released after a long clock-low. -/
  | smbusTimeout 
  /-- BYPASS (R523): JTAG BYPASS. -/
  | bypass 
  /-- IDCODE (R523): JTAG IDCODE. -/
  | idcode 
  /-- SAMPLE_PRELOAD (R523): JTAG SAMPLE/PRELOAD. -/
  | samplePreload (levels : List Bool)
  /-- EXTEST (R523): JTAG EXTEST. -/
  | extest 
  /-- CLAMP (R523): JTAG CLAMP. -/
  | clamp 
  /-- HIGHZ (R523): JTAG HIGHZ. -/
  | highz 
  /-- DEBUG (R523): JTAG DEBUG opens debug access. -/
  | debug 
  /-- REGISTER_WRITE (R4): A register without a row of its own is written. -/
  | registerWrite (rq : Req) (off : Nat) (size : Nat) (value : Word)
  /-- ATB_TICK (R65): At each 1 GHz tick the ATB adds its rate to its value and updates its copies, the window activity, EX.TICK and the PTP clock. -/
  | atbTick 
  /-- ETHERNET_LINK_DOWN (R385): An Ethernet port loses its link, clears ETH.STATUS.LINK and raises an edge on source 0x040 + p. -/
  | ethernetLinkDown (port : Nat)
  /-- PCIE_LINK_DOWN (R398): The PCI Express link goes down, PEP.STATUS.LINK clears, and outbound accesses then complete with ABORTED. -/
  | pcieLinkDown 
  /-- PCIE_LINK_UP (R493): The endpoint's link completes training whenever the host allows and PEP.STATUS.LINK sets. -/
  | pcieLinkUp (speed : Nat) (width : Nat)
  /-- AVS_ALERT (R470): A quadrant regulator raises an AVSBus alert, which is counted in PWR.AVSq and sets PWR.EVENT.AVSALERT. -/
  | avsAlert (quad : Nat)
  /-- WATCH_ENTRY_TIMEOUT (R461): DEVCMD WATCH completes with TIMEOUT when a cluster that must change is not idle within 10 ms, and the device stays out of watch. -/
  | watchEntryTimeout 
  /-- SQUASHED_TAG_RELEASE (R400): A tag whose read was squashed becomes usable again after twice the completion timeout. -/
  | squashedTagRelease (tag : Nat)
  /-- DIGEST_SNAPSHOT_EXPIRY (R502): An SMBus digest snapshot that no later command 0x10 has replaced lapses after 1 s. -/
  | digestSnapshotExpiry 
deriving DecidableEq, Repr

end Sys2Proof
end

