-- ==== Sys2Proof/WellFormed.lean ====
section
/-! DEFINITION. Which commands are well formed: each operand that numbers something names one of the things the spec gives (00 R2; 01 R13,
R14; 10, 12 to 16, 18). -/

namespace Sys2Proof

/-- The agent number of a Krele core: an application core, a service core, or SEC0 (R13, R14, R113). -/
def isCore (k : Nat) : Bool := decide (k < 260) || decide (k = 0x1FF)

/-- The sizes of an access to a register in bytes (R505). -/
def sizeOk (n : Nat) : Bool := decide (n = 1) || decide (n = 2) || decide (n = 4) || decide (n = 8)

/-- A mark: one of 64 of the device, or one of 16 of a cluster. -/
def markOk (scope n : Nat) : Bool := (decide (scope = 0xFF) && decide (n < 64)) || (decide (scope < 32) && decide (n < 16))

def Hd.wf (h : Hd) : Bool := isCore h.core

/-- A request's pond tag has five bits (R23). -/
def Req.wf (r : Req) : Bool := decide (r.pond < 32)

/-- An event's source has 16 bits, and it names a slot of a cluster (R526). -/
def SluiceEv.wf (e : SluiceEv) : Bool :=
  decide (1 ≤ e.kind) && decide (e.kind ≤ 6) && decide (e.src < 65536) && decide (e.cluster < 32) && decide (e.slot < 1024) &&
  decide (e.pond < 32)

/-- A packet's fields fit its header (R327), and LEN counts its words. -/
def Pkt.wf (p : Pkt) : Bool :=
  decide (p.ver < 16) && decide (p.typ < 16) && decide (p.qos < 4) && decide (p.pond < 32) && decide (p.dst < 65536) &&
  decide (p.src < 65536) && decide (p.hops < 16) && decide (p.flags < 16) && decide (p.seq < 65536) && decide (p.stamp < 2 ^ 32) && decide (p.len ≤ 32)

/-- The well-formed commands. -/
def Instr.wf : Instr → Bool
  | .ld h _ => h.wf
  | .lds h _ => h.wf
  | .st h _ => h.wf
  | .lea h _ => h.wf
  | .add h _ => h.wf
  | .adc h _ => h.wf
  | .sub h _ => h.wf
  | .sbc h _ => h.wf
  | .andM h _ => h.wf
  | .orM h _ => h.wf
  | .xor h _ => h.wf
  | .cmp h _ => h.wf
  | .tst h _ => h.wf
  | .inc h _ => h.wf
  | .dec h _ => h.wf
  | .ldx h _ => h.wf
  | .stx h _ => h.wf
  | .ldy h _ => h.wf
  | .sty h _ => h.wf
  | .mul h _ => h.wf
  | .mulh h _ => h.wf
  | .mulhu h _ => h.wf
  | .div h _ => h.wf
  | .divu h _ => h.wf
  | .rem h _ => h.wf
  | .remu h _ => h.wf
  | .fadd h _ => h.wf
  | .fsub h _ => h.wf
  | .fmul h _ => h.wf
  | .fdiv h _ => h.wf
  | .fcmp h _ => h.wf
  | .ldi h _ => h.wf
  | .addi h _ => h.wf
  | .cmpi h _ => h.wf
  | .andi h _ => h.wf
  | .ldxi h _ => h.wf
  | .addxi h _ => h.wf
  | .ldyi h _ => h.wf
  | .addyi h _ => h.wf
  | .addsp h _ => h.wf
  | .shli h _ => h.wf
  | .shri h _ => h.wf
  | .sari h _ => h.wf
  | .roli h _ => h.wf
  | .btst h _ => h.wf
  | .bset h _ => h.wf
  | .bclr h _ => h.wf
  | .scall h _ => h.wf
  | .mcall h _ => h.wf
  | .nop h => h.wf
  | .mv h _ => h.wf
  | .xch h => h.wf
  | .neg h => h.wf
  | .not h => h.wf
  | .pusha h => h.wf
  | .popa h => h.wf
  | .pushx h => h.wf
  | .popx h => h.wf
  | .pushy h => h.wf
  | .popy h => h.wf
  | .pushf h => h.wf
  | .popf h => h.wf
  | .ret h => h.wf
  | .eret h => h.wf
  | .fret h => h.wf
  | .jmpa h => h.wf
  | .loopx h => h.wf
  | .xsync h => h.wf
  | .ifence h => h.wf
  | .fenceL h => h.wf
  | .fenceS h => h.wf
  | .fenceLs h => h.wf
  | .fenceLF h => h.wf
  | .fenceSF h => h.wf
  | .fenceLsF h => h.wf
  | .wait h => h.wf
  | .yield h => h.wf
  | .brk h => h.wf
  | .fnegD h _ => h.wf
  | .fabsD h _ => h.wf
  | .fsqrtD h _ => h.wf
  | .ldiu h _ => h.wf
  | .shldi h _ => h.wf
  | .subi h _ => h.wf
  | .ori h _ => h.wf
  | .xori h _ => h.wf
  | .tsti h _ => h.wf
  | .muli h _ => h.wf
  | .adci h _ => h.wf
  | .sbci h _ => h.wf
  | .cmpxi h _ => h.wf
  | .cmpyi h _ => h.wf
  | .shldx h _ => h.wf
  | .shldy h _ => h.wf
  | .addspi h _ => h.wf
  | .shl h _ => h.wf
  | .shr h _ => h.wf
  | .sar h _ => h.wf
  | .rol h _ => h.wf
  | .btgl h _ => h.wf
  | .bfx h _ => h.wf
  | .bfxs h _ => h.wf
  | .mfc h _ => h.wf
  | .mtc h _ => h.wf
  | .brS h _ => h.wf
  | .br h _ => h.wf
  | .call h _ _ => h.wf
  | .callI h _ _ _ => h.wf
  | .loop h _ _ _ => h.wf
  | .loopi h _ _ => h.wf
  | .macV h _ => h.wf
  | .red h _ => h.wf
  | .redC h _ => h.wf
  | .qclr h _ => h.wf
  | .swap h _ => h.wf
  | .cas h _ => h.wf
  | .ldadd h _ => h.wf
  | .ldand h _ => h.wf
  | .ldor h _ => h.wf
  | .movb h _ => h.wf
  | .fillb h _ => h.wf
  | .cmpb h _ => h.wf
  | .scanb h _ => h.wf
  | .fsqrtS h _ => h.wf
  | .fnegS h _ => h.wf
  | .fabsS h _ => h.wf
  | .fcvtDS h _ => h.wf
  | .fcvtSD h _ => h.wf
  | .fcvtDL h _ => h.wf
  | .fcvtSL h _ => h.wf
  | .fcvtLD h _ => h.wf
  | .fcvtLS h _ => h.wf
  | .fcvtzLD h _ => h.wf
  | .clz h _ => h.wf
  | .ctz h _ => h.wf
  | .popc h _ => h.wf
  | .bswap h _ => h.wf
  | .clt h _ => h.wf
  | .sett h _ => h.wf
  | .clc h _ => h.wf
  | .setc h _ => h.wf
  | .flclr h _ => h.wf
  | .wlk h _ => h.wf
  | .tlbwr h _ _ => h.wf
  | .tlbinvVa h _ => h.wf
  | .tlbinvAs h _ => h.wf
  | .tlbinvW h _ => h.wf
  | .tlbinvBVa h _ => h.wf
  | .tlbinvBAs h _ => h.wf
  | .tlbinvBW h _ => h.wf
  | .svl h _ => h.wf
  | .svu h _ => h.wf
  | .rsl h _ => h.wf
  | .rsu h _ => h.wf
  | .cpf h _ => h.wf
  | .cwb h _ => h.wf
  | .cwbi h _ => h.wf
  | .cinv h _ => h.wf
  | .swake h _ => h.wf
  | .sprio h _ => h.wf
  | .sdead h _ => h.wf
  | .pfx h _ => h.wf
  | .takeInterrupt core => isCore core
  | .fastInterrupt core => isCore core
  | .machineCheckAsync core => isCore core
  | .singleStep core => isCore core
  | .longOperationComplete core => isCore core
  | .blockElement core => isCore core
  | .storeVisible core _ _ => isCore core
  | .readResponse core _ _ => isCore core
  | .debugHalt core => isCore core
  | .haltreq rq core => rq.wf && isCore core
  | .resume rq core => rq.wf && isCore core
  | .rdataAccess rq core _ _ => rq.wf && decide (core < 256)
  | .debugPortAccess pond _ _ size _ _ => decide (pond < 32) && sizeOk size
  | .coreReset core => isCore core
  | .coreResetDrainTimeout core => isCore core
  | .sluiceEvent ev => ev.wf
  | .switchOut core => isCore core
  | .contextRestore core => isCore core
  | .sliceExpiry core => isCore core
  | .placementInterval cluster => decide (cluster < 32)
  | .ctxCreate cluster => decide (cluster < 32)
  | .ctxWake cluster => decide (cluster < 32)
  | .ctxStop cluster => decide (cluster < 32)
  | .ctxStart cluster => decide (cluster < 32)
  | .ctxRelease cluster => decide (cluster < 32)
  | .ctxMove cluster => decide (cluster < 32)
  | .ctxdataWrite rq cluster j _ => rq.wf && decide (cluster < 32) && decide (j < 8)
  | .clusterTimerExpiry cluster n => decide (cluster < 32) && decide (n < 16)
  | .sourceEdge src _ => decide (src < 2048)
  | .boundEventReoffer cluster => decide (cluster < 32)
  | .eoi rq src => rq.wf && decide (src < 2048)
  | .pendset rq j _ => rq.wf && decide (j < 32)
  | .pendclr rq j _ => rq.wf && decide (j < 32)
  | .maskset rq j _ => rq.wf && decide (j < 32)
  | .maskclr rq j _ => rq.wf && decide (j < 32)
  | .markFire scope n => markOk scope n
  | .markRegisterWrite rq scope n j size _ => rq.wf && markOk scope n && decide (j < 4) && sizeOk size
  | .evaluationCycle p _ => decide (p < 8)
  | .sourceLost p => decide (p < 8)
  | .holdoverExpiry => true
  | .atbSettingWrite rq setting _ => rq.wf && decide (setting < 4)
  | .encoderEdge _ => true
  | .protectRise => true
  | .protectFall => true
  | .ptpstep rq _ => rq.wf
  | .flitReceive stop port _ _ => decide (stop < 64) && decide (port < 4)
  | .getcopy _ _ => true
  | .getown _ _ => true
  | .promote _ _ => true
  | .peekline _ rq _ => rq.wf
  | .putfull _ rq _ _ _ _ _ => rq.wf
  | .putpartial _ rq _ _ => rq.wf
  | .dropdirty _ _ => true
  | .dropclean _ _ => true
  | .probedemote _ _ => true
  | .probetake _ _ => true
  | .probeTake core _ => isCore core
  | .probepeek _ _ => true
  | .probeclear _ _ => true
  | .evictionAck _ _ => true
  | .atomicHoldExpiry core => isCore core
  | .dirprobe slice => decide (slice < 32)
  | .tlbinvBArrival core => isCore core
  | .tlbinvBTimeout core => isCore core
  | .checkSlotA => true
  | .checkSlotB => true
  | .submitAmendment => true
  | .moveCluster => true
  | .moveFunction => true
  | .moveDma => true
  | .moveIrq => true
  | .setBound => true
  | .setHold => true
  | .clearHold => true
  | .setDebug => true
  | .setMark => true
  | .setShare => true
  | .setCap => true
  | .deviceStart _ => true
  | .bootStepTimeout _ _ => true
  | .stoppingHoldExpiry => true
  | .resetN _ => true
  | .powerOn => true
  | .devreset _ => true
  | .pwrcyc _ => true
  | .pwrcycRelease => true
  | .undervoltage _ => true
  | .thermalShutdown _ _ _ => true
  | .thermalLimitStep _ _ => true
  | .powerCapStep _ => true
  | .avsLoopStep quad _ _ _ _ _ => decide (quad < 4)
  | .droop cluster _ => decide (cluster < 32)
  | .heldDomainLost dom => decide (dom < 53)
  | .powerGoodReturn dom => decide (dom < 53)
  | .domainRequestOn rq dom => rq.wf && decide (dom < 53)
  | .domainRequestClockGate rq dom => rq.wf && decide (dom < 53)
  | .domainRequestRetention rq dom => rq.wf && decide (dom < 53)
  | .domainRequestOff rq dom => rq.wf && decide (dom < 53)
  | .domainTransitionDone dom => decide (dom < 53)
  | .domainRequestTimeout dom => decide (dom < 53)
  | .clusterIdle cluster => decide (cluster < 53)
  | .idleTimeout cluster => decide (cluster < 32)
  | .domainWake dom => decide (dom < 53)
  | .wakeLead cluster => decide (cluster < 32)
  | .watch => true
  | .off => true
  | .watchSequencerInterval _ => true
  | .wakeSenseRise => true
  | .floor => true
  | .floorup => true
  | .recordStoreWrite rq _ _ => rq.wf
  | .errorRecord quad _ => decide (quad < 4)
  | .selfTestComplete quad _ _ _ => decide (quad < 4)
  | .bucketLeak _ => true
  | .dramRecordSave => true
  | .laneSettingsSave => true
  | .avsRecordSave => true
  | .digestUpdate => true
  | .channelRead ch _ pond _ _ => decide (ch < 16) && decide (pond < 32)
  | .channelWrite ch _ _ pond _ _ => decide (ch < 16) && decide (pond < 32)
  | .refreshDue ch rank => decide (ch < 16) && decide (rank < 4)
  | .zqCalibration ch rank => decide (ch < 16) && decide (rank < 4)
  | .retraining ch _ _ => decide (ch < 16)
  | .scrubRead ch _ => decide (ch < 16)
  | .rowIdleTimeout ch _ => decide (ch < 16)
  | .crcAlert ch rank _ _ => decide (ch < 16) && decide (rank < 4)
  | .sparecmd ch => decide (ch < 16)
  | .migrationCopy ch _ => decide (ch < 16)
  | .shareWrite rq ch pond _ => rq.wf && decide (ch < 16) && decide (pond < 32)
  | .hselClr rq ch _ => rq.wf && decide (ch < 16)
  | .codewordReceive port _ _ _ => decide (port < 128)
  | .linkDown port _ => decide (port < 128)
  | .linkLock port => decide (port < 128)
  | .hello port pk => decide (port < 128) && pk.wf
  | .helloSend port => decide (port < 128)
  | .write port pk _ => decide (port < 128) && pk.wf
  | .twrite port pk => decide (port < 128) && pk.wf
  | .read port pk _ => decide (port < 128) && pk.wf
  | .rdata port pk => decide (port < 128) && pk.wf
  | .cpl port pk => decide (port < 128) && pk.wf
  | .doorbell port pk => decide (port < 128) && pk.wf
  | .tdoorbell port pk => decide (port < 128) && pk.wf
  | .topo port pk => decide (port < 128) && pk.wf
  | .addr port pk => decide (port < 128) && pk.wf
  | .route port pk => decide (port < 128) && pk.wf
  | .refuse port pk => decide (port < 128) && pk.wf
  | .portdown port pk => decide (port < 128) && pk.wf
  | .drain port pk => decide (port < 128) && pk.wf
  | .digestreq port pk => decide (port < 128) && pk.wf
  | .digest port pk => decide (port < 128) && pk.wf
  | .sync port pk => decide (port < 128) && pk.wf
  | .dreq port pk => decide (port < 128) && pk.wf
  | .drsp port pk => decide (port < 128) && pk.wf
  | .packetForward port pk => decide (port < 128) && pk.wf
  | .outboundPacketSend _ _ => true
  | .responseTimeout _ => true
  | .tdbRelease group => decide (group < 8)
  | .becomeHeadwater => true
  | .beacon => true
  | .headwaterLost => true
  | .mgmtRetry _ => true
  | .dreqSend port => decide (port < 128)
  | .syncSend => true
  | .tmlost => true
  | .drainWrite rq _ => rq.wf
  | .rejoin rq => rq.wf
  | .drained => true
  | .timedSendGo slot => decide (slot < 64)
  | .timedControlWrite rq core _ _ => rq.wf && decide (core < 256)
  | .reserveCodeword group _ _ => decide (group < 8)
  | .spareRequestTimeout group => decide (group < 8)
  | .spareGo group => decide (group < 8)
  | .laneFault lane => decide (lane < 136)
  | .laneTrainingDone lane _ _ _ => decide (lane < 136)
  | .savedTrainingTimeout lane => decide (lane < 136)
  | .nearEndLoopback lane => decide (lane < 136)
  | .farEndLoopback lane => decide (lane < 136)
  | .prbsTest lane => decide (lane < 136)
  | .laneTestEnd lane _ => decide (lane < 136)
  | .frameReceive port _ _ => decide (port < 128)
  | .frameTransmit port _ => decide (port < 128)
  | .ringItimeExpiry port ring => decide (port < 128) && decide (ring < 4)
  | .ringRestart rq port ring => rq.wf && decide (port < 128) && decide (ring < 4)
  | .bar0Request fn _ size _ _ => decide (fn < 129) && sizeOk size
  | .bar2Read fn _ _ => decide (fn < 129)
  | .bar2Write fn _ _ _ => decide (fn < 129)
  | .expansionRomRead _ _ => true
  | .configWrite fn _ size _ => decide (fn < 129) && (decide (size = 1) || decide (size = 2) || decide (size = 4))
  | .busMasterDisable fn => decide (fn < 129)
  | .flr fn => decide (fn < 129)
  | .flrComplete fn => decide (fn < 129)
  | .vfEnableClear => true
  | .hdb fn _ => decide (fn < 129)
  | .sqtdb fn q _ => decide (fn < 129) && decide (q < 64)
  | .cqhdb fn q _ => decide (fn < 129) && decide (q < 64)
  | .qctlWrite fn q _ => decide (fn < 129) && decide (q < 64)
  | .enable => true
  | .disable => true
  | .setlimit => true
  | .jobRingHead => true
  | .completionRingTail => true
  | .outboundAccess => true
  | .pcieCompletion _ _ _ _ => true
  | .completionTimeout _ => true
  | .cpltimeoutWrite rq fn _ => rq.wf && decide (fn < 129)
  | .dlctlSelWrite v _ => decide (v < 129)
  | .dmaTailWrite rq c _ => rq.wf && decide (c < 64)
  | .dmaDescriptorComplete c => decide (c < 64)
  | .dmaRestart rq c => rq.wf && decide (c < 64)
  | .program => true
  | .revoke => true
  | .challenge => true
  | .submit => true
  | .relock => true
  | .dbgenLowWrite rq pond _ => rq.wf && decide (pond < 32)
  | .ksbindWrite rq n _ => rq.wf && decide (n < 16)
  | .freqreqWrite rq cluster _ => rq.wf && decide (cluster < 32)
  | .capWrite rq _ => rq.wf
  | .clrfail => true
  | .gpInputChange n _ _ => decide (n < 256)
  | .pinStuckTimeout n => decide (n < 256)
  | .outset rq j _ => rq.wf && decide (j < 4)
  | .outclr rq j _ => rq.wf && decide (j < 4)
  | .digestSnapshot => true
  | .digestPiece n => decide (0x11 ≤ n) && decide (n < 0x18)
  | .smbusPwrcyc _ => true
  | .smbusClrfail _ => true
  | .smbusDevreset _ => true
  | .smbusTimeout => true
  | .bypass => true
  | .idcode => true
  | .samplePreload _ => true
  | .extest => true
  | .clamp => true
  | .highz => true
  | .debug => true
  | .registerWrite rq _ size _ => rq.wf && sizeOk size
  | .atbTick => true
  | .ethernetLinkDown port => decide (port < 128)
  | .pcieLinkDown => true
  | .pcieLinkUp speed width => decide (1 ≤ speed) && decide (speed ≤ 5) && [1, 2, 4, 8, 16].contains width
  | .avsAlert quad => decide (quad < 4)
  | .watchEntryTimeout => true
  | .squashedTagRelease _ => true
  | .digestSnapshotExpiry => true

end Sys2Proof
end

