-- ==== Sys2Proof/Decode.lean ====
section
/-! DEFINITION. The encoding of Krele instructions (05 R126 to R128, R136 to R150), and the commands that a word spells by the table's
bits: the table gives no row any bits, so no word spells one (log entry 30). -/

namespace Sys2Proof

/-! ### Krele words -/

/-- The length in bytes of the instruction whose first parcel is in bits 15:0 (R126). -/
def insnLen (w : BitVec 32) : Nat := if w.toNat % 4 = 3 then 4 else 2

/-- Bits `hi` to `lo` of an instruction word. -/
def wordBits (w : BitVec 32) (hi lo : Nat) : Nat := w.toNat / 2 ^ lo % 2 ^ (hi - lo + 1)

/-- The instruction that a list names by its place; none for a reserved place. -/
def nth {α : Type} (l : List (Option (α → Instr))) (n : Nat) (a : α) : Option Instr := (l.getD n none).map (fun c => c a)

/-- The M opcodes (R136); S0 opcode n is the one at `s0Ops`. -/
def mOps (h : Hd) : List (Option (MemOp → Instr)) :=
  [some (.ld h), some (.lds h), some (.st h), some (.lea h), some (.add h), some (.adc h), some (.sub h), some (.sbc h)] ++
  [some (.andM h), some (.orM h), some (.xor h), some (.cmp h), some (.tst h), some (.inc h), some (.dec h), some (.ldx h)] ++
  [some (.stx h), some (.ldy h), some (.sty h), some (.mul h), some (.mulh h), some (.mulhu h), some (.div h), some (.divu h)] ++
  [some (.rem h), some (.remu h), some (.fadd h), some (.fsub h), some (.fmul h), some (.fdiv h), some (.fcmp h), none]

/-- The M opcodes that the S0 opcodes 0x0 to 0xF name, in order (R136). -/
def s0Ops : List Nat := [0x00, 0x02, 0x04, 0x06, 0x08, 0x09, 0x0A, 0x0B, 0x0F, 0x10, 0x11, 0x12, 0x1A, 0x1B, 0x1C, 0x1E]

/-- Group G by imm7 (R138); MV's forms are 0x01 to 0x08. -/
def groupG (h : Hd) (n : Nat) : Option Instr :=
  if 1 ≤ n ∧ n ≤ 8 then some (.mv h (BitVec.ofNat 4 n))
  else
    List.lookup n (([(0x00, .nop h), (0x09, .xch h), (0x0A, .neg h), (0x0B, .not h), (0x0C, .pusha h), (0x0D, .popa h), (0x0E, .pushx h),
      (0x0F, .popx h), (0x10, .pushy h), (0x11, .popy h), (0x12, .pushf h), (0x13, .popf h), (0x14, .ret h)] ++
     [(0x15, .eret h), (0x16, .fret h), (0x17, .jmpa h), (0x18, .loopx h), (0x19, .xsync h), (0x1A, .ifence h), (0x1B, .fenceL h),
      (0x1C, .fenceS h), (0x1D, .fenceLs h), (0x1E, .fenceLF h), (0x1F, .fenceSF h), (0x20, .fenceLsF h), (0x21, .wait h)] ++
     [(0x22, .yield h), (0x23, .brk h), (0x24, .fnegD h 0), (0x25, .fabsD h 0), (0x26, .fsqrtD h 0)]) : List (Nat × Instr))

/-- The S1 opcodes (R137). -/
def s1Op (h : Hd) (op imm : Nat) : Option Instr :=
  let i16 := BitVec.ofNat 16 imm
  let i7 := BitVec.ofNat 7 imm
  if op = 0x10 then groupG h imm
  else
    List.lookup op (([(0x00, .ldi h i16), (0x01, .addi h i16), (0x02, .cmpi h i16), (0x03, .andi h i16), (0x04, .ldxi h i16), (0x05, .addxi h i16),
      (0x06, .ldyi h i16), (0x07, .addyi h i16), (0x08, .addsp h i7), (0x09, .shli h i7)] ++
     [(0x0A, .shri h i7), (0x0B, .sari h i7), (0x0C, .roli h i7), (0x0D, .btst h i16), (0x0E, .bset h i16), (0x0F, .bclr h i16),
      (0x11, .scall h i7), (0x12, .mcall h i7)]) : List (Nat × Instr))

/-- The 16-bit condition codes of R97. -/
def shortCond (c : Nat) : BitVec 4 := if c = 3 then 15#4 else BitVec.ofNat 4 c

/-- The 16-bit formats (R127). -/
def krele16 (h0 : Hd) (w : BitVec 32) : Option Instr :=
  let h : Hd := { h0 with short := true, cond := shortCond (wordBits w 15 14) }
  match w.toNat % 4 with
  | 0 =>
    nth (mOps h) (s0Ops.getD (wordBits w 13 10) 0x1F)
      { size := 3#2, mode := BitVec.ofNat 4 (wordBits w 9 7), disp := BitVec.ofNat 10 (wordBits w 6 2), seg := 0#3, ov := false }
  | 1 => s1Op h (wordBits w 13 9) (wordBits w 8 2)
  | _ => some (.brS h (BitVec.ofNat 12 (wordBits w 13 2)))

/-- The I opcodes by op and sub (R139 to R142, R149). A LOOP's end is taken as a 32-bit instruction. -/
def iOp (h : Hd) (op sub : Nat) (imm : BitVec 16) (w : BitVec 32) : Option Instr :=
  match op with
  | 0 => nth (α := BitVec 16) [some (.ldi h), some (.ldiu h), some (.shldi h), some (.addi h), some (.subi h), some (.cmpi h), some (.andi h), some (.ori h),
      some (.xori h), some (.tsti h), some (.muli h), some (.adci h), some (.sbci h)] sub imm
  | 1 => nth [some (.ldxi h), some (.addxi h), some (.cmpxi h), some (.shldx h), some (.ldyi h), some (.addyi h), some (.cmpyi h), some (.shldy h),
      some (.addspi h)] sub imm
  | 2 => nth [some (.shl h), some (.shr h), some (.sar h), some (.rol h), some (.btst h), some (.bset h), some (.bclr h), some (.btgl h), some (.bfx h),
      some (.bfxs h)] sub imm
  | 3 => if sub ≤ 2 then some (.loop h (BitVec.ofNat 4 sub) imm false) else if sub = 3 then some (.loopi h imm false) else none
  | 4 => nth [some (.mfc h), some (.mtc h)] sub imm
  | 5 =>
    if sub = 0 then some (.macV h
      { n := BitVec.ofNat 7 imm.toNat, bit7 := imm.getLsbD 7, xov := imm.getLsbD 15, xseg := BitVec.ofNat 3 (imm.toNat / 4096)
        yov := imm.getLsbD 11, yseg := BitVec.ofNat 3 (imm.toNat / 256) })
    else nth [none, some (.red h), some (.redC h), some (.qclr h)] sub imm
  | 6 => nth [some (.swake h), some (.sprio h), some (.sdead h)] sub imm
  | _ => some (.callI h (BitVec.ofNat 8 (wordBits w 27 20)) (BitVec.ofNat 8 (wordBits w 19 12)) (BitVec.ofNat 4 (wordBits w 11 8)))

/-- The functions of K majors 0 and 2 (R147, R148), each with its place. -/
def kFunc0 (h : Hd) (z : BitVec 12) : List (Nat × Instr) :=
  [(0x00, .fsqrtS h z), (0x01, .fsqrtD h z), (0x02, .fnegS h z), (0x03, .fnegD h z), (0x04, .fabsS h z), (0x05, .fabsD h z), (0x06, .fcvtDS h z),
   (0x07, .fcvtSD h z), (0x08, .fcvtDL h z), (0x09, .fcvtSL h z), (0x0A, .fcvtLD h z), (0x0B, .fcvtLS h z)] ++
  [(0x0C, .fcvtzLD h z), (0x10, .clz h z), (0x11, .ctz h z), (0x12, .popc h z), (0x13, .bswap h z), (0x40, .clt h z), (0x41, .sett h z),
   (0x42, .clc h z), (0x43, .setc h z), (0x44, .flclr h z)]
def kFunc2 (h : Hd) (z : BitVec 12) : List (Nat × Instr) :=
  [(0x00, .wlk h z), (0x01, .tlbwr h z []), (0x02, .tlbinvVa h z), (0x03, .tlbinvAs h z), (0x04, .tlbinvW h z), (0x05, .tlbinvBVa h z),
   (0x06, .tlbinvBAs h z), (0x07, .tlbinvBW h z), (0x10, .svl h z), (0x11, .svu h z), (0x12, .rsl h z), (0x13, .rsu h z)]

/-- The K format by major (R144, R145, R147, R148). -/
def kOp (h : Hd) (w : BitVec 32) : Option Instr :=
  let fn := wordBits w 15 8
  let z := BitVec.ofNat 12 (wordBits w 27 16)
  match wordBits w 7 6 with
  | 0 => (kFunc0 h z).lookup fn
  | 1 =>
    nth [some (.swap h), some (.cas h), some (.ldadd h), some (.ldand h), some (.ldor h)] (wordBits w 27 25)
      { ord := BitVec.ofNat 2 (wordBits w 24 23), size := BitVec.ofNat 2 (wordBits w 22 21), mode := BitVec.ofNat 4 (wordBits w 20 17)
        ov := w.getLsbD 16, seg := BitVec.ofNat 3 (wordBits w 15 13), d5 := BitVec.ofNat 5 (wordBits w 12 8) }
  | 2 =>
    if 0x20 ≤ fn ∧ fn ≤ 0x23 then
      nth [some (.cpf h), some (.cwb h), some (.cwbi h), some (.cinv h)] (fn - 0x20)
        { ov := w.getLsbD 19, seg := BitVec.ofNat 3 (wordBits w 18 16), z := BitVec.ofNat 8 (wordBits w 27 20) }
    else (kFunc2 h z).lookup fn
  | _ =>
    nth [some (.movb h), some (.fillb h), some (.cmpb h), some (.scanb h)] fn
      { dov := w.getLsbD 27, dseg := BitVec.ofNat 3 (wordBits w 26 24), sov := w.getLsbD 23, sseg := BitVec.ofNat 3 (wordBits w 22 20)
        bit19 := w.getLsbD 19, dir := w.getLsbD 18, size := BitVec.ofNat 2 (wordBits w 17 16) }

/-- The 32-bit formats (R127). -/
def krele32 (h0 : Hd) (w : BitVec 32) : Option Instr :=
  let h : Hd := { h0 with short := false, cond := BitVec.ofNat 4 (wordBits w 31 28) }
  match wordBits w 4 2 with
  | 0 | 1 | 2 | 3 =>
    nth (mOps h) (4 * wordBits w 7 5 + wordBits w 3 2)
      { size := BitVec.ofNat 2 (wordBits w 17 16), mode := BitVec.ofNat 4 (wordBits w 15 12), disp := BitVec.ofNat 10 (wordBits w 27 18)
        seg := BitVec.ofNat 3 (wordBits w 11 9), ov := w.getLsbD 8 }
  | 4 => some (.br h (BitVec.ofNat 23 (wordBits w 27 5)))
  | 5 => some (.call h (BitVec.ofNat 7 (wordBits w 27 21)) (BitVec.ofNat 16 (wordBits w 20 5)))
  | 6 => iOp h (wordBits w 7 5) (wordBits w 11 8) (BitVec.ofNat 16 (wordBits w 27 12)) w
  | _ => if w.getLsbD 5 then some (.pfx h (BitVec.ofNat 22 (wordBits w 27 6))) else kOp h w

/-- The instruction that a Krele word spells on an agent (R126, R127): its fields as they stand, also where R128 leaves their value
unallocated; none where its opcode, sub-opcode or function is reserved. -/
def kreleWord (h : Hd) (w : BitVec 32) : Option Instr := if insnLen w = 4 then krele32 h w else krele16 h w

/-- The length of an instruction: that of the parcels fetched, when the command gives them. -/
def Hd.len (h : Hd) : Nat := match h.raw with
  | some w => insnLen w
  | none => if h.short then 2 else 4

/-- Whether the parcels that the command gives spell an instruction of its length (R128). -/
def Hd.spelt (h : Hd) : Bool := match h.raw with
  | some w => (kreleWord h w).isSome && (decide (insnLen w = 2) == h.short)
  | none => true

/-! ### The table's words -/

/-- The command that a word spells by the table's bits: none, since no row of the table has bits. -/
def decodeTableWord (_nbits _w : Nat) : Option Instr := none

end Sys2Proof
end

