-- ==== Sys2Proof/Machine/Bits.lean ====
section
/-! DEFINITION. Bit fields, sign extension and byte order (00 "Bits and ranges": a field is written with its upper
bit first, and multi-byte values are little-endian). -/

namespace Sys2Proof.Machine

/-- The field `hi:lo` of a word, as a number. -/
def fld (w : Word) (hi lo : Nat) : Nat := (w.toNat >>> lo) % 2 ^ (hi + 1 - lo)

/-- Bit `i` of a word. -/
def bit (w : Word) (i : Nat) : Bool := w.getLsbD i

/-- The word whose bits `hi:lo` are all ones. -/
def maskOf (hi lo : Nat) : Word := BitVec.ofNat 64 ((2 ^ (hi + 1 - lo) - 1) <<< lo)

/-- The word with the field `hi:lo` replaced by `v` (its excess bits dropped). -/
def setFld (w : Word) (hi lo v : Nat) : Word :=
  (w &&& ~~~(maskOf hi lo)) ||| (BitVec.ofNat 64 (v <<< lo) &&& maskOf hi lo)

/-- The word with bit `i` set to `b`. -/
def setBit (w : Word) (i : Nat) (b : Bool) : Word := setFld w i i b.toNat

/-- A number as a word, modulo 2^64. -/
def word (n : Nat) : Word := BitVec.ofNat 64 n

/-- The low `bits` bits of `w`, sign-extended to 64 (R132). -/
def sextW (w : Word) (bits : Nat) : Word :=
  if bits = 0 then 0
  else if bits ≥ 64 then w
  else if w.getLsbD (bits - 1) then w ||| (~~~(BitVec.ofNat 64 (2 ^ bits - 1)))
  else w &&& BitVec.ofNat 64 (2 ^ bits - 1)

/-- The low `bits` bits of `w`, zero-extended (R132). -/
def zextW (w : Word) (bits : Nat) : Word :=
  if bits ≥ 64 then w else w &&& BitVec.ofNat 64 (2 ^ bits - 1)

/-- The `n` bytes of `v`, little-endian. -/
def bytesLE : Nat → Nat → List Byte
  | 0, _ => []
  | n + 1, v => BitVec.ofNat 8 v :: bytesLE n (v / 256)

/-- The number that a list of bytes holds, little-endian. -/
def ofBytesLE : List Byte → Nat
  | [] => 0
  | b :: bs => b.toNat + 256 * ofBytesLE bs

/-- The number that a list of bytes holds, big-endian. -/
def ofBytesBE (bs : List Byte) : Nat := bs.foldl (fun acc b => acc * 256 + b.toNat) 0

/-- The `n` bytes of `v`, big-endian. -/
def bytesBE (n v : Nat) : List Byte := (bytesLE n v).reverse

/-- The field of `len` bytes at offset `off` of a byte string, little-endian; bytes beyond its end read as zero. -/
def leAt (bs : List Byte) (off len : Nat) : Nat := ofBytesLE ((bs.drop off).take len)

/-- A byte string with `len` bytes at `off` replaced by those of `v`. -/
def lePut (bs : List Byte) (off len v : Nat) : List Byte :=
  bs.take off ++ bytesLE len v ++ bs.drop (off + len)

/-- Count up to a ceiling: a saturating counter (R6, R11). -/
def satAdd (max a b : Nat) : Nat := min max (a + b)

/-- Bit `i` of a number. -/
def nbit (n i : Nat) : Bool := n.testBit i

/-- The set bits of `n` below `k`, ascending. -/
def setBits (n k : Nat) : List Nat := (List.range k).filter (fun i => n.testBit i)

/-- Two's-complement reading of a word. -/
def sInt (w : Word) : Int := w.toInt

/-- An integer as a word, modulo 2^64. -/
def wordOfInt (i : Int) : Word := BitVec.ofInt 64 i

end Sys2Proof.Machine
end

