-- ==== Sys2Proof/Machine/Crypto.lean ====
section
/-! DEFINITION. The checks and signatures of the spec: CRC-32 (02 R39), CRC-16 and CRC-8 where chapters name them, SHA-384
and ECDSA on P-384 (02 R38, FIPS 180-4 and FIPS 186-5). -/

namespace Sys2Proof.Machine

/-- One bit of a reflected CRC with a polynomial in reflected form. -/
def crcBit (poly c : Nat) : Nat := if c % 2 = 1 then (c / 2) ^^^ poly else c / 2

/-- One byte of a reflected CRC. -/
def crcByte (poly c : Nat) (b : Byte) : Nat :=
  (List.range 8).foldl (fun c _ => crcBit poly c) (c ^^^ b.toNat)

/-- CRC-32 of R39: polynomial 0x04C11DB7 reflected, initial value and final XOR 0xFFFFFFFF. -/
def crc32 (bs : List Byte) : Nat := (bs.foldl (crcByte 0xEDB88320) 0xFFFFFFFF) ^^^ 0xFFFFFFFF

/-- One byte of an unreflected CRC of `n` bits, most significant bit first. -/
def crcMsbByte (n poly c : Nat) (b : Byte) : Nat :=
  (List.range 8).foldl (fun c _ =>
    if c / 2 ^ (n - 1) % 2 = 1 then (c * 2 ^^^ poly) % 2 ^ n else c * 2 % 2 ^ n) (c ^^^ (b.toNat * 2 ^ (n - 8)))

/-- The constants of rounds 0 to 19 in one number, the first most significant (FIPS 180-4, 4.2.3). -/
def shaConst0 : Nat := 0x428A2F98D728AE227137449123EF65CDB5C0FBCFEC4D3B2FE9B5DBA58189DBBC3956C25BF348B53859F111F1B605D019923F82A4AF194F9BAB1C5ED5DA6D8118D807AA98A303024212835B0145706FBE243185BE4EE4B28C550C7DC3D5FFB4E272BE5D74F27B896F80DEB1FE3B1696B19BDC06A725C71235C19BF174CF692694E49B69C19EF14AD2EFBE4786384F25E30FC19DC68B8CD5B5240CA1CC77AC9C65

/-- The constants of rounds 20 to 39 in one number, the first most significant (FIPS 180-4, 4.2.3). -/
def shaConst1 : Nat := 0x2DE92C6F592B02754A7484AA6EA6E4835CB0A9DCBD41FBD476F988DA831153B5983E5152EE66DFABA831C66D2DB43210B00327C898FB213FBF597FC7BEEF0EE4C6E00BF33DA88FC2D5A79147930AA72506CA6351E003826F142929670A0E6E7027B70A8546D22FFC2E1B21385C26C9264D2C6DFC5AC42AED53380D139D95B3DF650A73548BAF63DE766A0ABB3C77B2A881C2C92E47EDAEE692722C851482353B

/-- The constants of rounds 40 to 59 in one number, the first most significant (FIPS 180-4, 4.2.3). -/
def shaConst2 : Nat := 0xA2BFE8A14CF10364A81A664BBC423001C24B8B70D0F89791C76C51A30654BE30D192E819D6EF5218D69906245565A910F40E35855771202A106AA07032BBD1B819A4C116B8D2D0C81E376C085141AB532748774CDF8EEB9934B0BCB5E19B48A8391C0CB3C5C95A634ED8AA4AE3418ACB5B9CCA4F7763E373682E6FF3D6B2B8A3748F82EE5DEFB2FC78A5636F43172F6084C87814A1F0AB728CC702081A6439EC

/-- The constants of rounds 60 to 79 in one number, the first most significant (FIPS 180-4, 4.2.3). -/
def shaConst3 : Nat := 0x90BEFFFA23631E28A4506CEBDE82BDE9BEF9A3F7B2C67915C67178F2E372532BCA273ECEEA26619CD186B8C721C0C207EADA7DD6CDE0EB1EF57D4F7FEE6ED17806F067AA72176FBA0A637DC5A2C898A6113F9804BEF90DAE1B710B35131C471B28DB77F523047D8432CAAB7B40C724933C9EBE0A15C9BEBC431D67C49C100D4C4CC5D4BECB3E42B6597F299CFC657E2A5FCB6FAB3AD6FAEC6C44198C4A475817

/-- The `n` words of 64 bits that a number holds, the most significant first. -/
def wordsBE (n v : Nat) : List Word := (List.range n).map (fun i => BitVec.ofNat 64 (v / 2 ^ (64 * (n - 1 - i))))

/-- The constant of each of the 80 rounds. -/
def shaConsts : List Word := [shaConst0, shaConst1, shaConst2, shaConst3].flatMap (wordsBE 20)

/-- The exclusive or of some rotations of a word. -/
def rotSum (rs : List Nat) (w : Word) : Word := rs.foldl (fun x r => x ^^^ w.rotateRight r) 0

/-- The message words of a block, latest first: sixteen from its bytes, then each from those 2, 7, 15 and 16 places before. -/
def shaWords (block : Nat) : List Word :=
  (List.range 64).foldl (fun ws _ =>
    let at_ (k : Nat) : Word := ws.getD (k - 1) 0
    ((rotSum [19, 61] (at_ 2) ^^^ (at_ 2) >>> 6) + at_ 7 + (rotSum [1, 8] (at_ 15) ^^^ (at_ 15) >>> 7) + at_ 16) :: ws)
    (wordsBE 16 block).reverse

/-- The hash as two sequences, each latest first: the variables a to d of FIPS 180-4 are the last four values of the one, e to h those
of the other. -/
structure ShaRun where
  up  : List Word
  low : List Word
deriving DecidableEq, Repr

/-- The initial value of SHA-384 (FIPS 180-4, 5.3.4). -/
def ShaRun.init : ShaRun :=
  { up := wordsBE 4 0xCBBB9D5DC1059ED8629A292A367CD5079159015A3070DD17152FECD8F70E5939
    low := wordsBE 4 0x67332667FFC00B318EB44A8768581511DB0C2E0D64F98FA747B5481DBEFA4FA4 }

/-- A round adds one value to each sequence: with `kw` its constant and message word. -/
def ShaRun.round (s : ShaRun) (kw : Word) : ShaRun :=
  let u (k : Nat) : Word := s.up.getD k 0
  let l (k : Nat) : Word := s.low.getD k 0
  let choose := l 2 ^^^ (l 0 &&& (l 1 ^^^ l 2))
  let major := (u 0 &&& u 1) ||| (u 2 &&& (u 0 ||| u 1))
  let t := l 3 + rotSum [14, 18, 41] (l 0) + choose + kw
  { up := (t + rotSum [28, 34, 39] (u 0) + major) :: s.up.take 3, low := (u 3 + t) :: s.low.take 3 }

/-- A block of 1,024 bits is taken in. -/
def ShaRun.block (s : ShaRun) (block : Nat) : ShaRun :=
  let r := ((shaWords block).reverse.zip shaConsts).foldl (fun r x => r.round (x.1 + x.2)) s
  { up := s.up.zipWith (· + ·) r.up, low := s.low.zipWith (· + ·) r.low }

/-- SHA-384 of a byte string, as a number of 384 bits, first byte most significant: the message and a 1 bit are padded with zeros to 128
bits below a whole block, and the length in bits ends it. -/
def sha384 (bs : List Byte) : Nat :=
  let bits := 8 * bs.length
  let n := (bits + 129 + 1023) / 1024
  let msg := (ofBytesBE bs * 2 + 1) * 2 ^ (1024 * n - bits - 1) + bits
  let s := (List.range n).foldl (fun s i => s.block (msg / 2 ^ (1024 * (n - 1 - i)) % 2 ^ 1024)) ShaRun.init
  (s.up ++ s.low.take 2).foldl (fun v w => v * 2 ^ 64 + w.toNat) 0

/-- The prime, the order, the coefficient b and the base point of P-384 (FIPS 186-5). -/
def p384P : Nat := 2 ^ 384 - 2 ^ 128 - 2 ^ 96 + 2 ^ 32 - 1
def p384N : Nat := 0xFFFFFFFFFFFFFFFFFFFFFFFFFFFFFFFFFFFFFFFFFFFFFFFFC7634D81F4372DDF581A0DB248B0A77AECEC196ACCC52973
def p384B : Nat := 0xB3312FA7E23EE7E4988E056BE3F82D19181D9C6EFE8141120314088F5013875AC656398D8A2ED19D2A85C8EDD3EC2AEF
def p384Gx : Nat := 0xAA87CA22BE8B05378EB1C71EF320AD746E1D3B628BA79B9859F741E082542A385502F25DBF55296C3A545E3872760AB7
def p384Gy : Nat := 0x3617DE4A96262C6F5D9E98BF9292DC29F8F41DBD289A147CE9DA3113B5F0B8C00A60B1CE1D7E819D7A431D7C90EA0E5F

/-- `b ^ e mod m`, the low `n` bits of the exponent. -/
def powMod : Nat → Nat → Nat → Nat → Nat
  | 0, _, _, m => 1 % m
  | n + 1, b, e, m => (if e % 2 = 1 then b else 1) * powMod n (b * b % m) (e / 2) m % m

/-- The inverse modulo a prime of 384 bits. -/
def invMod (a m : Nat) : Nat := powMod 384 (a % m) (m - 2) m

/-- A point of the curve in Jacobian coordinates; z = 0 is the point at infinity. -/
structure Jac where
  x : Nat
  y : Nat
  z : Nat
deriving DecidableEq, Repr

def Jac.inf : Jac := { x := 1, y := 1, z := 0 }

/-- Subtraction modulo p. -/
def subP (a b : Nat) : Nat := (a + p384P - b % p384P) % p384P

/-- Double a point (the curve's a is -3). -/
def Jac.dbl (q : Jac) : Jac :=
  if q.z = 0 ∨ q.y = 0 then Jac.inf
  else
    let y2 := q.y * q.y % p384P
    let s := 4 * q.x * y2 % p384P
    let z2 := q.z * q.z % p384P
    let m := 3 * (subP q.x z2) * (q.x + z2) % p384P
    let x3 := subP (subP (m * m % p384P) s) s
    { x := x3, y := subP (m * subP s x3 % p384P) (8 * y2 * y2 % p384P), z := 2 * q.y * q.z % p384P }

/-- Add two points. -/
def Jac.add (q r : Jac) : Jac :=
  if q.z = 0 then r
  else if r.z = 0 then q
  else
    let qz2 := q.z * q.z % p384P
    let rz2 := r.z * r.z % p384P
    let u1 := q.x * rz2 % p384P
    let u2 := r.x * qz2 % p384P
    let s1 := q.y * (rz2 * r.z % p384P) % p384P
    let s2 := r.y * (qz2 * q.z % p384P) % p384P
    if u1 = u2 then (if s1 = s2 then q.dbl else Jac.inf)
    else
      let h := subP u2 u1
      let t := subP s2 s1
      let h2 := h * h % p384P
      let h3 := h * h2 % p384P
      let v := u1 * h2 % p384P
      let x3 := subP (subP (subP (t * t % p384P) h3) v) v
      { x := x3, y := subP (t * subP v x3 % p384P) (s1 * h3 % p384P), z := h * (q.z * r.z % p384P) % p384P }

/-- `k` times a point, the low `n` bits of `k`. -/
def Jac.mul : Nat → Jac → Nat → Jac
  | 0, _, _ => Jac.inf
  | n + 1, q, k => (if k % 2 = 1 then q else Jac.inf).add (Jac.mul n q.dbl (k / 2))

/-- Whether a pair is a point of the curve (R438). -/
def onCurve (x y : Nat) : Bool :=
  decide (x < p384P) && decide (y < p384P) &&
  decide (y * y % p384P = (x * x * x + 3 * (p384P - x) + p384B) % p384P)

/-- ECDSA verification on P-384 of a message under a public key (R38, FIPS 186-5). -/
def ecdsaVerify (key : Nat × Nat) (msg : List Byte) (r s : Nat) : Bool :=
  if r = 0 ∨ p384N ≤ r ∨ s = 0 ∨ p384N ≤ s ∨ !(onCurve key.1 key.2) then false
  else
    let w := invMod s p384N
    let u1 := sha384 msg * w % p384N
    let u2 := r * w % p384N
    let q := (Jac.mul 384 { x := p384Gx, y := p384Gy, z := 1 } u1).add (Jac.mul 384 { x := key.1, y := key.2, z := 1 } u2)
    if q.z = 0 then false
    else
      let zi := invMod q.z p384P
      decide (q.x * (zi * zi % p384P) % p384P % p384N = r)

end Sys2Proof.Machine
end

