-- ==== Sys2Proof/Machine/StDmc.lean ====
section
/-! DEFINITION. The state of the DRAM channels beside their registers (11). -/

namespace Sys2Proof.Machine

/-- A request of a channel (R297, R302): its line, whether it is a write and a partial one, its pond and QoS class, and when it
arrived at the channel stop, by the channel's own clock. -/
structure ChanReq where
  line : Nat
  wr   : Bool
  part : Bool
  pond : Nat
  qos  : Nat
  arr  : Nat
deriving DecidableEq, Repr

/-- A read in the read queue (R298): its request, and whether it waits for the merge read of a queued write. -/
structure RdEnt where
  req  : ChanReq
  wait : Bool
deriving DecidableEq, Repr

/-- An entry of the write queue (R298, R299): its line, whether its merge read is still to come, whether it is to be issued at once
since a read depended on it, and the writes merged into it, oldest first. -/
structure WrEnt where
  line    : Nat
  merging : Bool
  urgent  : Bool
  reqs    : List ChanReq
deriving DecidableEq, Repr

/-- The row a bank was last accessed at (R303): the row, whether it is open, and whether the predictor decided that. -/
structure RowSt where
  row    : Nat
  isOpen : Bool
  pred   : Bool
deriving DecidableEq, Repr

/-- A DRAM channel: the ranks populated, the row width r of R294, the ranks in service by position (R292), the spare held
and whether it is in use (R313), the ranks retired and failed, the identities of its DIMM slots as read, the trained interface
parameters and the read-centring phase of each data pin (R304), whether it was left out at start; the requests that wait at its
stop, the read and write queues (R297), whether a burst of writes runs and the row hits that have passed the oldest request to each
bank (R299), the turns each pond has left in this round and the pond served last (R300), the channel's clock in ns, and the answers
that left it at its last command, each a line and whether it is poisoned; the refreshes owed by each rank (R306), the row each bank
was last accessed at and the page predictors (R303), the migration in progress (from, to) and whether its rank failed by commands
(R314), the scrub pointer in lines, and the histogram counts by (pond * 4 + class) * 8 + bucket (R302). -/
structure Chan where
  ranks   : Nat
  rbits   : Nat
  pos     : List Nat
  spare   : Option Nat
  used    : Bool
  retired : Nat
  failed  : Nat
  ids     : List Nat
  train   : Nat
  phase   : Nat
  leftOut : Bool
  inq     : List ChanReq
  rq      : List RdEnt
  wq      : List WrEnt
  burst   : Bool
  passed  : Tab Nat
  turns   : Tab Nat
  turn    : Nat
  time    : Nat
  out     : List (Nat × Bool)
  owed    : List Int
  rows    : Tab RowSt
  pred    : Tab Nat
  mig     : Option (Nat × Nat)
  cmdFail : Bool
  scrub   : Nat
  hist    : Tab Nat
deriving DecidableEq, Repr

/-- A channel before BS05: no module has been identified. -/
def Chan.off : Chan :=
  { ranks := 0, rbits := 16, pos := [], spare := none, used := false, retired := 0, failed := 0, ids := [], train := 0, phase := 0
    leftOut := false, inq := [], rq := [], wq := [], burst := false, passed := [], turns := [], turn := 0, time := 0, out := [], owed := [0, 0, 0, 0], rows := [], pred := [], mig := none, cmdFail := false, scrub := 0, hist := [] }

/-- Bytes of one rank: the rank position lies above the row in the local address (R294). -/
def Chan.rankSize (c : Chan) : Nat := 2 ^ (19 + c.rbits)

/-- The channel's capacity (R292). -/
def Chan.capacity (c : Chan) : Nat := c.pos.length * c.rankSize

/-- The DRAM coordinates of a channel-local address (R294): sub-channel, bank group, bank, column, row, rank position. -/
structure DramCoord where
  sub  : Nat
  bg   : Nat
  bank : Nat
  col  : Nat
  row  : Nat
  pos  : Nat
deriving DecidableEq, Repr

/-- Decode a channel-local address (R294) with row width `r`. -/
def dramCoord (r la : Nat) : DramCoord :=
  let row := la / 2 ^ 19 % 2 ^ r
  { sub := la / 64 % 2, bg := (la / 128 % 8) ^^^ (row % 8), bank := (la / 2 ^ 17 % 4) ^^^ (row / 8 % 4)
    col := la / 1024 % 128 * 16, row := row, pos := la / 2 ^ (19 + r) % 4 }

/-- A bank of a channel as a key. -/
def DramCoord.key (x : DramCoord) : Nat := ((x.pos * 2 + x.sub) * 8 + x.bg) * 4 + x.bank

end Sys2Proof.Machine
end

