-- ==== Sys2Proof/Machine/StFelt.lean ====
section
/-! DEFINITION. The felt image's records, the active configuration and the part's fuses as data (00 R1; 02 R40, R53;
15 R438, R439; 18 R509). -/

namespace Sys2Proof.Machine

/-- A record of a felt image (R40), its fields in the order of their value bytes. -/
inductive Rec where
  | pond (pond world flags clusters aff colour share : Nat)
  | dramRange (pond chans base size : Nat)
  | watermark (pond mark : Nat)
  | debug (pond enables : Nat)
  | port (first width role pond speed : Nat)
  | laneSpare (group policy : Nat)
  | dma (first count pond world : Nat)
  | irq (first count pond world flags : Nat)
  | pin (num pond world func : Nat)
  | function (first count pond world : Nat)
  | expo (pond world off base size : Nat)
  | hold (dom lowest world pond : Nat)
  | cap (watts : Nat)
  | freqPin (pond mhz : Nat)
  | rankSpare (chan rank : Nat)
  | atbSource (prio kind inst nominal sel : Nat)
  | mark (scope num mode action pond angle period target : Nat)
  | window (num start len rep : Nat)
  | role (role prio minver : Nat)
  | address (addr : Nat)
  | bound (code pond lo hi : Nat)
deriving DecidableEq, Repr

/-- A record of an amendment (R53). -/
inductive ARec where
  | moveCluster (cluster frm dest : Nat)
  | moveFunction (func frm dest world : Nat)
  | moveDma (chan frm dest world : Nat)
  | moveIrq (src frm dest world flags : Nat)
  | setBound (code pond lo hi : Nat)
  | setHold (dom lowest world pond : Nat)
  | clearHold (dom : Nat)
  | setDebug (pond enables : Nat)
  | setMark (scope num mode action pond angle period target : Nat)
  | setShare (pond share : Nat)
  | setCap (watts : Nat)
deriving DecidableEq, Repr

/-- The configuration in force (R48, R52): its records with the amendments applied, IVER and SEQ, the slot it was
blocked from (0 none, 1 A, 2 B), whether it is felted or in safe start, and the records of the amendment being applied
with whether one is. -/
structure Felt where
  cfg    : List Rec
  iver   : Nat
  seq    : Nat
  slot   : Nat
  felted : Bool
  safe   : Bool
  todo   : List ARec
  busy   : Bool
deriving DecidableEq, Repr

/-- The order codes of R1. -/
inductive Order where
  | axj256ix | axj256cx | axj192ix
deriving DecidableEq, Repr

/-- What manufacture fixed and no command changes: order code, stepping, unique ID, the rails' fuses, TDP (R509), the
board's serial (none: the EEPROM does not answer; R490) and the geographic straps (R516). -/
structure Part where
  order  : Order
  b0     : Bool
  uid    : Nat
  tdp    : Nat
  vmax   : Nat
  vmin   : Nat
  vnom   : Nat
  serial : Option Nat
  geo    : Nat
  geoPar : Bool
deriving DecidableEq, Repr

/-- The fuses that commands may blow: the four root keys (their x and y coordinates, none: blank) and the revocation
fuse of each (R438, R439). -/
structure Fuses where
  keys    : List (Option (Nat × Nat))
  revoked : List Bool
deriving DecidableEq, Repr

/-- An unfelted configuration (R47). -/
def Felt.none : Felt :=
  { cfg := [], iver := 0, seq := 0, slot := 0, felted := false, safe := false, todo := [], busy := false }

/-- Whether a cluster exists on the part (R1). -/
def Order.cluster (o : Order) (c : Nat) : Bool :=
  decide (c < 32) && (decide (o ≠ .axj192ix) || !([6, 7, 14, 15, 22, 23, 30, 31].contains c))

/-- Whether a DRAM channel exists on the part (R1). -/
def Order.channel (o : Order) (ch : Nat) : Bool :=
  decide (ch < 16) && (decide (o ≠ .axj192ix) || !([3, 7, 11, 15].contains ch))

/-- Whether a lane group exists on the part (R1). -/
def Order.group (o : Order) (g : Nat) : Bool :=
  decide (g < 8) && (decide (o ≠ .axj192ix) || !([3, 7].contains g))

/-- Whether a port exists on the part (R1): ports 16g to 16g + 15 draw on lane group g. -/
def Order.port (o : Order) (p : Nat) : Bool := decide (p < 128) && o.group (p / 16)

/-- Whether a lane exists on the part (R1): lanes 17g to 17g + 16 belong to lane group g. -/
def Order.lane (o : Order) (l : Nat) : Bool := decide (l < 136) && o.group (l / 17)

/-- Whether an application core exists on the part (R1, R13). -/
def Order.core (o : Order) (k : Nat) : Bool := decide (k < 256) && o.cluster (k / 8)

/-- Whether a power domain exists on the part (R1). -/
def Order.domain (o : Order) (d : Nat) : Bool :=
  decide (d < 53) && (decide (o ≠ .axj192ix) || !([16, 20, 27, 28, 35, 36, 43, 44, 51, 52].contains d))

/-- The application cores present, ascending (R1). -/
def Order.cores (o : Order) : List Nat := (List.range 256).filter o.core

end Sys2Proof.Machine
end

