-- ==== Sys2Proof/Machine/StMem.lean ====
section
/-! DEFINITION. Memory and the coherence state: one coherent image of DRAM and the record store window (R28, R208), the
poisoned lines (R255), what DRAM itself still holds of a line that is dirty in some cache (R236, R256), the directories,
the private caches' line states and their writeback buffers (R236 to R249). -/

namespace Sys2Proof.Machine

/-- The state of a line in a private cache (R236). -/
inductive LineSt where
  | i | s | e | m
deriving DecidableEq, Repr

/-- The kinds of transaction a home serves (R244). -/
inductive TxnKind where
  | getCopy | getOwn | promote | peek | put
deriving DecidableEq, Repr

/-- A transaction in progress on a line (R245): its kind, its requester when that is a private cache, the holders whose
snoop answers are still outstanding (a ring snoop as 0x300 + quadrant, R241), whether a snoop answered with dirty data, whether the
newest data is poisoned (R255), and for a write its offset in the line, its bytes, its stash target, whether a stash was declined, the
issuer whose copy a write-through keeps (R250) and whether it holds an I/O tracker (R247); whether a read is write-through, granted in
S only (R234), its QoS class (R20) and the header of its request flit (R23). -/
structure Txn where
  kind  : TxnKind
  agent : Nat
  out   : List Nat
  dirty : Bool
  owned : Bool
  off   : Nat
  data  : List Byte
  stash : Option Nat
  keep  : Option Nat
  io    : Bool
  pois  : Bool
  decl  : Bool
  wt    : Bool
  qos   : Nat
  head  : BitVec 120
deriving DecidableEq, Repr

/-- A directory entry and the LLC's copy of its line (R240, LLC.DIRDATA): the owner or the sharers by pointer (at most
three application cores), mask mode and quadrant mask, engine mask (bits 3:0 SVC3-SVC0, bit 4 SEC0), LLC copy present,
dirty, poisoned, the order in which the entry was allocated (R243), and the transaction in progress with those that wait in order of
arrival. `owner` is an agent number. -/
structure DirEnt where
  owner : Option Nat
  ptrs  : List Nat
  mask  : Bool
  qmask : Nat
  emask : Nat
  llcv  : Bool
  llcd  : Bool
  llcp  : Bool
  alloc : Nat
  busy  : Option Txn
  waitq : List Txn
deriving DecidableEq, Repr

/-- An eviction kept in a private cache's writeback buffer until its home acknowledges it (R248, R249): `held` while it stands in
the home's eviction inbox for a snoop to be answered. -/
structure WbEnt where
  agent   : Nat
  line    : Nat
  st      : LineSt
  snooped : Bool
  held    : Bool
  acked   : Bool
  pois    : Bool
deriving DecidableEq, Repr

/-- The memory of the device: the coherent image; DRAM's poisoned lines, the older value DRAM holds of a line that is dirty in a
cache, and the older value of an LLC copy whose line an owner has changed; the directories with the LLC; the private caches' states and
poison and the lines of L1I and L1D by (agent, line) (R233, R255); writeback buffers, evictions that wait for an entry of one (R248),
requests that wait at a slice for a tracker (R247), the count of directory allocations, and the transaction IDs used by stop (R23). -/
structure MemSt where
  img     : Tab Byte
  poison  : Tab Bool
  dramOld : Tab (List Byte)
  dir     : Tab DirEnt
  l2      : Tab LineSt
  wb      : List WbEnt
  llcOld  : Tab (List Byte)
  pois    : Tab Bool
  l1i     : Tab Bool
  l1d     : Tab Bool
  evq     : List (Nat × Nat)
  inq     : Tab (List (Nat × Txn))
  allocs  : Nat
  txid    : Tab Nat
deriving DecidableEq, Repr

/-- An uncached line: no entry. -/
def DirEnt.none : DirEnt :=
  { owner := Option.none, ptrs := [], mask := false, qmask := 0, emask := 0, llcv := false, llcd := false
    llcp := false, alloc := 0
    busy := Option.none, waitq := [] }

/-- First address of the record store window (R28). -/
def nvBase : Nat := 0x400100000000

/-- Bytes of the record store window that are populated (R28). -/
def nvSize : Nat := 0x4000000

/-- What a byte reads as that nothing has written: DRAM is written to zero at every start (R296); an erased byte of the
record store is 0xFF. DESIGN CHOICE for the record store (log entry 4): the spec gives its erased value only through
check code 0x01 of R42. -/
def memDefault (a : Nat) : Byte := if nvBase ≤ a ∧ a < nvBase + nvSize then 0xFF#8 else 0#8

/-- The canonical form of memory. -/
def MemSt.wf (m : MemSt) : Bool := Tab.wf memDefault m.img

def MemSt.empty : MemSt :=
  { img := [], poison := [], dramOld := [], dir := [], l2 := [], wb := []
    llcOld := [], pois := [], l1i := [], l1d := [], evq := [], inq := [], allocs := 0, txid := [] }

end Sys2Proof.Machine
end

