-- ==== Sys2Proof/Machine/Owner.lean ====
section
/-! DEFINITION. What the active configuration says of owners (02 R41, R48; 15 R424, R426; 11 R293, R295): every owner
check of R26 goes through these functions. -/

namespace Sys2Proof.Machine

/-- The POND record of a pond: (world, flags, owned clusters, affinity, colour, share). -/
def pondRec (cfg : List Rec) (p : Nat) : Option (Nat × Nat × Nat × Nat × Nat × Nat) :=
  cfg.findSome? fun r => match r with
    | .pond q w f c a l s => if q = p then some (w, f, c, a, l, s) else none
    | _ => none

/-- The ponds named by POND records, in image order. -/
def ponds (cfg : List Rec) : List Nat :=
  cfg.filterMap fun r => match r with
    | .pond q _ _ _ _ _ _ => some q
    | _ => none

/-- Whether a pond's POND record names the secure world (R40). -/
def pondSecure (cfg : List Rec) (p : Nat) : Bool :=
  match pondRec cfg p with
  | some (w, _) => decide (w = 1)
  | none => false

/-- The clusters a pond owns, as a mask. -/
def pondClusters (cfg : List Rec) (p : Nat) : Nat :=
  match pondRec cfg p with
  | some (_, _, c, _) => c
  | none => 0

/-- The pond's affinity mask: 0 in the record stands for the owned mask (R40). (DEDUCED, log entry 90.) -/
def pondAffinity (cfg : List Rec) (p : Nat) : Nat :=
  match pondRec cfg p with
  | some (_, _, c, a, _) => if a = 0 then c else a
  | none => 0

/-- The pond's LLC colour mask. -/
def pondColour (cfg : List Rec) (p : Nat) : Nat :=
  match pondRec cfg p with
  | some (_, _, _, _, l, _) => l
  | none => 0

/-- The pond's DRAM share in 1/64ths. -/
def pondShare (cfg : List Rec) (p : Nat) : Nat :=
  match pondRec cfg p with
  | some (_, _, _, _, _, s) => s
  | none => 0

/-- The owner of a cluster (R41). -/
def clusterOwner (cfg : List Rec) (c : Nat) : Option Nat :=
  cfg.findSome? fun r => match r with
    | .pond q _ _ m _ _ _ => if m.testBit c then some q else none
    | _ => none

/-- The owner of a DMA channel: pond and world. -/
def dmaOwner (cfg : List Rec) (c : Nat) : Option (Nat × Bool) :=
  cfg.findSome? fun r => match r with
    | .dma f n p w => if f ≤ c ∧ c < f + n then some (p, decide (w = 1)) else none
    | _ => none

/-- The owner of an interrupt source: pond, world, flags. -/
def irqOwner (cfg : List Rec) (n : Nat) : Option (Nat × Bool × Nat) :=
  cfg.findSome? fun r => match r with
    | .irq f k p w fl => if f ≤ n ∧ n < f + k then some (p, decide (w = 1), fl) else none
    | _ => none

/-- The owner of a pin: pond, world, function. -/
def pinOwner (cfg : List Rec) (n : Nat) : Option (Nat × Bool × Nat) :=
  cfg.findSome? fun r => match r with
    | .pin k p w f => if k = n then some (p, decide (w = 1), f) else none
    | _ => none

/-- The pond of a mark, by scope (0xFF the device) and number (R82). -/
def markPond (cfg : List Rec) (scope n : Nat) : Option Nat :=
  cfg.findSome? fun r => match r with
    | .mark c k _ _ p _ _ _ => if c = scope ∧ k = n then some p else none
    | _ => none

/-- The owner of a PCIe function: pond and world. -/
def fnOwner (cfg : List Rec) (n : Nat) : Option (Nat × Bool) :=
  cfg.findSome? fun r => match r with
    | .function f k p w => if f ≤ n ∧ n < f + k then some (p, decide (w = 1)) else none
    | _ => none

/-- The exports in image order (R335): pond, world, exchange offset, DRAM base, size. -/
def exports (cfg : List Rec) : List (Nat × Bool × Nat × Nat × Nat) :=
  cfg.filterMap fun r => match r with
    | .expo p w o b s => some (p, decide (w = 1), o, b, s)
    | _ => none

/-- The PORT record that covers a port: first, width, role, pond, speed. -/
def portRec (cfg : List Rec) (p : Nat) : Option (Nat × Nat × Nat × Nat × Nat) :=
  cfg.findSome? fun r => match r with
    | .port f w ro q sp => if f ≤ p ∧ p < f + w then some (f, w, ro, q, sp) else none
    | _ => none

/-- The owner of an Ethernet port: its pond and that pond's world (R382). -/
def ethOwner (cfg : List Rec) (p : Nat) : Option (Nat × Bool) :=
  match portRec cfg p with
  | some (_, _, 2, q, _) => some (q, pondSecure cfg q)
  | _ => none

/-- The hold on a power domain: lowest state, world, pond (0xFF: the device). -/
def holdOf (cfg : List Rec) (dom : Nat) : Option (Nat × Bool × Nat) :=
  cfg.findSome? fun r => match r with
    | .hold d l w p => if d = dom then some (l, decide (w = 1), p) else none
    | _ => none

/-- The DEBUG enables of a pond: none without a record (R432). -/
def debugEnables (cfg : List Rec) (p : Nat) : Nat :=
  (cfg.findSome? fun r => match r with
    | .debug q e => if q = p then some e else none
    | _ => none).getD 0

/-- The image power cap, if the image has one. -/
def capOf (cfg : List Rec) : Option Nat :=
  cfg.findSome? fun r => match r with
    | .cap w => some w
    | _ => none

/-- The FREQ_PIN of a pond in MHz. -/
def freqPin (cfg : List Rec) (p : Nat) : Option Nat :=
  cfg.findSome? fun r => match r with
    | .freqPin q m => if q = p then some m else none
    | _ => none

/-- The DRAM_RANGE records in image order: pond, channel mask, base, size. -/
def dramRanges (cfg : List Rec) : List (Nat × Nat × Nat × Nat) :=
  cfg.filterMap fun r => match r with
    | .dramRange p m b s => some (p, m, b, s)
    | _ => none

/-- The DRAM_RANGE that holds a physical address. -/
def rangeOf (cfg : List Rec) (pa : Nat) : Option (Nat × Nat × Nat × Nat) :=
  (dramRanges cfg).find? (fun r => decide (r.2.2.1 ≤ pa) && decide (pa < r.2.2.1 + r.2.2.2))

/-- The pond's DRAM_RANGE of lowest base: (base, size) (R426). -/
def lowestRange (cfg : List Rec) (p : Nat) : Option (Nat × Nat) :=
  (((dramRanges cfg).filter (fun r => decide (r.1 = p))).map (fun r => (r.2.2.1, r.2.2.2))).foldl
    (fun acc r => match acc with
      | none => some r
      | some a => if r.1 < a.1 then some r else some a) none

/-- The pond's watermark, if it has a WATERMARK record. -/
def watermarkOf (cfg : List Rec) (p : Nat) : Option Nat :=
  cfg.findSome? fun r => match r with
    | .watermark q m => if q = p then some m else none
    | _ => none

/-- Whether a byte of a pond's DRAM lies in its secure part (R426). -/
def securePart (cfg : List Rec) (p pa : Nat) : Bool :=
  match lowestRange cfg p, watermarkOf cfg p with
  | some (b, _), some m => decide (b ≤ pa) && decide (pa < b + m)
  | _, _ => false

/-- The earlier ranges that use a channel: those of lower base (11 "Address mapping"). -/
def chbase (cfg : List Rec) (base ch : Nat) : Nat :=
  ((dramRanges cfg).filter (fun r => decide (r.2.2.1 < base) && r.2.1.testBit ch)).foldl
    (fun acc r =>
      let k := (setBits r.2.1 16).length
      acc + (r.2.2.2 + 256 * k - 1) / (256 * k) * 256) 0

/-- The channel and channel-local address of a DRAM address (R293); none when it lies in no DRAM_RANGE. -/
def dramMap (cfg : List Rec) (pa : Nat) : Option (Nat × Nat) :=
  match rangeOf cfg pa with
  | none => none
  | some (_, m, b, _) =>
    let chs := setBits m 16
    if chs.length = 0 then none
    else
      let g := (pa - b) / 256
      let ch := chs.getD (g % chs.length) 0
      some (ch, chbase cfg b ch + g / chs.length * 256 + pa % 256)

/-- The bound in force for a setting and a pond (R49): the pond's BOUND record, else the one for all ponds, else the
default that the caller gives. -/
def boundOf (cfg : List Rec) (code pond : Nat) (dflt : Nat × Nat) : Nat × Nat :=
  let one (q : Nat) : Option (Nat × Nat) := cfg.findSome? fun r => match r with
    | .bound c p lo hi => if c = code ∧ p = q then some (lo, hi) else none
    | _ => none
  match one pond with
  | some b => b
  | none => (one 0xFF).getD dflt

/-- The bound that governs a device-wide register (R50): the BOUND record with pond 0xFF, else the default. -/
def boundAll (cfg : List Rec) (code : Nat) (dflt : Nat × Nat) : Nat × Nat := boundOf cfg code 0xFF dflt

/-- The absolute range of a setting (R49); the runtime power cap's upper end is CAP, or the TDP without a CAP record. -/
def absRange (cfg : List Rec) (tdp code : Nat) : Nat × Nat :=
  match code with
  | 1 => (100, 60000) | 2 => (100, 9000) | 3 => (10, 200) | 4 => (1, 255)
  | 5 => (150, (capOf cfg).getD tdp) | 6 => (400, 3200) | 7 => (0, 64) | 8 => (1, 1000) | 9 => (0, 15)
  | _ => (0, 0)

/-- The default bound of a setting for a pond (R49). -/
def dfltBound (cfg : List Rec) (tdp code pond : Nat) : Nat × Nat :=
  match code with
  | 1 => (1000, 30000) | 2 => (1000, 6000) | 3 => (10, 100) | 4 => (2, 64)
  | 5 => (150, (capOf cfg).getD tdp)
  | 6 => match freqPin cfg pond with
         | some m => (m, m)
         | none => (400, 3200)
  | 7 => (0, pondShare cfg pond) | 8 => (1, 1000) | 9 => (0, 15)
  | _ => (0, 0)

/-- Whether a value written by a requester of pond `pond` lies in its bound: a device agent is held to the absolute range
only (R49). -/
def inBound (cfg : List Rec) (tdp code pond : Nat) (dev : Bool) (v : Nat) : Bool :=
  let b := if dev then absRange cfg tdp code else boundOf cfg code pond (dfltBound cfg tdp code pond)
  decide (b.1 ≤ v) && decide (v ≤ b.2)

end Sys2Proof.Machine
end

