-- ==== Sys2Proof/Machine/FeltParse.lean ====
section
/-! DEFINITION. The felt image's format and its validation (02 R34 to R43). -/

namespace Sys2Proof.Machine

/-- The value length of a record type (R40) and the bytes of the value that its fields use, as (offset, size). -/
def recLayout (t : Nat) : Option (Nat × List (Nat × Nat)) :=
  match t with
  | 0x0101 => some (20, [(0, 1), (1, 1), (2, 2), (4, 4), (8, 4), (12, 4), (16, 1)])
  | 0x0102 => some (24, [(0, 1), (2, 2), (8, 8), (16, 8)])
  | 0x0103 => some (16, [(0, 1), (8, 8)])
  | 0x0104 => some (4, [(0, 1), (1, 1)])
  | 0x0201 => some (8, [(0, 1), (1, 1), (2, 1), (3, 1), (4, 1)])
  | 0x0202 => some (4, [(0, 1), (1, 1)])
  | 0x0203 => some (4, [(0, 1), (1, 1), (2, 1), (3, 1)])
  | 0x0204 => some (8, [(0, 2), (2, 2), (4, 1), (5, 1), (6, 1)])
  | 0x0205 => some (8, [(0, 2), (2, 1), (3, 1), (4, 1)])
  | 0x0206 => some (4, [(0, 1), (1, 1), (2, 1), (3, 1)])
  | 0x0207 => some (32, [(0, 1), (1, 1), (8, 8), (16, 8), (24, 8)])
  | 0x0301 => some (4, [(0, 1), (1, 1), (2, 1), (3, 1)])
  | 0x0302 => some (4, [(0, 2)])
  | 0x0303 => some (4, [(0, 1), (2, 2)])
  | 0x0401 => some (4, [(0, 1), (1, 1)])
  | 0x0501 => some (12, [(0, 1), (1, 1), (2, 1), (4, 4), (8, 4)])
  | 0x0502 => some (24, [(0, 1), (1, 1), (2, 1), (3, 1), (4, 1), (8, 8), (16, 4), (20, 4)])
  | 0x0503 => some (16, [(0, 1), (4, 4), (8, 4), (12, 4)])
  | 0x0601 => some (4, [(0, 1), (1, 1), (2, 1)])
  | 0x0602 => some (4, [(0, 2)])
  | 0x0701 => some (12, [(0, 2), (2, 1), (4, 4), (8, 4)])
  | _ => none

/-- Whether a value is zero outside the bytes its fields use (R40). -/
def unusedZero (used : List (Nat × Nat)) (v : List Byte) : Bool :=
  (List.range v.length).all (fun i =>
    used.any (fun u => decide (u.1 ≤ i) && decide (i < u.1 + u.2)) || decide (v.getD i 0 = 0))

/-- A record from its type and value (R40). -/
def recOf (t : Nat) (v : List Byte) : Option Rec :=
  let f (o n : Nat) : Nat := leAt v o n
  match t with
  | 0x0101 => some (.pond (f 0 1) (f 1 1) (f 2 2) (f 4 4) (f 8 4) (f 12 4) (f 16 1))
  | 0x0102 => some (.dramRange (f 0 1) (f 2 2) (f 8 8) (f 16 8))
  | 0x0103 => some (.watermark (f 0 1) (f 8 8))
  | 0x0104 => some (.debug (f 0 1) (f 1 1))
  | 0x0201 => some (.port (f 0 1) (f 1 1) (f 2 1) (f 3 1) (f 4 1))
  | 0x0202 => some (.laneSpare (f 0 1) (f 1 1))
  | 0x0203 => some (.dma (f 0 1) (f 1 1) (f 2 1) (f 3 1))
  | 0x0204 => some (.irq (f 0 2) (f 2 2) (f 4 1) (f 5 1) (f 6 1))
  | 0x0205 => some (.pin (f 0 2) (f 2 1) (f 3 1) (f 4 1))
  | 0x0206 => some (.function (f 0 1) (f 1 1) (f 2 1) (f 3 1))
  | 0x0207 => some (.expo (f 0 1) (f 1 1) (f 8 8) (f 16 8) (f 24 8))
  | 0x0301 => some (.hold (f 0 1) (f 1 1) (f 2 1) (f 3 1))
  | 0x0302 => some (.cap (f 0 2))
  | 0x0303 => some (.freqPin (f 0 1) (f 2 2))
  | 0x0401 => some (.rankSpare (f 0 1) (f 1 1))
  | 0x0501 => some (.atbSource (f 0 1) (f 1 1) (f 2 1) (f 4 4) (f 8 4))
  | 0x0502 => some (.mark (f 0 1) (f 1 1) (f 2 1) (f 3 1) (f 4 1) (f 8 8) (f 16 4) (f 20 4))
  | 0x0503 => some (.window (f 0 1) (f 4 4) (f 8 4) (f 12 4))
  | 0x0601 => some (.role (f 0 1) (f 1 1) (f 2 1))
  | 0x0602 => some (.address (f 0 2))
  | 0x0701 => some (.bound (f 0 2) (f 2 1) (f 4 4) (f 8 4))
  | _ => none

/-- Whether every bit of a mask names an instance that is present. -/
def maskPresent (m : Nat) (present : Nat → Bool) : Bool := (setBits m 64).all present

/-- The target bits that an action of a mark uses (R83). -/
def targetBits (scope action : Nat) : Nat :=
  match action with
  | 0 => if scope = 0xFF then 15 else 10
  | 1 => 6 | 2 => 0 | 3 => 18 | _ => 8

/-- Code 0x0D: references in range and present, values that R40 lists (R42, R3, R69, R83). (DEDUCED, log entry 118.) -/
def recInRange (o : Order) (r : Rec) : Bool :=
  let po (p : Nat) : Bool := decide (p < 32)
  let wo (w : Nat) : Bool := decide (w < 2)
  match r with
  | .pond p w fl c a l _ =>
    po p && wo w && decide (fl < 2) && maskPresent c o.cluster && maskPresent a o.cluster && maskPresent l o.cluster
  | .dramRange p m b s =>
    po p && decide (m ≠ 0) && maskPresent m o.channel && decide (b % 2 ^ 30 = 0) && decide (s % 2 ^ 30 = 0) &&
    decide (s ≠ 0) && decide (b + s ≤ 2 ^ 42)
  | .watermark p m => po p && decide (m % 2 ^ 21 = 0)
  | .debug p e => po p && decide (e < 16)
  | .port f w ro q sp =>
    [1, 2, 4, 8].contains w && decide (ro < 3) && decide (sp < 3) && (if ro = 2 then po q else decide (q = 0xFF)) &&
    (List.range w).all (fun i => o.port (f + i))
  | .laneSpare g p => o.group g && decide (p < 2)
  | .dma f n p w => po p && wo w && decide (0 < n) && decide (f + n ≤ 64)
  | .irq f n p w fl => po p && wo w && decide (0 < n) && decide (f + n ≤ 2048) && decide (fl < 4)
  | .pin n p w f => decide (n < 256) && po p && wo w && decide (f < 3)
  | .function f n p w => po p && wo w && decide (0 < n) && decide (f + n ≤ 129)
  | .expo p w off b s =>
    po p && wo w && decide (off % 2 ^ 21 = 0) && decide (b % 2 ^ 21 = 0) && decide (s % 2 ^ 21 = 0) && decide (s ≠ 0) &&
    decide (off + s ≤ 2 ^ 35) && decide (b + s ≤ 2 ^ 42)
  | .hold d l w p => o.domain d && decide (l < 3) && wo w && (po p || decide (p = 0xFF))
  | .cap _ => true
  | .freqPin p _ => po p
  | .rankSpare c r => o.channel c && decide (r < 4)
  | .atbSource p k i _ s =>
    decide (p < 8) && decide (0 < k) && decide (k < 6) && (if k = 2 ∨ k = 3 then o.port i else decide (i = 0)) &&
    (decide (k ≠ 1 ∧ k ≠ 5) || decide (s = 0))
  | .mark sc _ m a p _ pe t =>
    (decide (sc = 0xFF) || o.cluster sc) && decide (m < 2) && decide (a < 5) && po p && decide (t < 2 ^ targetBits sc a) &&
    (decide (m = 1) || decide (pe = 0))
  | .window n _ _ _ => decide (n < 8)
  | .role r _ _ => decide (r < 3)
  | .address _ => true
  | .bound c p _ _ => decide (0 < c) && decide (c < 10) && (po p || decide (p = 0xFF))

/-- Whether two spans share an element. -/
def overlap (a n b m : Nat) : Bool := decide (a < b + m) && decide (b < a + n)

/-- Code 0x0E: whether two records of one image conflict (R42). -/
def recConflict (a b : Rec) : Bool :=
  match a, b with
  | .pond p _ _ c _ _ _, .pond q _ _ d _ _ _ => decide (p = q) || decide (c &&& d ≠ 0)
  | .dramRange _ _ x n, .dramRange _ _ y m => overlap x n y m
  | .watermark p _, .watermark q _ => decide (p = q)
  | .debug p _, .debug q _ => decide (p = q)
  | .port f w _ _ _, .port g v _ _ _ => overlap f w g v
  | .laneSpare g _, .laneSpare h _ => decide (g = h)
  | .dma f n _ _, .dma g m _ _ => overlap f n g m
  | .irq f n _ _ _, .irq g m _ _ _ => overlap f n g m
  | .pin n _ _ _, .pin m _ _ _ => decide (n = m)
  | .function f n _ _, .function g m _ _ => overlap f n g m
  | .expo _ _ o x n, .expo _ _ p y m => overlap o n p m || overlap x n y m
  | .hold d _ _ _, .hold e _ _ _ => decide (d = e)
  | .cap _, .cap _ => true
  | .freqPin p _, .freqPin q _ => decide (p = q)
  | .rankSpare c _, .rankSpare d _ => decide (c = d)
  | .atbSource p _ _ _ _, .atbSource q _ _ _ _ => decide (p = q)
  | .mark s n _ _ _ _ _ _, .mark t m _ _ _ _ _ _ => decide (s = t) && decide (n = m)
  | .window n _ _ _, .window m _ _ _ => decide (n = m)
  | .role _ _ _, .role _ _ _ => true
  | .address _, .address _ => true
  | .bound c p _ _, .bound d q _ _ => decide (c = d) && decide (p = q)
  | _, _ => false

/-- No two records conflict. -/
def noConflict : List Rec → Bool
  | [] => true
  | r :: rs => !(rs.any (recConflict r)) && noConflict rs

/-- The pond that a record names beside a POND record (R43). -/
def recPond (r : Rec) : Option Nat :=
  match r with
  | .dramRange p _ _ _ | .watermark p _ | .debug p _ | .dma _ _ p _ | .irq _ _ p _ _ | .pin _ p _ _ | .function _ _ p _
  | .expo p _ _ _ _ | .freqPin p _ | .mark _ _ _ _ p _ _ _ => some p
  | .port _ _ _ q _ | .hold _ _ _ q | .bound _ q _ _ => if q = 0xFF then none else some q
  | _ => none

/-- Whether a pond needs a WATERMARK: its world is secure or it owns a secure channel, pin, source or function (R43). -/
def needsMark (cfg : List Rec) (p : Nat) : Bool :=
  pondSecure cfg p || cfg.any (fun r => match r with
    | .dma _ _ q w | .irq _ _ q w _ | .pin _ q w _ | .function _ _ q w => decide (q = p) && decide (w = 1)
    | _ => false)

/-- The resources that the isolation of a QUIET pond compares (R43, R447): LLC slices, DRAM channels, lane groups, and the
I/O stops of quadrants 0 and 1. -/
def quietUses (o : Order) (cfg : List Rec) (p : Nat) : Nat × Nat × Nat × Nat :=
  let colour := if pondColour cfg p = 0 then ((List.range 32).filter o.cluster).foldl (fun m c => m ||| 2 ^ c) 0 else pondColour cfg p
  (colour, cfg.foldl (fun u r => match r with
    | .dramRange q m _ _ => if q = p then (u.1 ||| m, u.2.1, u.2.2) else u
    | .port f _ 2 q _ => if q = p then (u.1, u.2.1 ||| 2 ^ (f / 16), u.2.2) else u
    | .function _ _ q _ | .dma _ _ q _ => if q = p then (u.1, u.2.1, u.2.2 ||| 1) else u
    | .pin _ q _ _ | .mark 0xFF _ _ _ q _ _ _ => if q = p then (u.1, u.2.1, u.2.2 ||| 2) else u
    | _ => u) (0, 0, 0))

/-- Whether two ponds share a compared resource. -/
def sharesQuiet (o : Order) (cfg : List Rec) (p q : Nat) : Bool :=
  let a := quietUses o cfg p
  let b := quietUses o cfg q
  decide (a.1 &&& b.1 ≠ 0) || decide (a.2.1 &&& b.2.1 ≠ 0) || decide (a.2.2.1 &&& b.2.2.1 ≠ 0) ||
  decide (a.2.2.2 &&& b.2.2.2 ≠ 0)

/-- The quadrants in which a mask has a cluster. -/
def quadsOf (m : Nat) : List Nat := (List.range 4).filter (fun q => decide (m / 2 ^ (8 * q) % 256 ≠ 0))

/-- The conditions of a QUIET pond (R43). -/
def quietOk (o : Order) (cfg : List Rec) (p : Nat) : Bool :=
  let others := (ponds cfg).filter (fun q => decide (q ≠ p))
  (others.all (fun q => !(sharesQuiet o cfg p q))) && (freqPin cfg p).isSome &&
  others.all (fun q =>
    (freqPin cfg q).isSome || !((quadsOf (pondClusters cfg p)).any (fun x => (quadsOf (pondClusters cfg q)).contains x)))

/-- The constraints of R43 on one record. -/
def recConstraint (tdp : Nat) (cfg : List Rec) (r : Rec) : Bool :=
  match r with
  | .pond p _ _ c a _ _ => decide (a &&& c = a) && (!(needsMark cfg p) || (watermarkOf cfg p).isSome)
  | .port f w ro _ _ => decide (f % w = 0) && decide (f / 16 = (f + w - 1) / 16) && (decide (ro ≠ 2) || decide (w = 1))
  | .cap x => decide (150 ≤ x) && decide (x ≤ tdp)
  | .freqPin _ m => decide (400 ≤ m) && decide (m ≤ 3200)
  | .mark sc n _ _ p _ _ _ =>
    if sc = 0xFF then decide (n < 64) else decide (n < 16) && decide (clusterOwner cfg sc = some p)
  | .watermark p m => match lowestRange cfg p with
    | some (_, s) => decide (m ≤ s)
    | none => false
  | .bound c _ lo hi => decide (lo ≤ hi) && decide ((absRange cfg tdp c).1 ≤ lo) && decide (hi ≤ (absRange cfg tdp c).2)
  | _ => true

/-- Code 0x0F: every constraint of R43. -/
def constraintsOk (o : Order) (tdp : Nat) (cfg : List Rec) : Bool :=
  (ponds cfg).any (fun p => decide (pondClusters cfg p ≠ 0) && (lowestRange cfg p).isSome) &&
  cfg.all (fun r => match recPond r with
    | some p => (pondRec cfg p).isSome
    | none => true) &&
  cfg.all (recConstraint tdp cfg) &&
  decide (((ponds cfg).map (pondShare cfg)).sum ≤ 64) &&
  decide ((cfg.filter (fun r => match r with
    | .port _ _ 2 _ _ => true
    | _ => false)).length ≤ 32) &&
  decide ((exports cfg).length ≤ 256) &&
  cfg.all (fun r => match r with
    | .pond p _ fl _ _ _ _ => decide (fl % 2 = 0) || quietOk o cfg p
    | _ => true)

/-- A section found in an image (R36): its offset, type, body length. -/
structure Sect where
  off   : Nat
  stype : Nat
  slen  : Nat
deriving DecidableEq, Repr

/-- The sections of an image from an offset, ascending by type, exactly filling it (code 0x09); none otherwise. An SLEN that is
no multiple of 4 is answered with the same code. (DEDUCED, log entry 238.) -/
def sections : Nat → Nat → Nat → Nat → List Byte → Option (List Sect)
  | 0, off, _, stop, _ => if off = stop then some [] else none
  | n + 1, off, last, stop, img =>
    let t := leAt img off 2
    let l := leAt img (off + 4) 4
    if stop < off + 16 ∨ t ≤ last ∨ 7 < t ∨ l % 4 ≠ 0 ∨ stop < off + 16 + l then none
    else (sections n (off + 16 + l) t stop img).map (fun ss => { off := off, stype := t, slen := l } :: ss)

/-- The records of a body as (type, value), with whether the body was exactly used (R37). (DEDUCED, log entry 117.) -/
def rawRecords : Nat → List Byte → List (Nat × List Byte) × Bool
  | 0, body => ([], body.isEmpty)
  | n + 1, body =>
    if body.isEmpty then ([], true)
    else
      let t := leAt body 0 2
      let l := leAt body 2 2
      if l % 4 ≠ 0 ∨ body.length < 4 + l then ([(t, [])], false)
      else
        let r := rawRecords n (body.drop (4 + l))
        ((t, (body.drop 4).take l) :: r.1, r.2)

/-- What an image's validation gives: its code, and for a valid one its records, version and optional records ignored. -/
structure ImageRes where
  code : Nat
  recs : List Rec
  iver : Nat
  ign  : Nat
deriving DecidableEq, Repr

def ImageRes.bad (c : Nat) : ImageRes := { code := c, recs := [], iver := 0, ign := 0 }

/-- The bit of PARTS for an order code (R35). -/
def Order.bitNo : Order → Nat
  | .axj256ix => 0 | .axj256cx => 1 | .axj192ix => 2

/-- The signature check of codes 0x05 and 0x06 (R38, R42): the signed span is all but the last 96 bytes. (DEDUCED, log entry 116.) -/
def sigCode (f : Fuses) (kidx : Nat) (file : List Byte) : Nat :=
  if 3 < kidx ∨ (f.revoked.getD kidx false) then 5
  else
    let n := file.length - 96
    match f.keys.getD kidx none with
    | none => 6
    | some k =>
      if ecdsaVerify k (file.take n) (ofBytesBE ((file.drop n).take 48)) (ofBytesBE ((file.drop (n + 48)).take 48)) then 0 else 6

/-- The records of the sections: codes 0x0A to 0x0F (R42). -/
def checkBody (part : Part) (img : List Byte) (secs : List Sect) : ImageRes :=
  let body (s : Sect) : List Byte := (img.drop (s.off + 16)).take s.slen
  if secs.any (fun s => decide (leAt img (s.off + 12) 4 ≠ crc32 (body s))) then ImageRes.bad 0x0A
  else
    let raw := secs.map (fun s => (s, rawRecords (s.slen + 1) (body s)))
    let all := raw.flatMap (fun x => x.2.1.map (fun r => (x.1.stype, r.1, r.2)))
    let known (x : Nat × Nat × List Byte) : Bool := (recLayout x.2.1).isSome && decide (x.2.1 / 256 = x.1)
    if all.any (fun x => !(known x) && !(x.2.1.testBit 7)) then ImageRes.bad 0x0B
    else if raw.any (fun x => !x.2.2 || decide (leAt img (x.1.off + 8) 2 ≠ x.2.1.length)) then ImageRes.bad 0x0C
    else
      let kn := all.filter known
      if kn.any (fun x => match recLayout x.2.1 with
          | some (n, _) => decide (x.2.2.length ≠ n)
          | none => false) then ImageRes.bad 0x0C
      else
        let recs := kn.filterMap (fun x => recOf x.2.1 x.2.2)
        let zeros := decide (leAt img 0x0E 2 = 0) && decide (leAt img 0x15 3 = 0) && decide (leAt img 0x22 6 = 0) &&
          decide (leAt img 0x20 1 < 8) &&
          secs.all (fun s => decide (leAt img (s.off + 2) 2 = 0) && decide (leAt img (s.off + 10) 2 = 0)) &&
          kn.all (fun x => match recLayout x.2.1 with
            | some (_, u) => unusedZero u x.2.2
            | none => true)
        if !zeros || !(recs.all (recInRange part.order)) then ImageRes.bad 0x0D
        else if !(noConflict recs) then ImageRes.bad 0x0E
        else if !(constraintsOk part.order part.tdp recs) then ImageRes.bad 0x0F
        else { code := 0, recs := recs, iver := leAt img 0x10 4, ign := all.length - kn.length }

/-- Validation of a slot's bytes (R42), in the order of the codes. -/
def validateImage (part : Part) (fuses : Fuses) (floor : Nat) (slot : List Byte) : ImageRes :=
  let ilen := leAt slot 8 4
  let img := slot.take ilen
  let tr := ilen - 104
  if leAt slot 0 4 = 0xFFFFFFFF then ImageRes.bad 1
  else if 0x400000 < ilen ∨ ilen < 168 ∨ slot.length < ilen then ImageRes.bad 2
  else if leAt img 0 4 ≠ 0x544C4546 ∨ leAt img tr 4 ≠ 0x444E4546 ∨ leAt img 4 1 ≠ 1 ∨ leAt img 6 2 ≠ 64 ∨
      leAt img (tr + 4) 4 ≠ ilen - 96 ∨ leAt img 0x10 4 = 0 then ImageRes.bad 3
  else if leAt img 0x3C 4 ≠ crc32 (img.take 0x3C) then ImageRes.bad 4
  else
    match sigCode fuses (leAt img 0x14 1) img with
    | 0 =>
      if leAt img 0x10 4 < floor then ImageRes.bad 7
      else if !((leAt img 0x20 1).testBit part.order.bitNo) || decide ((if part.b0 then 1 else 0) < leAt img 0x21 1) ||
          (decide (leAt img 0x18 8 ≠ 0) && decide (leAt img 0x18 8 ≠ part.uid)) then ImageRes.bad 8
      else
        let n := leAt img 0x0C 2
        if n = 0 ∨ 16 < n then ImageRes.bad 9
        else
          match sections n 64 0 tr img with
          | none => ImageRes.bad 9
          | some secs => checkBody part img secs
    | c => ImageRes.bad c

end Sys2Proof.Machine
end

