-- ==== Sys2Proof/Machine/AmendParse.lean ====
section
/-! DEFINITION. The amendment's format, its validation, and the configuration it leaves (02 R51 to R54). -/

namespace Sys2Proof.Machine

/-- The value length and used bytes of an amendment record type (R53). -/
def arecLayout (t : Nat) : Option (Nat × List (Nat × Nat)) :=
  match t with
  | 0x0901 => some (4, [(0, 1), (1, 1), (2, 1)])
  | 0x0902 | 0x0903 => some (4, [(0, 1), (1, 1), (2, 1), (3, 1)])
  | 0x0904 => some (8, [(0, 2), (2, 1), (3, 1), (4, 1), (5, 1)])
  | 0x0905 => recLayout 0x0701
  | 0x0906 => recLayout 0x0301
  | 0x0907 => some (4, [(0, 1)])
  | 0x0908 => recLayout 0x0104
  | 0x0909 => recLayout 0x0502
  | 0x090A => some (4, [(0, 1), (1, 1)])
  | 0x090B => recLayout 0x0302
  | _ => none

/-- An amendment record from its type and value (R53). -/
def arecOf (t : Nat) (v : List Byte) : Option ARec :=
  let f (o n : Nat) : Nat := leAt v o n
  match t with
  | 0x0901 => some (.moveCluster (f 0 1) (f 1 1) (f 2 1))
  | 0x0902 => some (.moveFunction (f 0 1) (f 1 1) (f 2 1) (f 3 1))
  | 0x0903 => some (.moveDma (f 0 1) (f 1 1) (f 2 1) (f 3 1))
  | 0x0904 => some (.moveIrq (f 0 2) (f 2 1) (f 3 1) (f 4 1) (f 5 1))
  | 0x0905 => some (.setBound (f 0 2) (f 2 1) (f 4 4) (f 8 4))
  | 0x0906 => some (.setHold (f 0 1) (f 1 1) (f 2 1) (f 3 1))
  | 0x0907 => some (.clearHold (f 0 1))
  | 0x0908 => some (.setDebug (f 0 1) (f 1 1))
  | 0x0909 => some (.setMark (f 0 1) (f 1 1) (f 2 1) (f 3 1) (f 4 1) (f 8 8) (f 16 4) (f 20 4))
  | 0x090A => some (.setShare (f 0 1) (f 1 1))
  | 0x090B => some (.setCap (f 0 2))
  | _ => none

/-- The image record an amendment record leaves behind, when it leaves one of its own. -/
def ARec.toRec : ARec → Option Rec
  | .moveFunction f _ p w => some (.function f 1 p w)
  | .moveDma c _ p w => some (.dma c 1 p w)
  | .moveIrq n _ p w fl => some (.irq n 1 p w fl)
  | .setBound c p lo hi => some (.bound c p lo hi)
  | .setHold d l w p => some (.hold d l w p)
  | .setDebug p e => some (.debug p e)
  | .setMark s n m a p an pe t => some (.mark s n m a p an pe t)
  | .setCap w => some (.cap w)
  | .moveCluster _ _ _ | .clearHold _ | .setShare _ _ => none

/-- Code 0x0D for an amendment record. -/
def arecInRange (o : Order) (r : ARec) : Bool :=
  let po (p : Nat) : Bool := decide (p < 32)
  match r with
  | .moveCluster c f t => o.cluster c && po f && po t
  | .moveFunction f p _ _ => decide (0 < f) && po p && (match r.toRec with
      | some x => recInRange o x
      | none => true)
  | .moveDma _ p _ _ | .moveIrq _ p _ _ _ => po p && (match r.toRec with
      | some x => recInRange o x
      | none => true)
  | .clearHold d => o.domain d
  | .setShare p _ => po p
  | _ => match r.toRec with
    | some x => recInRange o x
    | none => true

/-- Code 0x0E: the from pond of a move is the present owner (R54). -/
def arecOwned (cfg : List Rec) (r : ARec) : Bool :=
  match r with
  | .moveCluster c f _ => decide (clusterOwner cfg c = some f)
  | .moveFunction n f _ _ => decide ((fnOwner cfg n).map (·.1) = some f)
  | .moveDma c f _ _ => decide ((dmaOwner cfg c).map (·.1) = some f)
  | .moveIrq n f _ _ _ => decide ((irqOwner cfg n).map (·.1) = some f)
  | _ => true

/-- A record of a span without one element: at most two records. -/
def splitSpan (f n x : Nat) (mk : Nat → Nat → Rec) : List Rec :=
  if f ≤ x ∧ x < f + n then
    (if f < x then [mk f (x - f)] else []) ++ (if x + 1 < f + n then [mk (x + 1) (f + n - x - 1)] else [])
  else [mk f n]

/-- What an amendment record does to one record of the configuration. -/
def ARec.onRec (a : ARec) (r : Rec) : List Rec :=
  match a, r with
  | .moveCluster c f t, .pond p w fl m af l s =>
    if f = t then [r]
    else if p = f then [.pond p w fl (m &&& (2 ^ 32 - 1 - 2 ^ c)) (af &&& (2 ^ 32 - 1 - 2 ^ c)) l s]
    else if p = t then [.pond p w fl (m ||| 2 ^ c) (if af = 0 then 0 else af ||| 2 ^ c) l s]
    else [r]
  | .moveCluster c f _, .mark sc _ _ _ p _ _ _ => if sc = c ∧ p = f then [] else [r]
  | .moveFunction x _ _ _, .function f n p w => splitSpan f n x (fun a b => .function a b p w)
  | .moveDma x _ _ _, .dma f n p w => splitSpan f n x (fun a b => .dma a b p w)
  | .moveIrq x _ _ _ _, .irq f n p w fl => splitSpan f n x (fun a b => .irq a b p w fl)
  | .setBound c p _ _, .bound d q _ _ => if c = d ∧ p = q then [] else [r]
  | .setHold d _ _ _, .hold e _ _ _ => if d = e then [] else [r]
  | .clearHold d, .hold e _ _ _ => if d = e then [] else [r]
  | .setDebug p _, .debug q _ => if p = q then [] else [r]
  | .setMark s n _ _ _ _ _ _, .mark t m _ _ _ _ _ _ => if s = t ∧ n = m then [] else [r]
  | .setShare p x, .pond q w fl m af l s => if p = q then [.pond q w fl m af l x] else [.pond q w fl m af l s]
  | .setCap _, .cap _ => []
  | _, _ => [r]

/-- The configuration with an amendment record applied (R53). -/
def amendCfg (cfg : List Rec) (a : ARec) : List Rec :=
  cfg.flatMap a.onRec ++ a.toRec.toList

/-- An amendment's records against the configuration, in order (R54), each pond that one names having a POND record (R43):
the code, and the configuration left; of two records that set one thing the later replaces the earlier. (DEDUCED, log entries 114
and 239.) -/
def checkArecs (part : Part) : List Rec → List ARec → Nat × List Rec
  | cfg, [] => (if constraintsOk part.order part.tdp cfg then 0 else 0x0F, cfg)
  | cfg, a :: as =>
    if !(arecOwned cfg a) then (0x0E, cfg)
    else
      match a with
      | .moveCluster c f t =>
        if pondClusters cfg f &&& (2 ^ 32 - 1 - 2 ^ c) = 0 ∨ pondRec cfg t = none then (0x0F, cfg)
        else checkArecs part (amendCfg cfg a) as
      | .setShare p _ => if pondRec cfg p = none then (0x0F, cfg) else checkArecs part (amendCfg cfg a) as
      | _ => checkArecs part (amendCfg cfg a) as

/-- What an amendment's validation gives: code, records, configuration left, BASE, SEQ and length. -/
structure AmendRes where
  code : Nat
  recs : List ARec
  cfg  : List Rec
  base : Nat
  seq  : Nat
  len  : Nat
deriving DecidableEq, Repr

def AmendRes.bad (c : Nat) : AmendRes := { code := c, recs := [], cfg := [], base := 0, seq := 0, len := 0 }

/-- Validation of an amendment (R54): its format and signature as for an image, R52, then each record. An optional record of
a type it does not know is ignored (R37). (DEDUCED, log entry 115.) -/
def checkAmendment (part : Part) (fuses : Fuses) (felt : Felt) (buf : List Byte) : AmendRes :=
  let alen := leAt buf 8 4
  let f := buf.take alen
  let tr := alen - 104
  if 4096 < alen ∨ alen < 136 ∨ buf.length < alen then AmendRes.bad 2
  else if leAt f 0 4 ≠ 0x444D4146 ∨ leAt f tr 4 ≠ 0x444E4546 ∨ leAt f 4 1 ≠ 1 ∨ leAt f 6 2 ≠ 32 ∨
      leAt f (tr + 4) 4 ≠ alen - 96 then AmendRes.bad 3
  else
    match sigCode fuses (leAt f 0x16 1) f with
    | 0 =>
      if leAt f 0x18 8 ≠ 0 ∧ leAt f 0x18 8 ≠ part.uid then AmendRes.bad 8
      else if leAt f 0x0C 4 ≠ felt.iver then AmendRes.bad 0x10
      else if leAt f 0x10 4 ≠ felt.seq + 1 then AmendRes.bad 0x11
      else
        let raw := rawRecords alen ((f.take tr).drop 32)
        if raw.1.any (fun r => (arecLayout r.1).isNone && !(r.1.testBit 7)) then AmendRes.bad 0x12
        else if !raw.2 || decide (leAt f 0x14 2 ≠ raw.1.length) then AmendRes.bad 0x0C
        else
          let kn := raw.1.filter (fun r => (arecLayout r.1).isSome)
          if kn.any (fun r => match arecLayout r.1 with
              | some (n, _) => decide (r.2.length ≠ n)
              | none => false) then AmendRes.bad 0x0C
          else
            let recs := kn.filterMap (fun r => arecOf r.1 r.2)
            if leAt f 0x17 1 ≠ 0 ∨ !(kn.all (fun r => match arecLayout r.1 with
                | some (_, u) => unusedZero u r.2
                | none => true)) ∨ !(recs.all (arecInRange part.order)) then AmendRes.bad 0x0D
            else
              let r := checkArecs part felt.cfg recs
              { code := r.1, recs := recs, cfg := r.2, base := felt.iver, seq := felt.seq + 1, len := alen }
    | c => AmendRes.bad c

/-- First address of the amendment log, and of what follows it (R44). -/
def logBase : Nat := nvBase + 0x800000
def logEnd : Nat := nvBase + 0x900000

/-- The length of a log entry: the amendment padded to records of 64 bytes, then its commit record. -/
def logSpan (alen : Nat) : Nat := (alen + 63) / 64 * 64 + 64

/-- The commit record of a log entry: a mark, SEQ, BASE, the CRC of the amendment. DESIGN CHOICE (log entry 9): the spec does
not lay out the log. -/
def commitRec (seq base : Nat) (amd : List Byte) : List Byte :=
  [0x46#8, 0x43#8, 0x4D#8, 0x54#8] ++ bytesLE 4 seq ++ bytesLE 4 base ++ bytesLE 4 (crc32 amd) ++ List.replicate 48 0#8

/-- An entry of the log: its address, amendment, BASE, SEQ and whether it is committed and not void. -/
structure LogEnt where
  pa   : Nat
  amd  : List Byte
  base : Nat
  seq  : Nat
  ok   : Bool
deriving DecidableEq, Repr

/-- The entries of the log from an address, and the address after them. -/
def scanLog (rd : Nat → Nat → List Byte) : Nat → Nat → List LogEnt × Nat
  | 0, pa => ([], pa)
  | n + 1, pa =>
    let h := rd pa 32
    let alen := leAt h 8 4
    if leAt h 0 4 ≠ 0x444D4146 ∨ alen < 136 ∨ 4096 < alen ∨ logEnd < pa + logSpan alen then ([], pa)
    else
      let amd := rd pa alen
      let c := rd (pa + logSpan alen - 64) 64
      let e : LogEnt := { pa := pa, amd := amd, base := leAt h 0x0C 4, seq := leAt h 0x10 4
                          ok := decide (c = commitRec (leAt h 0x10 4) (leAt h 0x0C 4) amd) }
      let r := scanLog rd n (pa + logSpan alen)
      (e :: r.1, r.2)

end Sys2Proof.Machine
end

