-- ==== Sys2Proof/Config.lean ====
section
/-! DEFINITION. The values the spec leaves open: constants without a body, applied to the count of free values used
(State.free), so that no proof can see what they are. -/

namespace Sys2Proof

/-- A doubleword of the nonce that SEC0 draws from its random source (15 R436). Free value (log entry 16). -/
opaque Config.nonce : Nat → Word

/-- The type code of a record of the device description in the expansion ROM (14 R397). Free value (log entry 17). -/
opaque Config.descType : Nat → BitVec 16

/-- The value a sense converter measures at an analogue sample (03 R83). Free value (log entry 18). -/
opaque Config.sample : Nat → Word

/-- What the PTP servo sets the clock's rate and step to (13 R377). Free value (log entry 232). -/
opaque Config.servo : Nat → Word

/-- How many flits beyond one a virtual channel's buffer holds (01 R18 gives no depth). Free value (log entry 237). -/
opaque Config.vcDepth : Nat

/-- What an opcode of the on-chip network names: 0 a read request, 1 a write request, 2 a snoop, 3 a response; the opcode of the response
to a request (01 R23: the encodings are internal to the device). Free values (log entry 233). -/
opaque Config.flitKind : BitVec 7 → BitVec 2
opaque Config.respOpc : BitVec 7 → BitVec 7

/-- Which line of a full set a cache replaces (09 R233 gives no policy). Free value (log entry 247). -/
opaque Config.victim : Nat → Nat

/-- Whether the old value of a loop register still applies to the closing that its own MTC makes (04 R107). Free value (log entry 251). -/
opaque Config.loopOld : Nat → Bool

/-- The logged header of a packet that the endpoint found in error, as one number: the spec gives the requests of the host no tag and no
requester (14 R389). Free value (log entry 259). -/
opaque Config.tlpHeader : Nat → BitVec 128

/-- How many ways a TLB has (07 R183 gives its entries only). Free value (log entry 20). -/
opaque Config.tlbWays : Nat

end Sys2Proof
end

