-- ==== Sys2Proof/Machine/RegMap.lean ====
section
/-! DEFINITION. The control-space register map: every block, register and field of the spec's register maps (18 R503,
R508, and the bit tables of the owning chapters), with its type (R4), reset value and world (R5). -/

namespace Sys2Proof.Machine

/-- Field types of R4. -/
inductive FTy where
  | ro | rw | wo | w1s | w1c | rc | sc
deriving DecidableEq, Repr

/-- The World column of R5. -/
inductive FWorld where
  | n | s | o
deriving DecidableEq, Repr

/-- A register field: bits `hi:lo`, type, reset value, world. -/
structure Fld where
  hi  : Nat
  lo  : Nat
  ty  : FTy
  rst : Nat
  w   : FWorld
deriving DecidableEq, Repr

/-- A register, or `cnt` registers of one layout `stride` bytes apart, at an offset in its block. -/
structure RegSpec where
  off    : Nat
  stride : Nat
  cnt    : Nat
  fields : List Fld
deriving DecidableEq, Repr

/-- The control-space blocks of R503. -/
inductive Blk where
  | gid | atb | pwr | sec | err | nvs | felt | pin | ic | dma | clu | dbg | dmc | wpt | lane | pep | llc
deriving DecidableEq, Repr

/-- Offset of instance 0 in control space (R503). -/
def Blk.base : Blk → Nat
  | .gid => 0x00000000 | .atb => 0x00100000 | .pwr => 0x00110000 | .sec => 0x00120000 | .err => 0x00130000
  | .nvs => 0x00140000 | .felt => 0x00150000 | .pin => 0x00160000 | .ic => 0x00170000 | .dma => 0x00180000
  | .clu => 0x01000000 | .dbg => 0x02000000 | .dmc => 0x03000000 | .wpt => 0x04000000 | .lane => 0x05000000
  | .pep => 0x06000000 | .llc => 0x07000000

/-- Stride of the instances (R503); also the span of one instance. -/
def Blk.stride : Blk → Nat
  | .lane => 0x1000
  | _ => 0x10000

/-- Number of instances (R503). -/
def Blk.count : Blk → Nat
  | .clu => 32 | .dbg => 256 | .dmc => 16 | .wpt => 128 | .lane => 136 | .llc => 32
  | _ => 1

/-- Every block. -/
def Blk.all : List Blk :=
  [.gid, .atb, .pwr, .sec, .err, .nvs, .felt, .pin, .ic, .dma, .clu, .dbg, .dmc, .wpt, .lane, .pep, .llc]

/-- One register at one offset. -/
def reg1 (off : Nat) (fields : List Fld) : RegSpec := ⟨off, 8, 1, fields⟩

/-- Whole-register read-only words. -/
def roWords (off stride cnt : Nat) (w : FWorld) : RegSpec := ⟨off, stride, cnt, [⟨63, 0, .ro, 0, w⟩]⟩

/-- The four registers of an angle mark, `cnt` marks 0x20 apart (03). -/
def markRegs (off cnt : Nat) : List RegSpec :=
  [ ⟨off, 0x20, cnt, [⟨63, 32, .ro, 0, .o⟩, ⟨31, 31, .rw, 0, .o⟩, ⟨30, 30, .rw, 0, .o⟩, ⟨29, 27, .ro, 0, .o⟩,
      ⟨26, 22, .ro, 0, .o⟩]⟩,
    ⟨off + 8, 0x20, cnt, [⟨63, 0, .rw, 0, .o⟩]⟩,
    ⟨off + 16, 0x20, cnt, [⟨31, 0, .rw, 0, .o⟩]⟩,
    ⟨off + 24, 0x20, cnt, [⟨63, 32, .ro, 0, .o⟩, ⟨31, 16, .rc, 0, .o⟩, ⟨15, 8, .rc, 0, .o⟩, ⟨1, 1, .ro, 0, .o⟩,
      ⟨0, 0, .ro, 0, .o⟩]⟩ ]

/-- GID (R509): every field read-only, loaded from the fuses at BS01. -/
def regsGid : List RegSpec :=
  [ reg1 0x00 [⟨63, 48, .ro, 0, .n⟩, ⟨15, 12, .ro, 0, .n⟩, ⟨11, 8, .ro, 0, .n⟩, ⟨4, 4, .ro, 0, .n⟩, ⟨2, 0, .ro, 0, .n⟩],
    reg1 0x08 [⟨63, 0, .ro, 0, .n⟩], reg1 0x10 [⟨15, 0, .ro, 0, .n⟩],
    reg1 0x18 [⟨47, 32, .ro, 0, .n⟩, ⟨31, 16, .ro, 0, .n⟩, ⟨15, 0, .ro, 0, .n⟩],
    roWords 0x20 8 4 .n,
    reg1 0x40 [⟨55, 48, .ro, 0, .n⟩, ⟨47, 32, .ro, 0, .n⟩, ⟨31, 0, .ro, 0, .n⟩],
    roWords 0x48 8 2 .n ]

/-- ATB (03). -/
def regsAtb : List RegSpec :=
  [ reg1 0x00 [⟨15, 8, .ro, 0, .n⟩, ⟨7, 7, .ro, 1, .n⟩, ⟨6, 6, .ro, 0, .n⟩, ⟨5, 3, .ro, 0, .n⟩, ⟨2, 0, .ro, 0, .n⟩],
    reg1 0x08 [⟨63, 0, .ro, 0, .n⟩], reg1 0x10 [⟨31, 0, .ro, 50000000, .n⟩], reg1 0x18 [⟨31, 0, .ro, 0, .n⟩],
    reg1 0x20 [⟨7, 0, .w1c, 0, .n⟩],
    reg1 0x28 [⟨15, 0, .rw, 10000, .s⟩], reg1 0x30 [⟨15, 0, .rw, 3000, .s⟩],
    reg1 0x38 [⟨15, 0, .rw, 100, .s⟩], reg1 0x40 [⟨15, 0, .rw, 8, .s⟩],
    reg1 0x48 [⟨8, 8, .ro, 0, .n⟩, ⟨7, 0, .ro, 0, .n⟩],
    ⟨0x100, 8, 8, [⟨31, 31, .ro, 0, .n⟩, ⟨30, 28, .ro, 0, .n⟩, ⟨27, 24, .ro, 0, .n⟩, ⟨23, 16, .ro, 0, .n⟩]⟩,
    reg1 0x200 [⟨63, 0, .ro, 0, .n⟩], reg1 0x208 [⟨63, 0, .ro, 0, .n⟩],
    reg1 0x210 [⟨63, 32, .ro, 0, .n⟩, ⟨31, 0, .ro, 0, .n⟩] ]
  ++ markRegs 0x1000 64

/-- PWR (16). -/
def regsPwr : List RegSpec :=
  [ reg1 0x00 [⟨63, 48, .rc, 0, .n⟩, ⟨47, 32, .ro, 0, .n⟩, ⟨7, 7, .ro, 0, .n⟩, ⟨6, 6, .ro, 0, .n⟩, ⟨5, 5, .ro, 0, .n⟩,
      ⟨1, 0, .ro, 0, .n⟩],
    reg1 0x08 [⟨7, 0, .w1c, 0, .n⟩],
    reg1 0x10 [⟨63, 63, .sc, 0, .s⟩, ⟨11, 8, .ro, 0, .s⟩, ⟨1, 0, .rw, 0, .s⟩],
    reg1 0x18 [⟨15, 0, .rw, 0, .s⟩],
    reg1 0x20 [⟨31, 0, .ro, 0, .n⟩],
    reg1 0x28 [⟨63, 56, .ro, 0, .n⟩, ⟨45, 40, .ro, 0, .n⟩, ⟨0, 0, .ro, 0, .n⟩],
    reg1 0x30 [⟨7, 0, .rw, 105, .s⟩],
    reg1 0x38 [⟨47, 32, .rw, 600, .s⟩, ⟨31, 16, .rw, 1000, .s⟩, ⟨15, 0, .rw, 780, .s⟩],
    reg1 0x40 [⟨7, 0, .rc, 0, .n⟩], reg1 0x48 [⟨5, 0, .rc, 0, .n⟩], reg1 0x50 [⟨5, 0, .rw, 1, .s⟩],
    reg1 0x58 [⟨63, 63, .rw, 0, .s⟩, ⟨31, 16, .rw, 1000, .s⟩, ⟨7, 4, .rw, 3, .s⟩],
    ⟨0x60, 8, 6, [⟨63, 48, .rw, 0x7FFF, .s⟩, ⟨47, 32, .rw, 0, .s⟩, ⟨31, 16, .ro, 0, .s⟩, ⟨0, 0, .rw, 0, .s⟩]⟩,
    ⟨0x90, 8, 4, [⟨63, 48, .ro, 0, .n⟩, ⟨47, 32, .ro, 0, .n⟩, ⟨31, 16, .ro, 0, .n⟩, ⟨15, 8, .rc, 0, .n⟩,
      ⟨0, 0, .ro, 0, .n⟩]⟩,
    ⟨0x100, 8, 53, [⟨63, 63, .sc, 0, .n⟩, ⟨62, 60, .rw, 0, .n⟩, ⟨59, 56, .ro, 0, .n⟩, ⟨55, 53, .ro, 0, .n⟩,
      ⟨52, 51, .ro, 3, .n⟩, ⟨50, 50, .ro, 0, .n⟩, ⟨49, 49, .ro, 0, .n⟩, ⟨48, 44, .ro, 0, .n⟩, ⟨42, 40, .rw, 0, .n⟩,
      ⟨39, 24, .rw, 0xFF, .n⟩, ⟨23, 12, .rw, 0, .n⟩, ⟨11, 9, .rw, 3, .n⟩]⟩ ]

/-- SEC (15). -/
def regsSec : List RegSpec :=
  [ reg1 0x00 [⟨63, 48, .rc, 0, .s⟩, ⟨15, 0, .ro, 0, .s⟩],
    reg1 0x08 [⟨52, 0, .w1c, 0, .s⟩],
    reg1 0x10 [⟨7, 4, .ro, 0, .s⟩, ⟨3, 0, .ro, 0, .s⟩],
    reg1 0x18 [⟨63, 63, .sc, 0, .s⟩, ⟨11, 8, .ro, 0, .s⟩, ⟨5, 4, .rw, 0, .s⟩, ⟨1, 0, .rw, 0, .s⟩],
    ⟨0x100, 8, 12, [⟨63, 0, .wo, 0, .s⟩]⟩,
    ⟨0x200, 8, 32, [⟨19, 16, .ro, 0, .s⟩, ⟨11, 8, .ro, 0, .s⟩, ⟨7, 4, .w1s, 0, .s⟩, ⟨3, 0, .ro, 0, .s⟩]⟩,
    roWords 0x300 8 4 .s,
    reg1 0x320 [⟨63, 63, .sc, 0, .s⟩, ⟨3, 0, .rw, 0, .s⟩],
    reg1 0x328 [⟨63, 32, .ro, 0, .s⟩, ⟨17, 17, .ro, 0, .s⟩, ⟨16, 16, .ro, 0, .s⟩, ⟨13, 12, .ro, 0, .s⟩,
      ⟨11, 4, .ro, 0, .s⟩, ⟨3, 0, .ro, 0, .s⟩],
    ⟨0x400, 8, 20, [⟨63, 0, .wo, 0, .s⟩]⟩,
    ⟨0x800, 8, 128, [⟨63, 0, .rw, 0, .s⟩]⟩,
    ⟨0xC00, 8, 16, [⟨63, 63, .rw, 0, .s⟩, ⟨5, 0, .rw, 0, .s⟩]⟩ ]

/-- ERR (17). The BKTCFG resets are those of R486. -/
def regsErr : List RegSpec :=
  [ reg1 0x00 [⟨63, 48, .rc, 0, .n⟩, ⟨47, 32, .ro, 0, .n⟩, ⟨31, 16, .ro, 0, .n⟩, ⟨0, 0, .ro, 0, .n⟩],
    reg1 0x08 [⟨63, 32, .ro, 0, .s⟩, ⟨13, 0, .ro, 0, .s⟩],
    reg1 0x10 [⟨63, 63, .sc, 0, .s⟩, ⟨62, 62, .rw, 0, .s⟩],
    reg1 0x18 [⟨63, 32, .ro, 0, .n⟩, ⟨31, 24, .ro, 0, .n⟩, ⟨23, 20, .ro, 0, .n⟩, ⟨19, 19, .ro, 0, .n⟩,
      ⟨18, 17, .ro, 0, .n⟩, ⟨15, 12, .ro, 0, .n⟩],
    reg1 0x20 [⟨63, 0, .ro, 0, .n⟩],
    reg1 0x100 [⟨63, 48, .rw, 4, .s⟩, ⟨31, 0, .rw, 86400, .s⟩],
    reg1 0x108 [⟨63, 48, .rw, 4, .s⟩, ⟨31, 0, .rw, 86400, .s⟩],
    reg1 0x110 [⟨63, 48, .rw, 16, .s⟩, ⟨31, 0, .rw, 3600, .s⟩],
    reg1 0x118 [⟨63, 48, .rw, 1024, .s⟩, ⟨31, 0, .rw, 90, .s⟩],
    reg1 0x120 [⟨63, 48, .rw, 8, .s⟩, ⟨31, 0, .rw, 86400, .s⟩],
    roWords 0x200 8 8 .s,
    ⟨0x400, 8, 32, [⟨7, 0, .rw, 0, .o⟩]⟩,
    roWords 0x1000 8 256 .o ]

/-- NVS (R510). -/
def regsNvs : List RegSpec :=
  [ reg1 0x00 [⟨63, 48, .rc, 0, .n⟩, ⟨47, 32, .rc, 0, .n⟩, ⟨3, 0, .ro, 0, .n⟩],
    reg1 0x08 [⟨2, 0, .w1c, 0, .n⟩], reg1 0x10 [⟨63, 0, .ro, 0, .n⟩] ]

/-- FELT (02). -/
def regsFelt : List RegSpec :=
  [ reg1 0x00 [⟨31, 24, .ro, 0, .n⟩, ⟨23, 16, .ro, 0, .n⟩, ⟨15, 12, .ro, 0, .n⟩, ⟨5, 5, .ro, 0, .n⟩, ⟨4, 4, .ro, 0, .n⟩,
      ⟨3, 2, .ro, 0, .n⟩, ⟨1, 1, .ro, 0, .n⟩, ⟨0, 0, .ro, 0, .n⟩],
    reg1 0x08 [⟨63, 32, .ro, 0, .n⟩, ⟨31, 0, .ro, 0, .n⟩],
    reg1 0x10 [⟨0, 0, .rw, 0, .s⟩],
    reg1 0x18 [⟨31, 31, .sc, 0, .n⟩, ⟨3, 0, .rw, 0, .n⟩],
    reg1 0x20 [⟨31, 31, .ro, 0, .n⟩, ⟨15, 8, .ro, 0, .n⟩, ⟨3, 0, .ro, 0, .n⟩],
    reg1 0x28 [⟨31, 0, .rw, 0, .s⟩],
    ⟨0x1000, 8, 512, [⟨63, 0, .wo, 0, .n⟩]⟩ ]

/-- PIN (19). -/
def regsPin : List RegSpec :=
  [ reg1 0x00 [⟨63, 48, .rc, 0, .n⟩, ⟨47, 32, .rc, 0, .n⟩, ⟨15, 0, .ro, 0, .n⟩],
    reg1 0x08 [⟨31, 31, .ro, 0, .n⟩, ⟨16, 16, .ro, 0, .n⟩, ⟨15, 0, .ro, 0, .n⟩],
    roWords 0x100 8 4 .n,
    ⟨0x200, 8, 4, [⟨63, 0, .w1s, 0, .o⟩]⟩, ⟨0x300, 8, 4, [⟨63, 0, .w1c, 0, .o⟩]⟩,
    ⟨0x1000, 8, 256, [⟨63, 63, .ro, 0, .o⟩, ⟨62, 62, .ro, 0, .o⟩, ⟨61, 57, .ro, 0, .o⟩, ⟨56, 55, .ro, 0, .o⟩,
      ⟨49, 48, .rw, 0, .o⟩, ⟨47, 46, .rw, 0, .o⟩, ⟨45, 45, .rw, 0, .o⟩, ⟨43, 40, .rw, 0, .o⟩, ⟨31, 16, .rw, 0, .o⟩,
      ⟨0, 0, .w1c, 0, .o⟩]⟩ ]

/-- IC (10). PENDSET and PENDCLR, and MASKSET and MASKCLR, show one state each; it is kept at PENDSET and MASKSET. -/
def regsIc : List RegSpec :=
  [ reg1 0x00 [⟨63, 48, .rc, 0, .n⟩, ⟨47, 32, .rc, 0, .n⟩, ⟨26, 16, .ro, 0, .n⟩, ⟨15, 0, .ro, 0, .n⟩],
    reg1 0x08 [⟨10, 0, .wo, 0, .n⟩],
    ⟨0x100, 8, 32, [⟨63, 0, .w1s, 0, .o⟩]⟩, ⟨0x200, 8, 32, [⟨63, 0, .w1c, 0, .o⟩]⟩,
    ⟨0x300, 8, 32, [⟨63, 0, .w1s, 0xFFFFFFFFFFFFFFFF, .o⟩]⟩, ⟨0x400, 8, 32, [⟨63, 0, .w1c, 0xFFFFFFFFFFFFFFFF, .o⟩]⟩,
    ⟨0x500, 8, 32, [⟨63, 0, .w1c, 0, .o⟩]⟩, roWords 0x600 8 32 .o,
    ⟨0x2000, 8, 1024, [⟨63, 0, .rw, 0, .o⟩]⟩,
    ⟨0x4000, 8, 2048, [⟨58, 54, .ro, 0, .o⟩, ⟨53, 53, .ro, 0, .o⟩, ⟨52, 52, .ro, 0, .o⟩, ⟨51, 51, .ro, 0, .o⟩,
      ⟨50, 50, .ro, 0, .o⟩, ⟨31, 31, .rw, 0, .o⟩, ⟨30, 26, .rw, 0, .o⟩, ⟨25, 16, .rw, 0, .o⟩, ⟨15, 12, .rw, 0, .o⟩,
      ⟨7, 0, .rw, 0, .o⟩]⟩ ]

/-- DMA (14). -/
def regsDma : List RegSpec :=
  [ ⟨0x00, 64, 64, [⟨63, 63, .rw, 0, .o⟩, ⟨62, 62, .rw, 0, .o⟩, ⟨61, 61, .ro, 0, .o⟩, ⟨60, 60, .sc, 0, .o⟩,
      ⟨47, 46, .rw, 0, .o⟩, ⟨3, 0, .rw, 4, .o⟩]⟩,
    ⟨0x08, 64, 64, [⟨51, 6, .rw, 0, .o⟩]⟩, ⟨0x10, 64, 64, [⟨11, 0, .ro, 0, .o⟩]⟩,
    ⟨0x18, 64, 64, [⟨11, 0, .rw, 0, .o⟩]⟩, ⟨0x20, 64, 64, [⟨63, 0, .ro, 0, .o⟩]⟩ ]

/-- CLU (10; 16 FREQREQ, FREQSTAT; 04 BOOTVEC; 03 marks). CTXDATA0-7 are windows on the descriptor of CTXSEL. -/
def regsClu : List RegSpec :=
  [ reg1 0x00 [⟨63, 48, .rc, 0, .n⟩, ⟨15, 0, .ro, 0, .n⟩],
    reg1 0x08 [⟨7, 0, .rw, 0, .o⟩], reg1 0x10 [⟨3, 0, .rw, 15, .o⟩], reg1 0x18 [⟨15, 0, .rw, 0, .o⟩],
    reg1 0x20 [⟨63, 63, .rw, 0, .o⟩, ⟨47, 32, .rw, 1000, .o⟩, ⟨31, 16, .rw, 4096, .o⟩, ⟨7, 0, .rw, 128, .o⟩],
    reg1 0x28 [⟨24, 16, .rc, 0, .o⟩, ⟨8, 0, .ro, 0, .o⟩],
    reg1 0x30 [⟨63, 0, .ro, 0, .o⟩], reg1 0x38 [⟨63, 0, .ro, 0, .o⟩],
    reg1 0x40 [⟨9, 0, .rw, 0, .o⟩],
    reg1 0x48 [⟨63, 63, .sc, 0, .o⟩, ⟨36, 32, .rw, 0, .o⟩, ⟨8, 8, .rw, 0, .o⟩, ⟨3, 0, .rw, 0, .o⟩],
    reg1 0x50 [⟨63, 63, .ro, 0, .o⟩, ⟨30, 16, .ro, 0, .o⟩, ⟨3, 0, .ro, 0, .o⟩],
    reg1 0x58 [⟨4, 0, .w1c, 0, .o⟩],
    reg1 0x60 [⟨15, 0, .rw, 3200, .o⟩],
    reg1 0x68 [⟨63, 48, .ro, 0, .o⟩, ⟨47, 44, .ro, 0, .o⟩, ⟨31, 0, .ro, 0, .o⟩],
    reg1 0x80 [⟨63, 61, .ro, 0, .o⟩, ⟨60, 60, .rw, 0, .o⟩, ⟨59, 59, .rw, 0, .s⟩, ⟨58, 51, .rw, 0, .o⟩, ⟨50, 40, .ro, 0, .o⟩, ⟨39, 32, .rc, 0, .o⟩, ⟨31, 24, .ro, 0, .o⟩],
    ⟨0x88, 8, 3, [⟨63, 0, .rw, 0, .o⟩]⟩, roWords 0xA0 8 4 .o,
    ⟨0x100, 16, 8, [⟨63, 63, .ro, 0, .o⟩, ⟨62, 59, .ro, 0, .o⟩, ⟨58, 55, .ro, 0, .o⟩, ⟨54, 50, .ro, 0, .o⟩,
      ⟨49, 40, .ro, 0, .o⟩, ⟨31, 0, .ro, 0, .o⟩]⟩,
    ⟨0x108, 16, 8, [⟨63, 0, .ro, 0, .o⟩]⟩,
    ⟨0x200, 16, 16, [⟨63, 63, .rw, 0, .o⟩, ⟨62, 62, .rw, 0, .o⟩, ⟨9, 0, .rw, 0, .o⟩]⟩,
    ⟨0x208, 16, 16, [⟨63, 32, .rw, 0, .o⟩, ⟨31, 0, .rw, 0, .o⟩]⟩,
    ⟨0x400, 8, 8, [⟨63, 63, .rw, 0, .o⟩, ⟨10, 0, .ro, 0, .o⟩]⟩,
    ⟨0x440, 8, 8, [⟨63, 63, .sc, 0, .o⟩, ⟨0, 0, .ro, 0, .o⟩]⟩,
    ⟨0x800, 0x100, 8, [⟨63, 63, .w1c, 0, .o⟩, ⟨62, 0, .ro, 0, .o⟩]⟩,
    ⟨0x800, 8, 256, [⟨63, 0, .ro, 0, .o⟩]⟩,
    reg1 0x7F00 [⟨47, 10, .rw, 0, .s⟩] ]
  ++ markRegs 0x8000 16

/-- DBG (15). -/
def regsDbg : List RegSpec :=
  [ reg1 0x00 [⟨63, 63, .sc, 0, .n⟩, ⟨62, 62, .sc, 0, .n⟩, ⟨61, 61, .rw, 0, .n⟩, ⟨60, 60, .rw, 0, .n⟩],
    reg1 0x08 [⟨63, 63, .ro, 0, .n⟩, ⟨62, 62, .ro, 0, .n⟩, ⟨7, 0, .ro, 0, .n⟩],
    reg1 0x10 [⟨63, 0, .ro, 0, .n⟩],
    ⟨0x100, 16, 4, [⟨63, 63, .rw, 0, .n⟩, ⟨62, 62, .rw, 0, .n⟩, ⟨61, 60, .rw, 0, .n⟩, ⟨47, 0, .rw, 0, .n⟩]⟩,
    reg1 0x200 [⟨11, 0, .rw, 0, .n⟩], reg1 0x208 [⟨63, 0, .rw, 0, .n⟩] ]

/-- DMC (11). -/
def regsDmc : List RegSpec :=
  [ reg1 0x00 [⟨63, 48, .rc, 0, .n⟩, ⟨33, 32, .ro, 0, .n⟩, ⟨25, 24, .ro, 0, .n⟩, ⟨19, 16, .ro, 0, .n⟩,
      ⟨10, 8, .ro, 0, .n⟩, ⟨2, 0, .ro, 0, .n⟩],
    reg1 0x08 [⟨63, 48, .ro, 0, .n⟩, ⟨47, 32, .ro, 0, .n⟩, ⟨31, 24, .ro, 0, .n⟩, ⟨5, 4, .ro, 0, .n⟩, ⟨3, 2, .ro, 0, .n⟩,
      ⟨1, 0, .ro, 0, .n⟩],
    reg1 0x10 [⟨25, 24, .ro, 0, .n⟩, ⟨23, 22, .ro, 0, .n⟩, ⟨21, 20, .ro, 0, .n⟩, ⟨14, 12, .ro, 0, .n⟩,
      ⟨10, 8, .ro, 0, .n⟩, ⟨6, 4, .ro, 0, .n⟩, ⟨2, 0, .ro, 0, .n⟩],
    reg1 0x18 [⟨36, 6, .ro, 0, .n⟩],
    reg1 0x20 [⟨63, 63, .sc, 0, .s⟩, ⟨11, 8, .ro, 0, .s⟩, ⟨1, 0, .rw, 0, .s⟩],
    reg1 0x28 [⟨8, 0, .w1c, 0, .n⟩],
    reg1 0x30 [⟨63, 48, .rc, 0, .n⟩, ⟨47, 32, .rc, 0, .n⟩, ⟨31, 16, .rc, 0, .n⟩, ⟨15, 0, .rc, 0, .n⟩],
    reg1 0x38 [⟨63, 48, .rc, 0, .n⟩, ⟨47, 32, .rc, 0, .n⟩, ⟨31, 16, .rc, 0, .n⟩, ⟨15, 0, .rc, 0, .n⟩],
    reg1 0x40 [⟨63, 32, .ro, 0, .n⟩, ⟨7, 0, .rc, 0, .n⟩],
    reg1 0x48 [⟨63, 63, .rw, 1, .s⟩, ⟨15, 0, .rw, 24, .s⟩],
    reg1 0x50 [⟨31, 16, .rw, 512, .s⟩, ⟨1, 0, .rw, 0, .s⟩],
    reg1 0x58 [⟨15, 0, .rw, 4000, .s⟩],
    reg1 0x60 [⟨63, 0, .ro, 0, .n⟩],
    ⟨0x100, 8, 32, [⟨6, 0, .rw, 0, .o⟩]⟩,
    reg1 0x200 [⟨63, 63, .sc, 0, .n⟩, ⟨6, 2, .rw, 0, .n⟩, ⟨1, 0, .rw, 0, .n⟩],
    ⟨0x208, 8, 8, [⟨31, 0, .ro, 0, .n⟩]⟩ ]

/-- The per-port part of WPT: weir port registers (12) and Ethernet registers (13). -/
def regsWpt : List RegSpec :=
  [ reg1 0x00 [⟨63, 48, .ro, 0, .n⟩, ⟨47, 40, .ro, 0, .n⟩, ⟨31, 28, .ro, 0, .n⟩, ⟨27, 24, .ro, 0, .n⟩,
      ⟨19, 16, .ro, 0, .n⟩, ⟨15, 8, .ro, 0, .n⟩, ⟨2, 0, .ro, 1, .n⟩],
    reg1 0x08 [⟨63, 0, .ro, 0, .n⟩],
    reg1 0x10 [⟨6, 0, .w1c, 0, .n⟩],
    roWords 0x18 8 9 .n,
    reg1 0x60 [⟨31, 0, .ro, 0, .n⟩], reg1 0x68 [⟨63, 0, .ro, 0, .n⟩],
    reg1 0x2000 [⟨2, 2, .rw, 0, .o⟩, ⟨1, 1, .rw, 0, .o⟩, ⟨0, 0, .rw, 0, .o⟩],
    reg1 0x2008 [⟨63, 63, .ro, 0, .o⟩, ⟨62, 62, .ro, 0, .o⟩, ⟨61, 61, .ro, 0, .o⟩, ⟨52, 48, .ro, 0, .o⟩,
      ⟨3, 0, .ro, 0, .o⟩],
    reg1 0x2010 [⟨47, 0, .rw, 0, .o⟩],
    reg1 0x2018 [⟨63, 32, .rw, 0, .o⟩, ⟨31, 0, .rw, 0, .o⟩],
    ⟨0x2100, 8, 64, [⟨63, 63, .rw, 0, .o⟩, ⟨47, 0, .rw, 0, .o⟩]⟩,
    ⟨0x2400, 16, 16, [⟨63, 61, .rw, 0, .o⟩, ⟨60, 60, .rw, 0, .o⟩, ⟨59, 54, .rw, 0, .o⟩, ⟨43, 32, .rw, 0, .o⟩,
      ⟨31, 16, .rw, 0, .o⟩, ⟨15, 0, .rw, 0, .o⟩]⟩,
    ⟨0x2408, 16, 16, [⟨63, 63, .rw, 0, .o⟩, ⟨62, 62, .rw, 0, .o⟩, ⟨61, 61, .rw, 0, .o⟩, ⟨55, 48, .rw, 0, .o⟩,
      ⟨1, 0, .rw, 0, .o⟩]⟩,
    ⟨0x2800, 0x80, 4, [⟨51, 6, .rw, 0, .o⟩]⟩,
    ⟨0x2808, 0x80, 4, [⟨63, 63, .sc, 0, .o⟩, ⟨62, 62, .rw, 0, .o⟩, ⟨55, 48, .rw, 0, .o⟩, ⟨47, 46, .rw, 0, .o⟩,
      ⟨43, 32, .rw, 0, .o⟩, ⟨23, 16, .rw, 1, .o⟩, ⟨3, 0, .rw, 4, .o⟩]⟩,
    ⟨0x2810, 0x80, 4, [⟨11, 0, .ro, 0, .o⟩]⟩, ⟨0x2818, 0x80, 4, [⟨11, 0, .rw, 0, .o⟩]⟩,
    ⟨0x2820, 0x80, 4, [⟨51, 6, .rw, 0, .o⟩]⟩, ⟨0x2828, 0x80, 4, [⟨3, 0, .rw, 4, .o⟩]⟩,
    ⟨0x2830, 0x80, 4, [⟨11, 0, .ro, 0, .o⟩]⟩, ⟨0x2838, 0x80, 4, [⟨11, 0, .rw, 0, .o⟩]⟩,
    ⟨0x2840, 0x80, 4, [⟨63, 0, .ro, 0, .o⟩]⟩,
    ⟨0x2A00, 8, 6, [⟨63, 0, .ro, 0, .o⟩]⟩ ]

/-- The device-wide part of WPT, in port 0's block only: WX (12) and EX (13). -/
def regsWx : List RegSpec :=
  [ reg1 0x8000 [⟨63, 48, .ro, 0, .n⟩, ⟨47, 46, .ro, 0, .n⟩, ⟨45, 45, .ro, 0, .n⟩, ⟨44, 44, .ro, 0, .n⟩,
      ⟨43, 40, .ro, 0, .n⟩, ⟨39, 36, .ro, 2, .n⟩, ⟨35, 32, .ro, 1, .n⟩, ⟨31, 16, .ro, 0, .n⟩, ⟨7, 4, .ro, 0, .n⟩,
      ⟨3, 0, .ro, 0, .n⟩],
    reg1 0x8008 [⟨63, 0, .ro, 0, .n⟩], reg1 0x8010 [⟨31, 0, .ro, 0, .n⟩],
    reg1 0x8018 [⟨1, 1, .sc, 0, .s⟩, ⟨0, 0, .rw, 0, .s⟩],
    reg1 0x8020 [⟨15, 0, .rw, 10, .s⟩], reg1 0x8028 [⟨15, 0, .rw, 1000, .s⟩], reg1 0x8030 [⟨31, 0, .rw, 20000, .s⟩],
    roWords 0x8038 8 2 .n,
    reg1 0x8048 [⟨7, 0, .w1c, 0, .n⟩],
    reg1 0x8050 [⟨12, 12, .rw, 0, .n⟩, ⟨9, 8, .rw, 0, .n⟩, ⟨5, 0, .rw, 0, .n⟩],
    roWords 0x8058 8 2 .n,
    ⟨0x8100, 16, 32, [⟨63, 40, .ro, 0, .o⟩, ⟨39, 24, .ro, 0, .o⟩, ⟨23, 20, .ro, 0, .o⟩, ⟨19, 12, .ro, 0, .o⟩]⟩,
    ⟨0x8108, 16, 32, [⟨51, 0, .ro, 0, .o⟩]⟩,
    ⟨0x8300, 8, 8, [⟨63, 48, .ro, 0, .n⟩, ⟨47, 32, .ro, 0, .n⟩, ⟨24, 16, .rc, 0, .n⟩, ⟨8, 0, .ro, 0, .n⟩]⟩,
    ⟨0x9000, 16, 256, [⟨63, 0, .rw, 0, .o⟩]⟩,
    ⟨0x9008, 16, 256, [⟨63, 63, .rw, 0, .o⟩, ⟨62, 62, .rw, 0, .o⟩, ⟨14, 10, .rw, 0, .o⟩, ⟨9, 0, .rw, 0, .o⟩]⟩,
    ⟨0xA000, 16, 256, [⟨63, 63, .rw, 0, .o⟩, ⟨55, 48, .rw, 0, .o⟩, ⟨8, 0, .rw, 64, .o⟩]⟩,
    ⟨0xA008, 16, 256, [⟨63, 32, .ro, 0, .o⟩, ⟨8, 0, .ro, 0, .o⟩]⟩,
    ⟨0xB000, 0x120, 64, [⟨63, 63, .rw, 0, .s⟩, ⟨62, 62, .rw, 0, .s⟩, ⟨61, 57, .rw, 0, .s⟩, ⟨56, 56, .sc, 0, .o⟩,
      ⟨55, 55, .rw, 0, .o⟩, ⟨54, 54, .ro, 0, .o⟩, ⟨51, 48, .rw, 0, .o⟩, ⟨47, 46, .rw, 0, .o⟩, ⟨45, 40, .rw, 0, .o⟩,
      ⟨15, 0, .rw, 0, .o⟩]⟩,
    ⟨0xB008, 0x120, 64, [⟨31, 0, .rw, 0, .o⟩]⟩,
    ⟨0xB010, 0x120, 64, [⟨63, 32, .ro, 0, .o⟩, ⟨31, 24, .ro, 0, .o⟩, ⟨19, 16, .ro, 0, .o⟩, ⟨15, 0, .ro, 0, .o⟩]⟩ ]
  ++ (List.range 32).map (fun w => ⟨0xB018 + 8 * w, 0x120, 64, [⟨63, 0, .rw, 0, .o⟩]⟩)
  ++ [ reg1 0xF800 [⟨63, 0, .ro, 0, .n⟩], reg1 0xF808 [⟨63, 0, .ro, 0, .n⟩],
       reg1 0xF810 [⟨31, 0, .rw, 0, .s⟩], reg1 0xF818 [⟨63, 0, .wo, 0, .s⟩] ]

/-- LANE (13). -/
def regsLane : List RegSpec :=
  [ reg1 0x00 [⟨27, 24, .ro, 15, .n⟩, ⟨23, 20, .ro, 0, .n⟩, ⟨19, 16, .ro, 0, .n⟩, ⟨15, 8, .ro, 0xFF, .n⟩,
      ⟨1, 1, .ro, 0, .n⟩, ⟨0, 0, .ro, 0, .n⟩],
    reg1 0x08 [⟨63, 63, .sc, 0, .s⟩, ⟨62, 60, .rw, 0, .s⟩, ⟨59, 56, .rw, 0, .s⟩, ⟨43, 40, .ro, 0, .s⟩,
      ⟨31, 0, .rw, 0, .s⟩],
    reg1 0x10 [⟨63, 0, .rc, 0, .n⟩],
    reg1 0x18 [⟨63, 60, .ro, 0, .n⟩, ⟨29, 0, .ro, 0, .n⟩],
    reg1 0x28 [⟨63, 0, .ro, 0, .n⟩] ]

/-- LANE.SPARE, only in the block of a spare lane (R506). -/
def regsLaneSpare : List RegSpec :=
  [ reg1 0x20 [⟨63, 63, .sc, 0, .s⟩, ⟨62, 60, .ro, 0, .s⟩, ⟨51, 48, .ro, 0, .s⟩, ⟨11, 8, .ro, 0, .s⟩,
      ⟨3, 0, .rw, 0, .s⟩] ]

/-- PEP, the pond side of the host endpoint (14). -/
def regsPep : List RegSpec :=
  [ reg1 0x00 [⟨63, 63, .ro, 0, .n⟩, ⟨62, 60, .ro, 0, .n⟩, ⟨59, 55, .ro, 0, .n⟩, ⟨47, 32, .rc, 0, .n⟩,
      ⟨15, 0, .ro, 0, .n⟩],
    reg1 0x10 [⟨39, 32, .wo, 0, .n⟩, ⟨29, 24, .wo, 0, .n⟩, ⟨19, 16, .wo, 0, .n⟩, ⟨6, 0, .wo, 0, .n⟩],
    reg1 0x18 [⟨39, 32, .wo, 0, .n⟩, ⟨29, 24, .wo, 0, .n⟩, ⟨16, 16, .wo, 0, .n⟩, ⟨11, 0, .wo, 0, .n⟩],
    reg1 0x20 [⟨4, 0, .rw, 28, .s⟩],
    ⟨0x100, 8, 32, [⟨39, 32, .ro, 0, .o⟩, ⟨29, 24, .ro, 0, .o⟩, ⟨3, 0, .ro, 0, .o⟩]⟩,
    ⟨0x1000, 64, 129, [⟨63, 63, .ro, 0, .o⟩, ⟨62, 62, .ro, 0, .o⟩, ⟨61, 57, .ro, 0, .o⟩, ⟨56, 54, .ro, 0, .o⟩,
      ⟨52, 46, .rw, 0, .o⟩, ⟨45, 39, .ro, 0, .o⟩, ⟨31, 31, .rw, 0, .o⟩, ⟨30, 30, .rw, 0, .o⟩, ⟨23, 16, .rw, 0, .o⟩,
      ⟨14, 0, .rw, 0, .o⟩]⟩,
    ⟨0x1008, 64, 129, [⟨51, 6, .rw, 0, .o⟩]⟩, ⟨0x1010, 64, 129, [⟨51, 21, .rw, 0, .o⟩]⟩,
    ⟨0x1018, 64, 129, [⟨63, 12, .rw, 0, .o⟩]⟩,
    ⟨0x1020, 64, 129, [⟨47, 32, .rw, 0, .o⟩, ⟨24, 0, .rw, 0, .o⟩]⟩,
    ⟨0x1028, 64, 129, [⟨15, 0, .rw, 50, .o⟩]⟩,
    ⟨0x1030, 64, 129, [⟨63, 63, .w1c, 0, .o⟩, ⟨62, 62, .w1c, 0, .o⟩, ⟨31, 16, .ro, 0, .o⟩, ⟨15, 0, .ro, 0, .o⟩]⟩,
    ⟨0x1038, 64, 129, [⟨63, 60, .ro, 0, .o⟩, ⟨59, 48, .ro, 0, .o⟩, ⟨43, 0, .ro, 0, .o⟩]⟩ ]

/-- LLC (09). -/
def regsLlc : List RegSpec :=
  [ reg1 0x00 [⟨63, 63, .sc, 0, .s⟩, ⟨62, 62, .ro, 0, .s⟩, ⟨51, 6, .rw, 0, .s⟩],
    reg1 0x08 [⟨63, 22, .ro, 0, .s⟩],
    reg1 0x10 [⟨57, 48, .rc, 0, .n⟩, ⟨41, 32, .ro, 0, .n⟩, ⟨25, 16, .rc, 0, .n⟩, ⟨9, 0, .ro, 0, .n⟩],
    roWords 0x20 8 7 .n ]

/-- The registers of instance `i` of a block. -/
def Blk.regs (b : Blk) (i : Nat) : List RegSpec :=
  match b with
  | .gid => regsGid | .atb => regsAtb | .pwr => regsPwr | .sec => regsSec | .err => regsErr | .nvs => regsNvs
  | .felt => regsFelt | .pin => regsPin | .ic => regsIc | .dma => regsDma | .clu => regsClu | .dbg => regsDbg
  | .dmc => regsDmc | .wpt => if i = 0 then regsWpt ++ regsWx else regsWpt
  | .lane => if i % 17 = 16 then regsLane ++ regsLaneSpare else regsLane
  | .pep => regsPep | .llc => regsLlc

/-- The block, instance and offset within the instance that a control-space offset lies in (R503); none: reserved. -/
def blockOf (off : Nat) : Option (Blk × Nat × Nat) :=
  (Blk.all.find? (fun b => decide (b.base ≤ off) && decide (off < b.base + b.count * b.stride))).map
    (fun b => (b, (off - b.base) / b.stride, (off - b.base) % b.stride))

/-- Whether a register group covers the doubleword at an offset of its block. -/
def RegSpec.covers (r : RegSpec) (o : Nat) : Bool :=
  decide (r.off ≤ o) && decide (o < r.off + r.stride * r.cnt) && decide ((o - r.off) % r.stride = 0)

/-- The register at a doubleword of control space. (DEDUCED, log entry 39.) -/
def regAt (off : Nat) : Option (Blk × Nat × Nat × RegSpec) :=
  match blockOf off with
  | none => none
  | some (b, i, o) => ((b.regs i).find? (fun r => r.covers o)).map (fun r => (b, i, o, r))

/-- The fields' reset values together. -/
def resetOf (fs : List Fld) : Word := fs.foldl (fun w f => setFld w f.hi f.lo f.rst) 0

/-- What a doubleword of control space holds after reset. -/
def regReset (off : Nat) : Word :=
  match regAt off with
  | none => 0
  | some (_, _, _, r) => resetOf r.fields

end Sys2Proof.Machine
end

