-- ==== Sys2Proof/Machine/RegNames.lean ====
section
/-! DEFINITION. The control-space offsets of the registers by name (18 R503, R508): `cluAlarm c` is CLU.ALARM of cluster
c, and so on. -/

namespace Sys2Proof.Machine.R

def gidIdent : Nat := 0x00000000
def gidUid : Nat := 0x00000008
def gidPower : Nat := 0x00000010
def gidVolt : Nat := 0x00000018
def gidPres : Nat := 0x00000040
def gidPrescore (j : Nat) : Nat := 0x20 + 8 * j
def gidPresport (j : Nat) : Nat := 0x48 + 8 * j
def atbStatus : Nat := 0x00100000
def atbNow : Nat := 0x00100008
def atbFreq : Nat := 0x00100010
def atbPherr : Nat := 0x00100018
def atbEvent : Nat := 0x00100020
def atbHoldover : Nat := 0x00100028
def atbPjlimit : Nat := 0x00100030
def atbRocof : Nat := 0x00100038
def atbReacq : Nat := 0x00100040
def atbWinstat : Nat := 0x00100048
def atbSnapangle : Nat := 0x00100200
def atbSnapval0 : Nat := 0x00100208
def atbSnapval1 : Nat := 0x00100210
def atbSrcstat (p : Nat) : Nat := 0x00100100 + 8 * p
def pwrStatus : Nat := 0x00110000
def pwrEvent : Nat := 0x00110008
def pwrDevcmd : Nat := 0x00110010
def pwrCap : Nat := 0x00110018
def pwrPower : Nat := 0x00110020
def pwrTherm : Nat := 0x00110028
def pwrThermctl : Nat := 0x00110030
def pwrSense : Nat := 0x00110038
def pwrRstcause : Nat := 0x00110040
def pwrWakecause : Nat := 0x00110048
def pwrWakeen : Nat := 0x00110050
def pwrWatchctl : Nat := 0x00110058
def pwrWatchthr (i : Nat) : Nat := 0x00110060 + 8 * i
def pwrAvs (q : Nat) : Nat := 0x00110090 + 8 * q
def pwrDomctl (d : Nat) : Nat := 0x00110100 + 8 * d
def secStatus : Nat := 0x00120000
def secHoldlost : Nat := 0x00120008
def secKeystat : Nat := 0x00120010
def secKeycmd : Nat := 0x00120018
def secDbucmd : Nat := 0x00120320
def secDbustat : Nat := 0x00120328
def secKeybuf (i : Nat) : Nat := 0x00120100 + 8 * i
def secDbgen (p : Nat) : Nat := 0x00120200 + 8 * p
def secDbuchal (i : Nat) : Nat := 0x00120300 + 8 * i
def secDbutok (i : Nat) : Nat := 0x00120400 + 8 * i
def secKslot (i : Nat) : Nat := 0x00120800 + 8 * i
def secKsbind (n : Nat) : Nat := 0x00120C00 + 8 * n
def errStatus : Nat := 0x00130000
def errLoghead : Nat := 0x00130008
def errStartctl : Nat := 0x00130010
def errStartstat : Nat := 0x00130018
def errSerial : Nat := 0x00130020
def errBktcfg (k : Nat) : Nat := 0x00130100 + 8 * k
def errLast (i : Nat) : Nat := 0x00130200 + 8 * i
def errMctgt (p : Nat) : Nat := 0x00130400 + 8 * p
def errPondrec (p i : Nat) : Nat := 0x00131000 + 64 * p + 8 * i
def nvsStatus : Nat := 0x00140000
def nvsEvent : Nat := 0x00140008
def nvsWrcnt : Nat := 0x00140010
def feltStatus : Nat := 0x00150000
def feltVersion : Nat := 0x00150008
def feltSlotsel : Nat := 0x00150010
def feltCmd : Nat := 0x00150018
def feltCmdstat : Nat := 0x00150020
def feltFloor : Nat := 0x00150028
def feltAmdbuf (i : Nat) : Nat := 0x00151000 + 8 * i
def pinStatus : Nat := 0x00160000
def pinGeoaddr : Nat := 0x00160008
def pinIn (j : Nat) : Nat := 0x00160100 + 8 * j
def pinOutset (j : Nat) : Nat := 0x00160200 + 8 * j
def pinOutclr (j : Nat) : Nat := 0x00160300 + 8 * j
def pinCfg (n : Nat) : Nat := 0x00161000 + 8 * n
def icStatus : Nat := 0x00170000
def icEoi : Nat := 0x00170008
def icPendset (j : Nat) : Nat := 0x00170100 + 8 * j
def icPendclr (j : Nat) : Nat := 0x00170200 + 8 * j
def icMaskset (j : Nat) : Nat := 0x00170300 + 8 * j
def icMaskclr (j : Nat) : Nat := 0x00170400 + 8 * j
def icOvr (j : Nat) : Nat := 0x00170500 + 8 * j
def icActive (j : Nat) : Nat := 0x00170600 + 8 * j
def icTset (k j : Nat) : Nat := 0x00172000 + 32 * k + 8 * j
def icSrccfg (n : Nat) : Nat := 0x00174000 + 8 * n
def dmaCtl (c : Nat) : Nat := 0x00180000 + 64 * c
def dmaBase (c : Nat) : Nat := 0x00180008 + 64 * c
def dmaHead (c : Nat) : Nat := 0x00180010 + 64 * c
def dmaTail (c : Nat) : Nat := 0x00180018 + 64 * c
def dmaDonecnt (c : Nat) : Nat := 0x00180020 + 64 * c
def cluStatus (c : Nat) : Nat := 0x01000000 + 0x10000 * c
def cluSlcores (c : Nat) : Nat := 0x01000008 + 0x10000 * c
def cluPriomax (c : Nat) : Nat := 0x01000010 + 0x10000 * c
def cluSlice (c : Nat) : Nat := 0x01000018 + 0x10000 * c
def cluPlacectl (c : Nat) : Nat := 0x01000020 + 0x10000 * c
def cluEvq (c : Nat) : Nat := 0x01000028 + 0x10000 * c
def cluEvlost (c : Nat) : Nat := 0x01000030 + 0x10000 * c
def cluLatecnt (c : Nat) : Nat := 0x01000038 + 0x10000 * c
def cluCtxsel (c : Nat) : Nat := 0x01000040 + 0x10000 * c
def cluCtxcmd (c : Nat) : Nat := 0x01000048 + 0x10000 * c
def cluCtxcmdstat (c : Nat) : Nat := 0x01000050 + 0x10000 * c
def cluAlarm (c : Nat) : Nat := 0x01000058 + 0x10000 * c
def cluFreqreq (c : Nat) : Nat := 0x01000060 + 0x10000 * c
def cluFreqstat (c : Nat) : Nat := 0x01000068 + 0x10000 * c
def cluBootvec (c : Nat) : Nat := 0x01007F00 + 0x10000 * c
def cluCtxdata (c k : Nat) : Nat := 0x01000080 + 0x10000 * c + 8 * k
def cluRuninfo (c k : Nat) : Nat := 0x01000100 + 0x10000 * c + 16 * k
def cluRunev (c k : Nat) : Nat := 0x01000108 + 0x10000 * c + 16 * k
def cluTmrctl (c k : Nat) : Nat := 0x01000200 + 0x10000 * c + 16 * k
def cluTmrcnt (c k : Nat) : Nat := 0x01000208 + 0x10000 * c + 16 * k
def cluIrqcore (c k : Nat) : Nat := 0x01000400 + 0x10000 * c + 8 * k
def cluCorectl (c k : Nat) : Nat := 0x01000440 + 0x10000 * c + 8 * k
def cluMkctl (c k : Nat) : Nat := 0x01008000 + 0x10000 * c + 32 * k
def cluMkangle (c k : Nat) : Nat := 0x01008008 + 0x10000 * c + 32 * k
def cluMkperiod (c k : Nat) : Nat := 0x01008010 + 0x10000 * c + 32 * k
def cluMkstat (c k : Nat) : Nat := 0x01008018 + 0x10000 * c + 32 * k
def cluRescue (c k i : Nat) : Nat := 0x01000800 + 0x10000 * c + 0x100 * k + 8 * i
def atbMkctl (n : Nat) : Nat := 0x00101000 + 32 * n
def atbMkangle (n : Nat) : Nat := 0x00101008 + 32 * n
def atbMkperiod (n : Nat) : Nat := 0x00101010 + 32 * n
def atbMkstat (n : Nat) : Nat := 0x00101018 + 32 * n
def dbgCtl (k : Nat) : Nat := 0x02000000 + 0x10000 * k
def dbgStat (k : Nat) : Nat := 0x02000008 + 0x10000 * k
def dbgPcsample (k : Nat) : Nat := 0x02000010 + 0x10000 * k
def dbgRsel (k : Nat) : Nat := 0x02000200 + 0x10000 * k
def dbgRdata (k : Nat) : Nat := 0x02000208 + 0x10000 * k
def dbgBp (k n : Nat) : Nat := 0x02000100 + 0x10000 * k + 16 * n
def dmcStatus (ch : Nat) : Nat := 0x03000000 + 0x10000 * ch
def dmcConfig (ch : Nat) : Nat := 0x03000008 + 0x10000 * ch
def dmcRankspare (ch : Nat) : Nat := 0x03000010 + 0x10000 * ch
def dmcMigptr (ch : Nat) : Nat := 0x03000018 + 0x10000 * ch
def dmcSparecmd (ch : Nat) : Nat := 0x03000020 + 0x10000 * ch
def dmcEvent (ch : Nat) : Nat := 0x03000028 + 0x10000 * ch
def dmcEcccnt (ch : Nat) : Nat := 0x03000030 + 0x10000 * ch
def dmcUecnt (ch : Nat) : Nat := 0x03000038 + 0x10000 * ch
def dmcProtstat (ch : Nat) : Nat := 0x03000040 + 0x10000 * ch
def dmcScrub (ch : Nat) : Nat := 0x03000048 + 0x10000 * ch
def dmcPagectl (ch : Nat) : Nat := 0x03000050 + 0x10000 * ch
def dmcAgemax (ch : Nat) : Nat := 0x03000058 + 0x10000 * ch
def dmcWaitq (ch : Nat) : Nat := 0x03000060 + 0x10000 * ch
def dmcHsel (ch : Nat) : Nat := 0x03000200 + 0x10000 * ch
def dmcShare (ch p : Nat) : Nat := 0x03000100 + 0x10000 * ch + 8 * p
def dmcHist (ch k : Nat) : Nat := 0x03000208 + 0x10000 * ch + 8 * k
def wptStatus (p : Nat) : Nat := 0x04000000 + 0x10000 * p
def wptNuid (p : Nat) : Nat := 0x04000008 + 0x10000 * p
def wptEvent (p : Nat) : Nat := 0x04000010 + 0x10000 * p
def wptRetry (p : Nat) : Nat := 0x04000018 + 0x10000 * p
def wptFeccorr (p : Nat) : Nat := 0x04000020 + 0x10000 * p
def wptFecunc (p : Nat) : Nat := 0x04000028 + 0x10000 * p
def wptHdrerr (p : Nat) : Nat := 0x04000030 + 0x10000 * p
def wptCrcerr (p : Nat) : Nat := 0x04000038 + 0x10000 * p
def wptDelay (p : Nat) : Nat := 0x04000060 + 0x10000 * p
def wptHopdrop (p : Nat) : Nat := 0x04000068 + 0x10000 * p
def wptCstall (p k : Nat) : Nat := 0x04000040 + 0x10000 * p + 8 * k
def ethCtl (p : Nat) : Nat := 0x04002000 + 0x10000 * p
def ethStatus (p : Nat) : Nat := 0x04002008 + 0x10000 * p
def ethMacaddr (p : Nat) : Nat := 0x04002010 + 0x10000 * p
def ethTscorr (p : Nat) : Nat := 0x04002018 + 0x10000 * p
def ethRxfilt (p : Nat) : Nat := 0x04002A00 + 0x10000 * p
def ethRxfcs (p : Nat) : Nat := 0x04002A08 + 0x10000 * p
def ethRxlong (p : Nat) : Nat := 0x04002A10 + 0x10000 * p
def ethRxrunt (p : Nat) : Nat := 0x04002A18 + 0x10000 * p
def ethRxpause (p : Nat) : Nat := 0x04002A20 + 0x10000 * p
def ethAtbfeed (p : Nat) : Nat := 0x04002A28 + 0x10000 * p
def ethMcast (p n : Nat) : Nat := 0x04002100 + 0x10000 * p + 8 * n
def ethRulea (p n : Nat) : Nat := 0x04002400 + 0x10000 * p + 16 * n
def ethRuleb (p n : Nat) : Nat := 0x04002408 + 0x10000 * p + 16 * n
def ethRxbase (p r : Nat) : Nat := 0x04002800 + 0x10000 * p + 0x80 * r
def ethRxctl (p r : Nat) : Nat := 0x04002808 + 0x10000 * p + 0x80 * r
def ethRxhead (p r : Nat) : Nat := 0x04002810 + 0x10000 * p + 0x80 * r
def ethRxtail (p r : Nat) : Nat := 0x04002818 + 0x10000 * p + 0x80 * r
def ethTxbase (p r : Nat) : Nat := 0x04002820 + 0x10000 * p + 0x80 * r
def ethTxctl (p r : Nat) : Nat := 0x04002828 + 0x10000 * p + 0x80 * r
def ethTxhead (p r : Nat) : Nat := 0x04002830 + 0x10000 * p + 0x80 * r
def ethTxtail (p r : Nat) : Nat := 0x04002838 + 0x10000 * p + 0x80 * r
def ethRxdrop (p r : Nat) : Nat := 0x04002840 + 0x10000 * p + 0x80 * r
def wxStatus : Nat := 0x04008000
def wxIdent : Nat := 0x04008008
def wxEpoch : Nat := 0x04008010
def wxCtl : Nat := 0x04008018
def wxRsptimeout : Nat := 0x04008020
def wxSyncint : Nat := 0x04008028
def wxAgemax : Nat := 0x04008030
def wxAgeviol : Nat := 0x04008038
def wxOutwait : Nat := 0x04008040
def wxEvent : Nat := 0x04008048
def wxRtsel : Nat := 0x04008050
def wxRtdata0 : Nat := 0x04008058
def wxRtdata1 : Nat := 0x04008060
def wxOutstat (k : Nat) : Nat := 0x04008100 + 16 * k
def wxOutaddr (k : Nat) : Nat := 0x04008108 + 16 * k
def wxTdbstat (k : Nat) : Nat := 0x04008300 + 8 * k
def wxTrel (k : Nat) : Nat := 0x04009000 + 16 * k
def wxTctl (k : Nat) : Nat := 0x04009008 + 16 * k
def wxExpctl (k : Nat) : Nat := 0x0400A000 + 16 * k
def wxExpstat (k : Nat) : Nat := 0x0400A008 + 16 * k
def wxTsctl (k : Nat) : Nat := 0x0400B000 + 288 * k
def wxTsrel (k : Nat) : Nat := 0x0400B008 + 288 * k
def wxTsstat (k : Nat) : Nat := 0x0400B010 + 288 * k
def wxTspay (k i : Nat) : Nat := 0x0400B018 + 0x120 * k + 8 * i
def exTick : Nat := 0x0400F800
def exPtpnow : Nat := 0x0400F808
def exPtprate : Nat := 0x0400F810
def exPtpstep : Nat := 0x0400F818
def laneStatus (l : Nat) : Nat := 0x05000000 + 0x1000 * l
def laneTest (l : Nat) : Nat := 0x05000008 + 0x1000 * l
def laneErrcnt (l : Nat) : Nat := 0x05000010 + 0x1000 * l
def laneEq (l : Nat) : Nat := 0x05000018 + 0x1000 * l
def laneSpare (l : Nat) : Nat := 0x05000020 + 0x1000 * l
def laneSpnuid (l : Nat) : Nat := 0x05000028 + 0x1000 * l
def pepStatus : Nat := 0x06000000
def pepQcmd : Nat := 0x06000010
def pepQdb : Nat := 0x06000018
def pepVfcfg : Nat := 0x06000020
def pepQcmdstat (p : Nat) : Nat := 0x06000100 + 8 * p
def pepFncfg (f : Nat) : Nat := 0x06001000 + 64 * f
def pepQctxbase (f : Nat) : Nat := 0x06001008 + 64 * f
def pepBar2map (f : Nat) : Nat := 0x06001010 + 64 * f
def pepOutbase (f : Nat) : Nat := 0x06001018 + 64 * f
def pepSizes (f : Nat) : Nat := 0x06001020 + 64 * f
def pepCpltimeout (f : Nat) : Nat := 0x06001028 + 64 * f
def pepFnev (f : Nat) : Nat := 0x06001030 + 64 * f
def pepOutfail (f : Nat) : Nat := 0x06001038 + 64 * f
def llcDirprobe (s : Nat) : Nat := 0x07000000 + 0x10000 * s
def llcDirdata (s : Nat) : Nat := 0x07000008 + 0x10000 * s
def llcTrkstat (s : Nat) : Nat := 0x07000010 + 0x10000 * s
def llcDirevict (s : Nat) : Nat := 0x07000040 + 0x10000 * s
def llcStashok (s : Nat) : Nat := 0x07000048 + 0x10000 * s
def llcStashdecl (s : Nat) : Nat := 0x07000050 + 0x10000 * s
def llcWait (s k : Nat) : Nat := 0x07000020 + 0x10000 * s + 8 * k

end Sys2Proof.Machine.R
end

