-- ==== Sys2Proof/Machine/StAtb.lean ====
section
/-! DEFINITION. The state of the angle time base beside its registers (03). -/

namespace Sys2Proof.Machine

/-- What the ATB knows of a source (R71 to R75): the angle it delivered last (its fraction advances by encoder edges), its
full difference from the ATB value and its phase error in units of 2^-32 turn at its last valid cycle or sample, and the
frequency measured then in µHz; for sampled values (R72, R381) what the MAC handed over last (timestamp, angle of its ATB copy
and first ASDU) and the frames since the last cycle with the test bit clear and valid quality. -/
structure SrcSt where
  angle : Word
  diff  : Word
  e     : Int
  freq  : Nat
  ts    : Word
  at_   : Word
  asdu  : List Byte
  good  : Nat
deriving DecidableEq, Repr

def SrcSt.none : SrcSt := { angle := 0, diff := 0, e := 0, freq := 0, ts := 0, at_ := 0, asdu := [], good := 0 }

/-- A write to a mark register that was accepted while its mark was due, with its requester, offset, size and value (R85). -/
structure MarkWrite where
  rq   : Req
  off  : Nat
  size : Nat
  val  : Word
deriving DecidableEq, Repr

/-- The tracker: the 32 bits below the unit of the accumulator (R65), the limited estimate (R75), the error at entry to SLEW,
the source cycles since, the REACQ in use (R76, R78), the frequency over the last full source cycle (R76), whether the
frequency moves to nominal after holdover, with what is left below 1 µHz (R77), the sources by priority, the encoder's
count since its index and whether it turned backwards (R70), the synchronisation messages accepted in this cycle, the marks that
have fired in this tick (R79), the writes that wait for their mark to fire first (R85), and whether this start left the sense converters
uncalibrated (BS08). -/
structure AtbSt where
  sub   : Nat
  fest  : Nat
  e0    : Int
  k     : Nat
  reacq : Nat
  mean  : Nat
  ramp  : Bool
  left  : Nat
  src   : Tab SrcSt
  enc   : Int
  rev   : Bool
  sync  : Nat
  fired : List Nat
  held  : List MarkWrite
  uncal : Bool
deriving DecidableEq, Repr

def AtbSt.off : AtbSt :=
  { sub := 0, fest := 50000000, e0 := 0, k := 0, reacq := 8, mean := 50000000, ramp := false, left := 0, src := []
    enc := 0, rev := false, sync := 0, fired := [], held := [], uncal := false }

end Sys2Proof.Machine
end

