-- ==== Sys2Proof/Machine/StCore.lean ====
section
/-! DEFINITION. The state of one Krele core (application core, service core or SEC0): 04 R88, R112; 06; 07; 08; 10. -/

namespace Sys2Proof.Machine

/-- One register bank (R88, R109): the lower half and MS. The loop registers are LS0-LS3, LE0-LE3, LC0-LC3. -/
structure Bank where
  a  : Word
  x  : Word
  y  : Word
  sp : Word
  pc : Word
  fl : Word
  ms : Word
  ls : List Word
  le : List Word
  lc : List Word
deriving DecidableEq, Repr

/-- A segment register: base, limit, rights (R99). -/
structure Seg where
  base : Word
  lim  : Word
  rgt  : Word
deriving DecidableEq, Repr

/-- The registers of which each world has its own copy (R88, R112, R421). -/
structure WorldRegs where
  segs    : List Seg
  vbase   : Word
  ssp     : Word
  asid    : Word
  tlbroot : Word
  wctl    : Word
  csh     : Word
  cfl     : Word
  cfc     : Word
  esyn    : Word
  eaddr   : Word
  wlkaddr : Word
deriving DecidableEq, Repr

/-- An entry of a core's TLBs (R184, R188, R192): its world, ASID and global bit, linear base and log2 of its size,
physical base, ATTR, rights, the SIZE code it was installed with and the L1 TLBs it also went to. -/
structure TlbEntry where
  secure : Bool
  global : Bool
  asid   : Nat
  lin    : Nat
  bits   : Nat
  pa     : Nat
  attr   : Nat
  r : Bool
  w : Bool
  x : Bool
  u : Bool
  size : Nat
  tgt  : Nat
deriving DecidableEq, Repr

/-- A store that has completed and is not yet visible (R208 to R210): its bytes, whether its attribute is normal
write-back, and, once it is performed with respect to some observers, the agents that still read the old bytes. The pieces
of one store share `grp`; `must` is set once another piece of it has been performed (R231). -/
structure Store where
  pa    : Nat
  bytes : List Byte
  wb    : Bool
  lag   : Option (List Nat)
  old   : List Byte
  grp   : Nat
  must  : Bool
deriving DecidableEq, Repr

/-- A read that was performed before its instruction (R210, R211): the bytes its response returned. -/
structure Early where
  pa    : Nat
  bytes : List Byte
deriving DecidableEq, Repr

/-- A failure of a long operation (R168): the vector it would raise and the ESYN.DETAIL of that vector. -/
structure LopFail where
  vec    : Nat
  eaddr  : Word
  detail : Nat
  seg    : Nat
  size   : Nat
  kind   : Nat
  piece  : Nat
deriving DecidableEq, Repr

/-- A long operation handed off to its unit (R163): what it writes when it completes (`none`: not owned), the FL bits it
replaces and merges, or its failure. `own` is the owned state of R164 as a mask (1 A, 2 X, 4 Y, 8 Z and N, 16 V,
32 C and T, 64 Q and SSTAT). A block instruction keeps its fields and works on A, X and Y themselves;
`passed`: a younger instruction has completed; `loops`: LC0 to LC3 and LDEPTH before the block instruction closed its loops, to which a stop at
an element boundary returns (R173). -/
structure LongOp where
  kind   : Nat
  own    : Nat
  pc     : Word
  len    : Nat
  fail   : Option LopFail
  a      : Option Word
  flags  : Option (Word × Word)
  sticky : Word
  q      : Option (List Word)
  sstat  : Option Word
  x      : Option Word
  y      : Option Word
  block  : Option (Nat × BlockOp)
  passed : Bool
  loops  : Option (List Word × Nat)
deriving DecidableEq, Repr

/-- An entry of the operand buffer (R156): the bytes it covers. The value it supplies is the one L1D would supply. -/
structure OpEntry where
  pa   : Nat
  size : Nat
deriving DecidableEq, Repr

/-- What a core is doing (R264, R265, R278, R434, R485). `idle` is a core that executed WAIT with no sluice context. -/
inductive RunState where
  | inReset | running | idle | waiting | stopped | halted | retired | selfTest | drain
deriving DecidableEq, Repr

/-- A pending asynchronous machine check: its target world, the SEQ of its record and its physical address, 0 when none is
known (R482, R114); for a buffered store refused or poisoned at its target (R230), the DETAIL of R528 in place of SEQ. -/
structure MachineCheck where
  secure : Bool
  seq    : Nat
  addr   : Nat
deriving DecidableEq, Repr

/-- A TLBINV.B on its way to a core (R200): the issuer and its number of the request, the form (0 VA, 1 AS, 2 W), the linear address, the ASID and the
world of the issuer. -/
structure TlbReq where
  issuer : Nat
  id     : Nat
  form   : Nat
  lin    : Nat
  asid   : Nat
  secure : Bool
deriving DecidableEq, Repr

/-- Whether a buffered store overlaps some bytes. -/
def Store.hits (st : Store) (pa n : Nat) : Bool := decide (st.pa < pa + n) && decide (pa < st.pa + st.bytes.length)

/-- One core. `tlb` is its L2 TLB, newest entry first, `itlb` and `dtlb` its L1 TLBs (R183);
`wpHit` is the linear address of the instruction in progress that a watchpoint covers, taken at its end (R119). -/
structure Core where
  b0      : Bank
  b1      : Bank
  inB1    : Bool
  nrm     : WorldRegs
  sec     : WorldRegs
  mvbase  : Word
  msp     : Word
  q       : List Word
  sstat   : Word
  lopstat : Word
  lops    : List LongOp
  tlb     : List TlbEntry
  itlb    : List TlbEntry
  dtlb    : List TlbEntry
  guard   : Bool
  dropped : Bool
  sbuf    : List Store
  sseq    : Nat
  early   : List Early
  wpHit   : Option Nat
  seen    : List (Nat × Nat)
  opbuf   : List OpEntry
  pfx     : Option Nat
  run     : RunState
  ssPend  : Bool
  mcPend  : List MachineCheck
  haltReq : Bool
  hold    : List (Nat × Bool)
  tlbWait : List TlbReq
  tlbOut  : Option (List Nat)
  tlbId   : Nat
  lastPc  : Word
  stepHalt : Bool
deriving DecidableEq, Repr

/-- FL, the loop registers and the rest of a bank after core reset (R88, R121). -/
def Bank.reset (pc ms : Word) : Bank :=
  { a := 0, x := 0, y := 0, sp := 0, pc := pc, fl := 0, ms := ms
    ls := [0, 0, 0, 0], le := [0, 0, 0, 0], lc := [0, 0, 0, 0] }

/-- A segment after reset: flat, valid, readable, writable, executable, supervisor only (R98, 04 "Segments"). -/
def Seg.reset : Seg := { base := 0, lim := 0x0000FFFFFFFFFFFF#64, rgt := 0x17#64 }

/-- One world's registers after reset; `vbase` is CLU.BOOTVEC for the pond's world (R121). -/
def WorldRegs.reset (vbase : Word) : WorldRegs :=
  { segs := List.replicate 8 Seg.reset, vbase := vbase, ssp := 0, asid := 0, tlbroot := 0, wctl := 0
    csh := 0, cfl := 0, cfc := 0, esyn := 0, eaddr := 0, wlkaddr := 0 }

/-- MS after reset (R92): supervisor with SIE = 1, in the world given; a service core also has DEG = 1 (R122). -/
def msReset (secure svc : Bool) : Word :=
  (if secure then 0x25#64 else 0x21#64) ||| (if svc then 0x100#64 else 0)

/-- A core just reset into a world, its PC and VBASE at the start offset (R88, R121). The rescue area lies in the CLU
register space and is not touched. -/
def Core.reset (secure svc : Bool) (bootvec : Word) (run : RunState) : Core :=
  { b0 := Bank.reset bootvec (msReset secure svc)
    b1 := Bank.reset bootvec (msReset secure svc)
    inB1 := false
    nrm := WorldRegs.reset (if secure then 0 else bootvec)
    sec := WorldRegs.reset (if secure then bootvec else 0)
    mvbase := 0, msp := 0
    q := List.replicate 8 0, sstat := 0
    lopstat := if svc then 0x8000000000000000#64 else 0
    lops := [], tlb := [], itlb := [], dtlb := [], guard := false, dropped := false
    sbuf := [], sseq := 0, early := [], wpHit := none, seen := [], opbuf := [], pfx := none
    run := run, ssPend := false, mcPend := [], haltReq := false, hold := [], tlbWait := [], tlbOut := none, tlbId := 0, lastPc := 0, stepHalt := false }

/-- Reads made early of any of some bytes are dropped (R208): the core has read or written those bytes since. -/
def Core.dropEarly (c : Core) (pa n : Nat) : Core :=
  { c with early := c.early.filter (fun e => decide (e.pa + e.bytes.length ≤ pa) || decide (pa + n ≤ e.pa)) }

/-- The TLBs are empty (R187). -/
def Core.noTlb (c : Core) : Core := { c with tlb := [], itlb := [], dtlb := [] }

/-- Only the entries of a core's TLBs that a test keeps stay. -/
def Core.keepTlb (c : Core) (p : TlbEntry → Bool) : Core :=
  { c with tlb := c.tlb.filter p, itlb := c.itlb.filter p, dtlb := c.dtlb.filter p }

/-- Whether an agent number names a service core or SEC0 (R14, R113). -/
def isSvc (agent : Nat) : Bool := decide (256 ≤ agent)

/-- A core at power-up: held in reset. An application core's registers take their reset values again when it is
released (R121). -/
def Core.off (agent : Nat) : Core := Core.reset (isSvc agent) (isSvc agent) 0 .inReset

end Sys2Proof.Machine
end

