-- ==== Sys2Proof/Machine/StErr.lean ====
section
/-! DEFINITION. Error records and the state of the error unit beside its registers (17 R478 to R487). -/

namespace Sys2Proof.Machine

/-- An error record on its way to a service core (R478, R480): its fields but SEQ, START and CRC, which the service core
fills in, and the quadrant whose service core takes it. -/
structure ErrRec where
  quad   : Nat
  unit   : Nat
  kind   : Nat
  inst   : Nat
  sev    : Nat
  cls    : Nat
  act    : Nat
  stat   : Nat
  pond   : Nat
  flags  : Nat
  count  : Nat
  addr   : Nat
  angle  : Nat
  tick   : Nat
  detail : List Byte
deriving DecidableEq, Repr

/-- The error unit: records waiting at the service cores in order of arrival, the SEQ of the last record (R478), the
records whose log write waits for supply (R480), the records of the resources under test, each with whether its core was
stopped before (R484, R487), the leaky buckets by resource (R486), the ways disabled by cache (R485), the digest's counts of this start (corrected DRAM errors, uncorrected errors, transient and lasting classes; R500) and the
last record with SEV 2 or 3 or CLASS 2. -/
structure ErrSt where
  waiting : List ErrRec
  seq     : Nat
  defer   : List (List Byte)
  testing : List (ErrRec × Bool)
  bucket  : Tab Nat
  ways    : Tab Nat
  cor     : Nat
  unc     : Nat
  trans   : Nat
  lasting : Nat
  last    : List Byte
deriving DecidableEq, Repr

def ErrSt.empty : ErrSt :=
  { waiting := [], seq := 0, defer := [], testing := [], bucket := [], ways := [], cor := 0, unc := 0, trans := 0
    lasting := 0, last := List.replicate 64 0#8 }

end Sys2Proof.Machine
end

