-- ==== Sys2Proof/Machine/StExt.lean ====
section
/-! DEFINITION. Accesses that leave the device: to host memory through the outbound window (14) and to other devices
through the exchange windows (12). -/

namespace Sys2Proof.Machine

/-- Where an outbound access stands: accepted by the endpoint or the weir outbound path, waiting at a lane group stop for a tracker
(R334), sent as a request, or finished. -/
inductive ExtSt where
  | accepted | waiting | sent | finished
deriving DecidableEq, Repr

/-- An outbound access (R221, R333, R398): the agent that made it, whether it goes to the weir, the pond, world and QoS
class it carries, its ordering tag (R218), whether it is device-strict (R216), its address, the host address it
becomes (R398, fixed when the endpoint accepts it), whether it writes, its size, its bytes (written, or read when finished), its state and
status with its DETAIL, its tag, and for a write made while WX.TCTL.EN = 1 the release angle and doorbell word (R343). -/
structure ExtAcc where
  agent  : Nat
  weir   : Bool
  pond   : Nat
  secure : Bool
  qos    : Nat
  otag   : Nat
  strict : Bool
  pa     : Nat
  host   : Nat
  write  : Bool
  size   : Nat
  data   : List Byte
  st     : ExtSt
  status : Nat
  tag    : Nat
  timed  : Option (Word × Word)
  detail : Nat
deriving DecidableEq, Repr

end Sys2Proof.Machine
end

