-- ==== Sys2Proof/Machine/StLane.lean ====
section
/-! DEFINITION. The state of the lanes and Ethernet ports beside their registers (13). -/

namespace Sys2Proof.Machine

/-- A lane group's spare (R369 to R373): the place in the group of the physical lane that is the spare, the logical lane whose
move this device has requested with whether a test of the freed lane follows, the logical lane to be moved at the port's
next alignment codeword with the same mark, the logical lane of the far end's request that it acknowledges, and words 0 and 1 of the
reserve codewords it sends. -/
structure SpareSt where
  lane : Nat
  ask  : Option (Nat × Bool)
  sw   : Option (Nat × Bool)
  ack  : Option Nat
  out  : List Word
deriving DecidableEq, Repr

def SpareSt.off : SpareSt := { lane := 16, ask := none, sw := none, ack := none, out := [] }

/-- The PTP slave of the quadrant 1 service core on a port (R73, R377): the master it follows (the dataset by which masters are
compared and its port identity), whether it is in the SLAVE state, a Sync that waits for its Follow_Up (sequence number and arrival),
the mean path delay, the offset estimate, its own peer-delay request (sequence number, its departure, and the master's two times once
known); times in 2^-16 ns of PTP time. -/
structure PtpSt where
  master : Option (Nat × Nat)
  slave  : Bool
  sync   : Option (Nat × Int)
  delay  : Int
  offset : Int
  seq    : Nat
  t1     : Option Int
  t4     : Option (Int × Int)
deriving DecidableEq, Repr

def PtpSt.off : PtpSt :=
  { master := none, slave := false, sync := none, delay := 0, offset := 0, seq := 0, t1 := none, t4 := none }

/-- Lanes and MACs: the spares by group, the state a lane had before its test and whether the lane was freed by a move to the
spare, descriptors written back since the last edge by (4 * port + ring), the receive settings of
each lane beside LANE.EQ (R367, R368), the last frame sent by each MAC, the PTP clock's
32 fraction bits (R377), the PTP slave and the frames of its transmit queue by port (R381). -/
structure LaneSt where
  spare : Tab SpareSt
  was   : Tab Nat
  freed : Tab Bool
  wback : Tab Nat
  rx    : Tab Nat
  frame : Tab (List Byte)
  frac  : Nat
  ptp   : Tab PtpSt
  ptpq  : Tab (List (List Byte))
deriving DecidableEq, Repr

def LaneSt.off : LaneSt := { spare := [], was := [], freed := [], wback := [], rx := [], frame := [], frac := 0, ptp := [], ptpq := [] }

end Sys2Proof.Machine
end

