-- ==== Sys2Proof/Machine/StNoc.lean ====
section
/-! DEFINITION. The state of the on-chip network (01 R17 to R25). -/

namespace Sys2Proof.Machine

/-- A flit in the network: its header's 120 checked bits, its payload words, and the network cycles it has waited at the
arbitration point it stands at (R19). -/
structure NocFlit where
  head : BitVec 120
  pay  : List Word
  wait : Nat
deriving DecidableEq, Repr

/-- The on-chip network. A stop's input ports are 0 from its -X neighbour, 1 from +X, 2 from -Y, 3 from +Y, 4 its local port; its
output links are 0 to +X, 1 to -X, 2 to +Y, 3 to -Y. The flits queued by `(5 * stop + port) * 8 + channel` (R18); each output link's
retry buffer of flits sent and not yet accepted, with the channel of each, by `4 * stop + link` (R24); whether a resend is asked for on
it; the credits in use on it by `(4 * stop + link) * 8 + channel` (R18); the place in the 4, 2, 1 round and the next input port of each
class at it (R19); the requests that wait at a stop (R22), and the last response or snoop that a stop accepted. -/
structure NocSt where
  q      : Tab (List NocFlit)
  sent   : Tab (List (Nat × NocFlit))
  resend : Tab Bool
  used   : Tab Nat
  turn   : Tab Nat
  port   : Tab Nat
  req    : Tab (List NocFlit)
  got    : Tab (List NocFlit)
deriving DecidableEq, Repr

def NocSt.off : NocSt := { q := [], sent := [], resend := [], used := [], turn := [], port := [], req := [], got := [] }

end Sys2Proof.Machine
end

