-- ==== Sys2Proof/Machine/StPep.lean ====
section
/-! DEFINITION. The state of the host endpoint and the DMA channels beside their registers (14). -/

namespace Sys2Proof.Machine

/-- What a read sent to the host is for: a part of an outbound access (its agent and address, and where in it the part lies), a
submission queue entry, or a word of a dirty map. -/
inductive ReadFor where
  | access (agent pa off : Nat)
  | entry (q index : Nat)
  | dirty (v sel w : Nat)
deriving DecidableEq, Repr

/-- A read outstanding at the host (R399, R400): tag, function, host address, length, the bytes its completions have
delivered, and its purpose. -/
structure PRead where
  tag  : Nat
  fn   : Nat
  addr : Nat
  len  : Nat
  got  : List Byte
  use  : ReadFor
deriving DecidableEq, Repr

/-- A memory write that the endpoint sends to the host: function, host address, bytes, Relaxed Ordering (R399). -/
structure Tlp where
  fn      : Nat
  addr    : Nat
  data    : List Byte
  relaxed : Bool
deriving DecidableEq, Repr

/-- The answer to the host's last request: served with data in one completion or in the completions of R396, or the outcome of R395 to
R397. -/
inductive HostAns where
  | none
  | data (bs : List Byte) (poisoned : Bool)
  | parts (cs : List (List Byte)) (poisoned : Bool)
  | unsupported
  | abort
deriving DecidableEq, Repr

/-- A queue pair on the device side (R402 to R405): enabled by the pond, its context as read at ENABLE (eight words), job ring
head and tail, completion ring head and tail, the SQ tail last given, the SQ entries fetched and waiting to be handled in
order by index, the CQ's phase and the head last given. -/
structure QPair where
  on     : Bool
  ctx    : List Word
  jhead  : Nat
  jtail  : Nat
  chead  : Nat
  ctail  : Nat
  sqtail : Nat
  asked  : Nat
  got    : List (Nat × List Byte)
  copied : Bool
  phase  : Bool
  cqhead : Nat
deriving DecidableEq, Repr

/-- A queue pair that is not enabled. -/
def QPair.off : QPair :=
  { on := false, ctx := [], jhead := 0, jtail := 0, chead := 0, ctail := 0, sqtail := 0, asked := 0, got := [], copied := false
    phase := true, cqhead := 0 }

/-- A DMA channel's descriptor in progress (R409): its words, and whether its outbound writes have been posted with how many
bytes and the status that ended its reads. -/
structure DmaJob where
  src    : Nat
  dst    : Nat
  ctl    : Word
  posted : Option (Nat × Nat)
deriving DecidableEq, Repr

/-- The endpoint: configuration space by (4096 * function + dword offset), functions in reset, reads outstanding, tags squashed
with their function, the last writes sent, the answer to the host's last request, queue pairs by (64 * function + pair), QCMD
and QDB writes not yet acted on (function, pair, command or kind, limit or value), MSI-X vectors pending by (65 * function +
vector), dirty bits waiting for their word (VF, map, bit index), the DMA channels' descriptors, and what
the arbitration of R401 keeps: the requests each function may still send in the present round, and the function served last; the
VF BAR2 size in effect, as its logarithm (R392), and the number of AER errors logged. -/
structure Pep where
  cfg    : Tab Nat
  flr    : Tab Bool
  reads  : List PRead
  squash : List (Nat × Nat)
  sent   : List Tlp
  ans    : HostAns
  qps    : Tab QPair
  qcmd   : List (Nat × Nat × Nat × Nat)
  qdb    : List (Nat × Nat × Nat × Nat)
  msix   : Tab Bool
  dirty  : List (Nat × Nat × Nat)
  jobs   : Tab (Option DmaJob)
  round  : List Nat
  served : Nat
  b2log  : Nat
  errs   : Nat
deriving DecidableEq, Repr

def Pep.off : Pep :=
  { cfg := [], flr := [], reads := [], squash := [], sent := [], ans := .none, qps := [], qcmd := [], qdb := [], msix := []
    dirty := [], jobs := [], round := [], served := 128, b2log := 28, errs := 0 }

end Sys2Proof.Machine
end

