-- ==== Sys2Proof/Machine/StPin.lean ====
section
/-! DEFINITION. Pins and the debug port (19). -/

namespace Sys2Proof.Machine

/-- The instructions of the debug port's instruction register (R523). -/
inductive JtagIns where
  | bypass | idcode | sample | extest | clamp | highz | debug
deriving DecidableEq, Repr

/-- The pins: the filtered levels of the GP inputs and the levels the GP outputs are driven to (R512 to R515), the input
pins whose time-out is running to STUCK, the two board requests (R521, R522), whether the management SMBus holds its bus
(R515); the debug port's instruction, the cells SAMPLE/PRELOAD loaded, the word last shifted out, and the status of the last
debug access (R523, R433), and whether RESET_N is low. -/
structure PinSt where
  inp     : Tab Bool
  out     : Tab Bool
  pwrcyc  : Bool
  therm   : Bool
  busHeld : Bool
  jins    : JtagIns
  cells   : Tab Bool
  dr      : Word
  dstat   : Nat
  resetLow : Bool
deriving DecidableEq, Repr

/-- Pins at power-on: no output driven, no request asserted, IDCODE in the instruction register (IEEE 1149.1). -/
def PinSt.off : PinSt :=
  { inp := [], out := [], pwrcyc := false, therm := false, busHeld := false, jins := .idcode, cells := [], dr := 0
    dstat := 0, resetLow := false }

end Sys2Proof.Machine
end

