-- ==== Sys2Proof/Machine/StPwr.lean ====
section
/-! DEFINITION. Power, the device's own state and its start beside the registers (16; 17 R493 to R502). -/

namespace Sys2Proof.Machine

/-- What the device as a whole does (R460, R494, DEVSTAT.STATE): held in reset or starting, held in a stopping failure,
halted, up (run or idle), in watch, off. -/
inductive DevMode where
  | reset | stopping | halted | up | watch | off
deriving DecidableEq, Repr

/-- A transition of a power domain (R452 to R459): the state it leads to, whether a DOMCTL request waits for it, whether it
belongs to an exit from watch, and whether it still waits for its cluster to become idle. -/
structure Trans where
  tgt  : Nat
  req  : Bool
  exit : Bool
  idle : Bool
deriving DecidableEq, Repr

/-- The power unit and domain 0 beside their registers: the device's mode, the boot step last begun, transitions under way by
domain, domains whose contents are gone (R450, R456), domains whose power-good is low (R443), consecutive intervals out of
range by sense input (R462), the last ten samples of the device power in mW (R474), the cap limit and the thermal limit in MHz with the steps since each may rise and
whether CAPFAIL has been set (R474, R476), the
frequency each cluster's ring oscillator permits in MHz (R471; unlisted: not measured since the start), the consecutive
intervals of each rail's loop in its target band (R472), device resets since power-up (DEVSTAT.COUNT), EX.TICK when BS12
completed, RSTCAUSE of this start, the outcome and mode of each boot step (R492), the started ponds and the clusters left
out as masks (R497), the place of the next entry of the step log (R488), the digest snapshot of R502 and the
bytes the management SMBus last returned. -/
structure PwrSt where
  mode    : DevMode
  step    : Nat
  trans   : Tab Trans
  void    : Tab Bool
  down    : Tab Bool
  seqRun  : Tab Nat
  samples : List Nat
  capLim  : Nat
  capLow  : Nat
  capFail : Bool
  thLim   : Nat
  thLow   : Nat
  fmax    : Tab Nat
  band    : Tab Nat
  resets  : Nat
  bs12    : Nat
  cause   : Nat
  outs    : List (Nat × Nat)
  started : Nat
  leftOut : Nat
  logAt   : Nat
  snap    : Option (List Byte)
  smb     : List Byte
deriving DecidableEq, Repr

/-- The highest cluster frequency of R49 in MHz. -/
def topMhz : Nat := 3200

/-- The power unit at a reset. -/
def PwrSt.off : PwrSt :=
  { mode := .reset, step := 0, trans := [], void := [], down := [], seqRun := [], samples := [], capLim := topMhz, capLow := 0, capFail := false
    thLim := topMhz, thLow := 0, fmax := [], band := [], resets := 0, bs12 := 0, cause := 0
    outs := List.replicate 12 (0, 0), started := 0, leftOut := 0, logAt := 0, snap := none, smb := [] }

end Sys2Proof.Machine
end

