-- ==== Sys2Proof/Machine/StSluice.lean ====
section
/-! DEFINITION. The state of the sluices and the interrupt controller beside their registers (10). -/

namespace Sys2Proof.Machine

/-- A context slot: its descriptor words D0-D7 (R274) and the home name of the context it holds (cluster * 1024 + slot).
`byEvent` tells whether an event made it READY, so
that its restore consumes one (R278), `angle` the angle of the event of its last start (CLU.RUNEV), and `miss` its misses by home
slice since the last placement decision, of which D7 shows the sum and the top slice (R287). -/
structure Ctx where
  d       : List Word
  home    : Nat
  byEvent : Bool
  angle   : Word
  miss    : Tab Nat
deriving DecidableEq, Repr

/-- An entry of a cluster's event queue (R277, R526): kind, source, angle, and the slot it is for. -/
structure QEv where
  kind  : Nat
  src   : Nat
  angle : Word
  slot  : Nat
deriving DecidableEq, Repr

/-- A context slot that nothing has used. -/
def Ctx.free (slot : Nat) : Ctx := { d := List.replicate 8 0, home := slot, byEvent := false, angle := 0, miss := [] }

/-- What the sluice knows of a core: the slot whose context runs on it and the slot assigned to it (R279), whether the
running context waits in place (R283) and CSH when it executed the WAIT or YIELD that it stopped at, the home names whose segment and stream group values it holds and whether they
changed since they were loaded (R285), L2 misses per home slice of the running context (R287), and whether the core has
executed its first WAIT since its last reset (R456). -/
structure CoreSlu where
  ctx      : Option Nat
  assigned : Option Nat
  inPlace  : Bool
  waitCsh  : Option Word
  segHold  : Option Nat
  strHold  : Option Nat
  segDirty : Bool
  strDirty : Bool
  strNeed  : Bool
  miss     : Tab Nat
  waited   : Bool
deriving DecidableEq, Repr

/-- The sluice's view of a core after reset. -/
def CoreSlu.off : CoreSlu :=
  { ctx := none, assigned := none, inPlace := false, waitCsh := none, segHold := none, strHold := none, segDirty := false
    strDirty := false, strNeed := false, miss := [], waited := false }

/-- The sluices: context slots by cluster * 1024 + slot, event queue and ready list (slot, priority at entry) of each
cluster, and the cores. -/
structure Sluice where
  ctxs  : Tab Ctx
  evq   : Tab (List QEv)
  ready : Tab (List (Nat × Nat))
  core  : Tab CoreSlu
deriving DecidableEq, Repr

/-- The interrupt controller beside its registers: the sources whose input level is high, each source's last assigned
core, its standing assignment, the sources counted in NOTGT, and the bound sources whose offer was refused (R271, R273). -/
structure IcSt where
  high    : Tab Bool
  last    : Tab Nat
  asg     : Tab (Option Nat)
  noTgt   : Tab Bool
  refused : Tab Bool
deriving DecidableEq, Repr

def Sluice.empty : Sluice := { ctxs := [], evq := [], ready := [], core := [] }
def IcSt.empty : IcSt := { high := [], last := [], asg := [], noTgt := [], refused := [] }

end Sys2Proof.Machine
end

