-- ==== Sys2Proof/Machine/StWeir.lean ====
section
/-! DEFINITION. The state of the weir fabric beside its registers (12): links, the timed-delivery buffers, the requests
under way, routing tables and the fabric's formation. -/

namespace Sys2Proof.Machine

/-- A packet waiting to be sent on a link: whether this device originates it, so that it takes its STAMP (R327), the
link's word time at which it began to wait (R324), and the credit it needs (R323, R355). -/
structure TxPkt where
  pk    : Pkt
  own   : Bool
  since : Nat
  need  : Nat
deriving DecidableEq, Repr

/-- A weir link by its first port (R318 to R325): FEC lock and alignment; the CWSEQ expected, the codewords since the last
NAK while it is missing, and the words of a packet only partly received; the CWSEQ of the next codeword sent, the codewords
kept until they are acknowledged, the CWSEQ last NAKed and how often in succession; the codewords put on the lanes since a codeword
was last received, each with its CWCTL, and those put since the last alignment codeword (R319); control words to send; credit by
virtual channel and pool (2 * class + pool); word times; the packets that wait; the place in the round robin over classes
and the pool each class sent from last; the last HELLO's words, the HELLO intervals since, and the last link delays. -/
structure Link where
  lock    : Bool
  rxNext  : Nat
  nakWait : Option Nat
  rxPkt   : List Word
  txNext  : Nat
  sent    : List (Nat × List Word)
  nakSeq  : Nat
  nakCnt  : Nat
  line    : List (BitVec 20 × List Word)
  count   : Nat
  ctl     : List Word
  credit  : List Nat
  wt      : Nat
  q       : List TxPkt
  rr      : Nat
  alt     : List Bool
  hello   : List Word
  age     : Nat
  delays  : List Int
deriving DecidableEq, Repr

/-- A link that is down. -/
def Link.off : Link :=
  { lock := false, rxNext := 0, nakWait := none, rxPkt := [], txNext := 0, sent := [], nakSeq := 0, nakCnt := 0, line := [], count := 0, ctl := []
    credit := List.replicate 8 0, wt := 0, q := [], rr := 0, alt := [false, false, false, false], hello := [], age := 0
    delays := [] }

/-- A packet held in a timed-delivery buffer (R341): release angle, the write with its pond and world and stash target, and
the doorbell (V, cluster, context), with the sender's address and pond. -/
structure TdbEnt where
  angle  : Word
  pond   : Nat
  secure : Bool
  pa     : Nat
  data   : List Byte
  bell   : Option (Nat × Nat)
  src    : Nat
  stash  : Option Nat
deriving DecidableEq, Repr

/-- A request that waits in a lane group stop's inbound queue (R336): the export, the DRAM address its access has in it
as checked on acceptance (R27), the packet, the port it came by (none: this device itself). -/
structure InReq where
  expo : Nat
  pa   : Nat
  pk   : Pkt
  port : Option Nat
deriving DecidableEq, Repr

/-- A request of this device that awaits its response (R334): its tag, destination, and the timed-send slot that sent it
(none: an exchange-window access of `ext`). -/
structure OutReq where
  tag  : Nat
  dst  : Nat
  slot : Option Nat
deriving DecidableEq, Repr

/-- A management message kept until it is acknowledged (R348): its tag, port, packet and how often it was sent again. -/
structure MgmtOut where
  tag   : Nat
  port  : Nat
  pk    : Pkt
  tries : Nat
deriving DecidableEq, Repr

/-- A weir port of a device as its TOPO reports it (R349): first port, width, the neighbour's first port and unique ID. -/
structure TopoPort where
  own   : Nat
  width : Nat
  far   : Nat
  uid   : Nat
deriving DecidableEq, Repr

/-- What the headwater knows of a device (R348 to R350, R361). -/
structure Node where
  uid   : Nat
  addr  : Nat
  amode : Nat
  vmin  : Nat
  vmax  : Nat
  minp  : Nat
  ports : List TopoPort
  down  : List Nat
  drain : Bool
deriving DecidableEq, Repr

/-- The weir: links, tag of the next request, timed-delivery buffers by lane group in order of arrival, inbound queues by
lane group, requests under way, the timed-send slots that wait for a tracker with the angle of the mark that sends them (R334,
R344), and management messages under way; the tables in force by (level * 512 + index * 2 + alternate), those
of the next epoch and its number; the fabric's headwater (none: not in a formed fabric), the beacon count, the parent and the
time port, child ports by unique ID, the depth from the time master, the address kept (R350), the epoch at the start of a
drain, the devices at the headwater, and the digest parts received by (address * 2 + part). -/
structure Weir where
  links   : Tab Link
  tag     : Nat
  tdb     : Tab (List TdbEnt)
  inq     : Tab (List InReq)
  outs    : List OutReq
  waits   : List (Nat × Option Word)
  mgmt    : List MgmtOut
  tab     : Tab Nat
  next    : Tab (Option Nat)
  nextEp  : Nat
  head    : Option Nat
  beacon  : Nat
  parent  : Option Nat
  timeP   : Option Nat
  child   : Tab (Option Nat)
  depth   : Nat
  kept    : Nat
  drainEp : Nat
  nodes   : List Node
  digests : Tab (List Word)
deriving DecidableEq, Repr

def Weir.off : Weir :=
  { links := [], tag := 0, tdb := [], inq := [], outs := [], waits := [], mgmt := [], tab := [], next := [], nextEp := 0, head := none
    beacon := 0, parent := none, timeP := none, child := [], depth := 0, kept := 0xFFFF, drainEp := 0, nodes := []
    digests := [] }

end Sys2Proof.Machine
end

