-- ==== Sys2Proof/Machine/State.lean ====
section
/-! DEFINITION. The state of the device as plain data, the reasons a step can stop, and the state after reset. -/

namespace Sys2Proof.Machine

/-- Why a step ends in a fault: no command of the table does, so there is no reason. -/
inductive Fault where
deriving DecidableEq

/-- Why a step is refused. -/
inductive Refusal where
  /-- Raised by the dispatch arm of a row that has no meaning yet: safe (the model stops). No arm raises it once every
  row has its meaning. -/
  | notModelled (mnemonic : String)
deriving DecidableEq, Repr

/-- Everything of the device but memory, the cores, the fuses and the queue. -/
structure Dev where
  part  : Part
  regs  : Tab Word
  hregs : Tab Word
  felt  : Felt
  slu   : Sluice
  ic    : IcSt
  chans : Tab Chan
  err   : ErrSt
  ext   : List ExtAcc
  wakes : Tab Bool
  pins  : PinSt
  atb   : AtbSt
  weir  : Weir
  digest : List Byte
  net   : Tab Nat
  noc   : NocSt
  lane  : LaneSt
  pep   : Pep
  pwr   : PwrSt
deriving DecidableEq, Repr

/-- The state of the block: the queue of waiting commands, the count of free values used (the model's own field), the
fuses, memory and caches, the cores by agent number, and the rest of the device. -/
structure State where
  pending : List Instr
  free    : Nat
  fuses   : Fuses
  mem     : MemSt
  cores   : Tab Core
  dev     : Dev
deriving DecidableEq, Repr

/-- The registers a part's fuses give (R509; R476 for TLIM; PIN.GEOADDR is loaded at BS01), and RSTCAUSE. -/
def Part.regs (p : Part) (cause : Nat) : Tab Word :=
  let put (t : Tab Word) (off n : Nat) : Tab Word := Tab.set regReset t off (word n)
  let bits (n : Nat) (f : Nat → Bool) : Nat := ((List.range n).map (fun i => if f i then 2 ^ i else 0)).sum
  let t0 := put [] R.gidIdent ((if p.order = .axj192ix then 0x0192 else 0x0256) * 2 ^ 48 + (if p.b0 then 2 else 1) * 2 ^ 12 + 2 ^ 8 +
    (if p.b0 then 16 else 0) + (match p.order with
      | .axj256ix => 1
      | .axj256cx => 2
      | .axj192ix => 4))
  let t1 := put (put (put t0 R.gidUid p.uid) R.gidPower p.tdp) R.gidVolt (p.vmax * 2 ^ 32 + p.vmin * 2 ^ 16 + p.vnom)
  let t2 := (List.range 4).foldl (fun t j => put t (R.gidPrescore j) (bits 64 (fun b => p.order.core (64 * j + b)))) t1
  let t3 := put t2 R.gidPres (bits 8 p.order.group * 2 ^ 48 + bits 16 p.order.channel * 2 ^ 32 + bits 32 p.order.cluster)
  let t4 := (List.range 2).foldl (fun t j => put t (R.gidPresport j) (bits 64 (fun b => p.order.port (64 * j + b)))) t3
  put (put t4 R.pwrThermctl (if p.order = .axj256cx then 95 else 105)) R.pwrRstcause cause

/-- Everything but memory, cores, fuses and the queue when a device reset begins. -/
def Dev.off (p : Part) (cause : Nat) : Dev :=
  { part := p, regs := p.regs cause, hregs := [], felt := Felt.none, slu := Sluice.empty, ic := IcSt.empty, chans := []
    err := ErrSt.empty, ext := [], wakes := [], pins := PinSt.off, atb := AtbSt.off, weir := Weir.off
    digest := List.replicate 256 0#8, net := [], noc := NocSt.off, lane := LaneSt.off, pep := Pep.off, pwr := { PwrSt.off with cause := cause } }

/-- The part of the model: an AXJ256-IX, stepping B0 (R1). DESIGN CHOICE (log entry 3): what its fuses, board and straps
hold is not in the spec. -/
def Part.model : Part :=
  { order := .axj256ix, b0 := true, uid := 1, tdp := 420, vmax := 1050, vmin := 650, vnom := 750, serial := some 1, geo := 1
    geoPar := true }

/-- The key fuses of the model: key 0 programmed, the others blank. DESIGN CHOICE (log entry 3): the spec gives no key. -/
def Fuses.model : Fuses :=
  { keys := [some (p384Gx, p384Gy), none, none, none], revoked := [false, false, false, false] }

/-- The device right after a power-on reset, before BS01 (R493): nothing in memory, every core in reset, RSTCAUSE bit 0. -/
def State.reset : State :=
  { pending := [], free := 0, fuses := Fuses.model, mem := MemSt.empty, cores := [], dev := Dev.off Part.model 1 }

end Sys2Proof.Machine
end

