-- ==== Sys2Proof/Machine/DevOps.lean ====
section
/-! DEFINITION. The small operations every family uses: reading and writing the stored value of a register, recording a
refusal (R6, R7, R507), raising an event bit and its interrupt edge (R266 to R269), reporting an error (R480). -/

namespace Sys2Proof.Machine

/-- The stored value of a control-space register. -/
def Dev.reg (d : Dev) (off : Nat) : Word := Tab.get regReset d.regs off

/-- Store a register's value. -/
def Dev.setReg (d : Dev) (off : Nat) (v : Word) : Dev := { d with regs := Tab.set regReset d.regs off v }

/-- A field of a register. -/
def Dev.rf (d : Dev) (off hi lo : Nat) : Nat := fld (d.reg off) hi lo

/-- Store a field of a register. -/
def Dev.setRf (d : Dev) (off hi lo v : Nat) : Dev := d.setReg off (setFld (d.reg off) hi lo v)

/-- Count one in a saturating field. -/
def Dev.satInc (d : Dev) (off hi lo : Nat) : Dev :=
  d.setRf off hi lo (satAdd (2 ^ (hi + 1 - lo) - 1) (d.rf off hi lo) 1)

/-- Add to a wrapping counter field. -/
def Dev.wrapAdd (d : Dev) (off hi lo n : Nat) : Dev := d.setRf off hi lo (d.rf off hi lo + n)

/-- Whether supply lies below the NV write floor (R466, PWR.STATUS.BELOW). -/
def Dev.belowFloor (d : Dev) : Bool := bit (d.reg R.pwrStatus) 5

/-- The world, owner and kind fields of an interrupt source. -/
def Dev.srcCfg (d : Dev) (n : Nat) : Word := d.reg (R.icSrccfg n)

/-- Bit of source `n` in one of the IC's bit arrays. -/
def Dev.icBit (d : Dev) (arr : Nat → Nat) (n : Nat) : Bool := bit (d.reg (arr (n / 64))) (n % 64)

/-- Set the bit of source `n` in one of the IC's bit arrays. -/
def Dev.setIcBit (d : Dev) (arr : Nat → Nat) (n : Nat) (b : Bool) : Dev :=
  d.setReg (arr (n / 64)) (setBit (d.reg (arr (n / 64))) (n % 64) b)

def Dev.pend (d : Dev) (n : Nat) : Bool := d.icBit R.icPendset n
def Dev.masked (d : Dev) (n : Nat) : Bool := d.icBit R.icMaskset n
def Dev.active (d : Dev) (n : Nat) : Bool := d.icBit R.icActive n

/-- Whether a source exists for the part and is owned (R266, R41): sources of absent ports and clusters never pend. -/
def Dev.srcOwned (d : Dev) (n : Nat) : Bool :=
  bit (d.srcCfg n) 50 &&
  (if 0x40 ≤ n ∧ n < 0xC0 then d.part.order.port (n - 0x40)
   else if 0x150 ≤ n ∧ n < 0x170 then d.part.order.cluster (n - 0x150) else true)

/-- An edge on a source (R267, R268): it latches in the pending bit, and is merged into a pending one with the overrun
bit set; a level source never sets its overrun bit, and one that is active is not set pending. -/
def Dev.edge (d : Dev) (n : Nat) : Dev :=
  if !(d.srcOwned n) then d
  else if bit (d.srcCfg n) 51 then
    if d.active n then d else d.setIcBit R.icPendset n true
  else if d.pend n then d.setIcBit R.icOvr n true
  else d.setIcBit R.icPendset n true

/-- Set an event bit; its change from 0 to 1 is an edge on a source (03, 10, 12, 16, 18 event registers). -/
def Dev.event (d : Dev) (off b src : Nat) : Dev :=
  if bit (d.reg off) b then d else (d.setReg off (setBit (d.reg off) b true)).edge src

/-- ATB.EVENT (source 0x140). -/
def Dev.atbEvent (d : Dev) (b : Nat) : Dev := d.event R.atbEvent b 0x140
/-- NVS.EVENT (source 0x143, R510). -/
def Dev.nvsEvent (d : Dev) (b : Nat) : Dev := d.event R.nvsEvent b 0x143
/-- WX.EVENT (source 0x148). -/
def Dev.wxEvent (d : Dev) (b : Nat) : Dev := d.event R.wxEvent b 0x148
/-- CLU.ALARM of a cluster (source 0x150 + c). -/
def Dev.alarm (d : Dev) (c b : Nat) : Dev := d.event (R.cluAlarm c) b (0x150 + c)

/-- The quadrant of a cluster. -/
def quadOf (c : Nat) : Nat := c / 8

/-- The class of a record whose resource is not tested: units 9 (PCIe), 10 (record store), 11 (supply), 14 (SEC0) and 15 (ATB) are
not testable (R484). -/
def clsOf (unit : Nat) : Nat := if [9, 10, 11, 14, 15].contains unit then 4 else 3

/-- Send an error record to the service core of a quadrant (R480). -/
def Dev.report (d : Dev) (quad unit kind inst sev stat pond flags addr : Nat) (detail : List Byte) : Dev :=
  { d with err := { d.err with waiting := d.err.waiting ++
      [{ quad := quad, unit := unit, kind := kind, inst := inst, sev := sev, cls := clsOf unit, act := 0, stat := stat
         pond := pond, flags := flags, count := 0, addr := addr, angle := (d.reg R.atbNow).toNat
         tick := (d.reg R.exTick).toNat, detail := detail }] } }

/-- Send the record of an error in a testable resource: its class is completed by the test (R484, R485). `mc`: a machine
check is raised with it (R481). With 64 records waiting at the service core it is recorded without a test, and so is an error during a boot step (R487). -/
def Dev.reportTest (d : Dev) (quad unit kind inst sev pond flags addr : Nat) (mc : Bool) (detail : List Byte) : Dev :=
  let full := decide (64 ≤ (d.err.waiting.filter (fun r => decide (r.quad = quad))).length)
  let d1 := if full then d.wrapAdd R.errStatus 47 32 1 else d
  { d1 with err := { d1.err with waiting := d1.err.waiting ++
      [{ quad := quad, unit := unit, kind := kind, inst := inst, sev := sev, cls := if full || decide (d.pwr.mode = .reset) then 3 else 0, act := 0, stat := 0
         pond := pond, flags := if mc then flags ||| 8 else flags, count := 0, addr := addr
         angle := (d.reg R.atbNow).toNat, tick := (d.reg R.exTick).toNat, detail := detail }] } }

/-- PWR.EVENT (source 0x141): a new bit also produces an error record (R480). -/
def Dev.pwrEvent (d : Dev) (b : Nat) : Dev :=
  if bit (d.reg R.pwrEvent) b then d
  else (d.event R.pwrEvent b 0x141).report 0 11 (if b = 4 then 14 else 13) 0 0 0 0xFF 0 0 []

/-- DMC.EVENT of a channel: a new bit produces an error record (R480). -/
def Dev.dmcEvent (d : Dev) (ch b : Nat) : Dev :=
  if bit (d.reg (R.dmcEvent ch)) b then d
  else (d.setReg (R.dmcEvent ch) (setBit (d.reg (R.dmcEvent ch)) b true)).report (ch / 4) 5
    (if b = 1 then 7 else if b = 0 then 1 else 5) (4 * ch) (if b = 1 then 1 else 0) 0 0xFF 0 0 []

/-- WPT.EVENT of a port (source 0x040 + p): a new bit also produces an error record (R480). -/
def Dev.wptEvent (d : Dev) (p b : Nat) : Dev :=
  if bit (d.reg (R.wptEvent p)) b then d
  else (d.event (R.wptEvent p) b (0x40 + p)).report (p / 32) 7 5 p 0 0 0xFF 0 0 []

/-- Whether a pond's instance admits a requester in column O (R5, R424, R425): a device agent always; otherwise the
owner's tag with the instance's world, or with the secure world. -/
def ownerAdmits (own : Option (Nat × Bool)) (rq : Req) : Bool :=
  rq.dev || (match own with
    | some (p, sec) => decide (rq.pond = p) && (rq.secure || !sec)
    | none => false)

/-- Record a refused access at the block of a control-space offset (R6, R7, R507). -/
def Dev.refuse (d : Dev) (b : Blk) (i o : Nat) : Dev :=
  let cnt (off : Nat) : Dev := d.satInc off 63 48
  match b with
  | .atb => d.atbEvent 7
  | .pwr => ((cnt R.pwrStatus).setRf R.pwrStatus 47 32 o).pwrEvent 7
  | .sec => (cnt R.secStatus).setRf R.secStatus 15 0 o
  | .nvs => cnt R.nvsStatus
  | .pin => (cnt R.pinStatus).setRf R.pinStatus 15 0 o
  | .ic => (cnt R.icStatus).setRf R.icStatus 15 0 o
  | .clu => (cnt (R.cluStatus i)).setRf (R.cluStatus i) 15 0 o
  | .dmc => (cnt (R.dmcStatus i)).dmcEvent i 8
  | .wpt => if i = 0 ∧ 0x8000 ≤ o then d.wxEvent 7 else cnt R.errStatus
  | .pep => (d.satInc R.pepStatus 47 32).setRf R.pepStatus 15 0 o
  | .gid | .felt | .dma | .dbg | .lane | .llc | .err => cnt R.errStatus

/-- DOMCTL.STATE of a domain: 0 on, 1 clock-gated, 2 retention, 3 off, 4 entering, 5 waking (R450, PWR.DOMCTL). -/
def Dev.domState (d : Dev) (dom : Nat) : Nat := d.rf (R.pwrDomctl dom) 55 53

/-- Whether a core exists, and its cluster's owner. -/
def Dev.corePond (d : Dev) (k : Nat) : Option Nat := clusterOwner d.felt.cfg (k / 8)

/-- A core of the device by agent number. -/
def State.core (s : State) (k : Nat) : Core := Tab.get Core.off s.cores k

/-- Store a core. -/
def State.setCore (s : State) (k : Nat) (c : Core) : State := { s with cores := Tab.set Core.off s.cores k c }

/-- Change a core. -/
def State.modCore (s : State) (k : Nat) (f : Core → Core) : State := s.setCore k (f (s.core k))

/-- Change the device's registers and engines. -/
def State.onDev (s : State) (f : Dev → Dev) : State := { s with dev := f s.dev }

/-- Change memory and caches. -/
def State.onMem (s : State) (f : MemSt → MemSt) : State := { s with mem := f s.mem }

end Sys2Proof.Machine
end

