-- ==== Sys2Proof/Machine/CoreReg.lean ====
section
/-! DEFINITION. A core's banks, worlds and system registers (04 R88, R92, R93, R95, R106, R109, R112, R113). -/

namespace Sys2Proof.Machine

/-- The running bank (R109). -/
def Core.bank (c : Core) : Bank := if c.inB1 then c.b1 else c.b0
/-- Replace the running bank. -/
def Core.setBank (c : Core) (b : Bank) : Core := if c.inB1 then { c with b1 := b } else { c with b0 := b }
/-- Change the running bank. -/
def Core.modBank (c : Core) (f : Bank → Bank) : Core := c.setBank (f c.bank)
/-- MS.WORLD of the running bank. -/
def Core.secure (c : Core) : Bool := bit c.bank.ms 2
/-- MS.MODE of the running bank: 0 user, 1 supervisor, 3 monitor (R92). -/
def Core.mode (c : Core) : Nat := fld c.bank.ms 1 0
/-- The registers of a world. -/
def Core.wr (c : Core) (secure : Bool) : WorldRegs := if secure then c.sec else c.nrm
/-- Replace the registers of a world. -/
def Core.setWr (c : Core) (secure : Bool) (w : WorldRegs) : Core := if secure then { c with sec := w } else { c with nrm := w }
/-- The registers of the current world (R95). -/
def Core.cw (c : Core) : WorldRegs := c.wr c.secure

/-- Change the running bank of a core. -/
def State.modBank (s : State) (k : Nat) (f : Bank → Bank) : State := s.modCore k (fun c => c.modBank f)

/-- FL.LDEPTH (R106). -/
def Bank.ldepth (b : Bank) : Nat := fld b.fl 26 24
/-- Set FL.LDEPTH. (DEDUCED, log entry 47.) -/
def Bank.setLdepth (b : Bank) (n : Nat) : Bank := { b with fl := setFld b.fl 26 24 n }

/-- The writable bits of FL (04 "FL"). -/
def flMask : Word := 0x071FDF1F#64

/-- LOPSTAT as MFC reads it: OUT counts the outstanding operations (R170); PREC reads 1 on a service core (R177). -/
def Core.lopRead (c : Core) : Word := setFld c.lopstat 55 53 c.lops.length

/-- A system register by number (R112), with its Access column: 0 any mode, 1 supervisor, 3 monitor; `rdAny` when MFC is
admitted in any mode; whether it can be written. None: unallocated. -/
def sysReg (n : Nat) (svc inB1 : Bool) : Option (Nat × Bool × Bool) :=
  if n = 0 then some (1, true, true)
  else if n = 1 ∨ n = 3 then some (1, false, true)
  else if n = 2 ∨ n = 4 then some (3, false, true)
  else if n = 8 ∨ n = 9 ∨ n = 10 ∨ n = 0x10 ∨ n = 0x11 ∨ n = 0x18 ∨ n = 0x20 ∨ n = 0x21 ∨ n = 0x22 ∨ n = 0x24 then
    some (1, false, true)
  else if n = 0x30 ∨ n = 0x31 then some (0, true, false)
  else if 0x40 ≤ n ∧ n < 0x58 then some (1, false, true)
  else if 0x60 ≤ n ∧ n < 0x6C then some (0, true, true)
  else if 0x70 ≤ n ∧ n ≤ 0x78 then (if svc then none else some (0, true, true))
  else if 0xB0 ≤ n ∧ n ≤ 0xB3 then (if inB1 || svc then none else some (1, false, true))
  else none

/-- The value of a system register as the running core reads it. -/
def State.readSys (s : State) (k n : Nat) : Word :=
  let c := s.core k
  let w := c.cw
  let b := c.bank
  if n = 0 then (if c.inB1 then setBit b.ms 4 false else b.ms)
  else if n = 1 then w.vbase
  else if n = 2 then c.mvbase
  else if n = 3 then w.ssp
  else if n = 4 then c.msp
  else if n = 8 then w.csh
  else if n = 9 then w.cfl
  else if n = 10 then w.cfc
  else if n = 0x10 then w.esyn
  else if n = 0x11 then w.eaddr
  else if n = 0x18 then c.lopRead
  else if n = 0x20 then w.wlkaddr
  else if n = 0x21 then w.tlbroot
  else if n = 0x22 then w.asid
  else if n = 0x24 then w.wctl
  else if n = 0x30 then word k
  else if n = 0x31 then word (if isSvc k then 0 else (clusterOwner s.dev.felt.cfg (k / 8)).getD 0)
  else if n < 0x48 then (w.segs.getD (n - 0x40) Seg.reset).base
  else if n < 0x50 then (w.segs.getD (n - 0x48) Seg.reset).lim
  else if n < 0x58 then (w.segs.getD (n - 0x50) Seg.reset).rgt
  else if n < 0x64 then b.ls.getD (n - 0x60) 0
  else if n < 0x68 then b.le.getD (n - 0x64) 0
  else if n < 0x6C then b.lc.getD (n - 0x68) 0
  else if n < 0x78 then c.q.getD (n - 0x70) 0
  else if n = 0x78 then c.sstat
  else if n = 0xB0 then c.b1.a
  else if n = 0xB1 then c.b1.x
  else if n = 0xB2 then c.b1.y
  else c.b1.sp

/-- Change the current world's registers. -/
def Core.modCw (c : Core) (f : WorldRegs → WorldRegs) : Core := c.setWr c.secure (f c.cw)

/-- A write of MS: SS, IE, FE (not in B1), and SIE from the secure world (R92, R93). -/
def Core.writeMs (c : Core) (v : Word) : Core :=
  let m : Word := 0x88#64 ||| (if c.inB1 then 0 else 0x10#64) ||| (if c.secure then 0x20#64 else 0)
  c.modBank (fun b => { b with ms := (b.ms &&& ~~~m) ||| (v &&& m) })

/-- A write of LOPSTAT: PREC; a 1 in VALID clears the record, a 1 in MULT clears MULT (06 "LOPSTAT", R177). -/
def Core.writeLop (c : Core) (svc : Bool) (v : Word) : Core :=
  let l0 := setBit c.lopstat 63 (bit v 63 || svc)
  let l1 := if bit v 61 then setBit l0 61 false else l0
  { c with lopstat := if bit v 62 then l1 &&& 0x8000000000000000#64 else l1 }

/-- A write of ASID: with FLUSH, this core's non-global entries of the current world tagged with the new value are dropped
(R197). -/
def Core.writeAsid (c : Core) (v : Word) : Core :=
  let c1 := if bit v 31 then c.keepTlb (fun e => !((e.secure == c.secure) && !e.global && decide (e.asid = fld v 15 0))) else c
  c1.modCw (fun w => { w with asid := word (fld v 15 0) })

/-- A write of a system register by the running core, with its reserved and ignored bits (R101, R113). -/
def Core.writeSys (c : Core) (svc : Bool) (n : Nat) (v : Word) : Core :=
  if n = 0 then c.writeMs v
  else if n = 1 then c.modCw (fun w => { w with vbase := v &&& ~~~0x3FF#64 })
  else if n = 2 then { c with mvbase := v &&& ~~~0x3FF#64 }
  else if n = 3 then c.modCw (fun w => { w with ssp := v &&& ~~~7#64 })
  else if n = 4 then { c with msp := v &&& ~~~7#64 }
  else if n = 8 then c.modCw (fun w => { w with csh := v &&& maskOf 51 6 })
  else if n = 9 then c.modCw (fun w => { w with cfl := v &&& maskOf 51 6 })
  else if n = 10 then c.modCw (fun w => { w with cfc := v &&& maskOf 15 0 })
  else if n = 0x10 then c.modCw (fun w => { w with esyn := v &&& 0xFFFFFFFF0001FFFF#64 })
  else if n = 0x11 then c.modCw (fun w => { w with eaddr := v })
  else if n = 0x18 then c.writeLop svc v
  else if n = 0x20 then c.modCw (fun w => { w with wlkaddr := v &&& ~~~7#64 })
  else if n = 0x21 then c.modCw (fun w => { w with tlbroot := v &&& maskOf 51 12 })
  else if n = 0x22 then c.writeAsid v
  else if n = 0x24 then c.modCw (fun w => { w with wctl := v &&& 1 })
  else if n < 0x48 then
    c.modCw (fun w => { w with segs := w.segs.set (n - 0x40) { w.segs.getD (n - 0x40) Seg.reset with base := v } })
  else if n < 0x50 then
    c.modCw (fun w => { w with segs := w.segs.set (n - 0x48) { w.segs.getD (n - 0x48) Seg.reset with lim := v &&& maskOf 47 0 } })
  else if n < 0x58 then
    c.modCw (fun w => { w with segs := w.segs.set (n - 0x50) { w.segs.getD (n - 0x50) Seg.reset with rgt := v &&& maskOf 4 0 } })
  else if n < 0x64 then c.modBank (fun b => { b with ls := b.ls.set (n - 0x60) v })
  else if n < 0x68 then c.modBank (fun b => { b with le := b.le.set (n - 0x64) v })
  else if n < 0x6C then c.modBank (fun b => { b with lc := b.lc.set (n - 0x68) v })
  else if n < 0x78 then { c with q := c.q.set (n - 0x70) v }
  else if n = 0x78 then { c with sstat := v &&& maskOf 2 0 }
  else if n = 0xB0 then { c with b1 := { c.b1 with a := v } }
  else if n = 0xB1 then { c with b1 := { c.b1 with x := v } }
  else if n = 0xB2 then { c with b1 := { c.b1 with y := v } }
  else { c with b1 := { c.b1 with sp := v } }

end Sys2Proof.Machine
end

