-- ==== Sys2Proof/Machine/Sluice.lean ====
section
/-! DEFINITION. The sluices: descriptors, events, starts and dispatch (10 R274 to R289). -/

namespace Sys2Proof.Machine

/-- The slot key of (cluster, slot). -/
def slotKey (c s : Nat) : Nat := c * 1024 + s

/-- D0.STATE values (R274). -/
def stFree : Nat := 0
def stWaiting : Nat := 1
def stReady : Nat := 2
def stRunning : Nat := 3
def stStopped : Nat := 4
def stAway : Nat := 5

/-- The context slot at a key. -/
def Dev.ctx (d : Dev) (k : Nat) : Ctx := Tab.get Ctx.free d.slu.ctxs k

/-- Store a context slot. -/
def Dev.setCtx (d : Dev) (k : Nat) (x : Ctx) : Dev := { d with slu := { d.slu with ctxs := Tab.set Ctx.free d.slu.ctxs k x } }

/-- Descriptor word `j` of a slot. -/
def Dev.cd (d : Dev) (k j : Nat) : Word := (d.ctx k).d.getD j 0

/-- Store descriptor word `j` of a slot. -/
def Dev.setCd (d : Dev) (k j : Nat) (v : Word) : Dev := d.setCtx k { d.ctx k with d := (d.ctx k).d.set j v }

def Dev.ctxState (d : Dev) (k : Nat) : Nat := fld (d.cd k 0) 63 61
def Dev.setCtxState (d : Dev) (k st : Nat) : Dev := d.setCd k 0 (setFld (d.cd k 0) 63 61 st)
def Dev.ctxPrio (d : Dev) (k : Nat) : Nat := fld (d.cd k 0) 55 52
def Dev.ctxSecure (d : Dev) (k : Nat) : Bool := bit (d.cd k 0) 59

/-- The sluice's view of a core. -/
def Dev.cslu (d : Dev) (k : Nat) : CoreSlu := Tab.get (fun _ => CoreSlu.off) d.slu.core k

/-- Store the sluice's view of a core. -/
def Dev.setCslu (d : Dev) (k : Nat) (x : CoreSlu) : Dev :=
  { d with slu := { d.slu with core := Tab.set (fun _ => CoreSlu.off) d.slu.core k x } }

/-- The event queue of a cluster. -/
def Dev.evq (d : Dev) (c : Nat) : List QEv := Tab.get (fun _ => []) d.slu.evq c

/-- Store a cluster's event queue; CLU.EVQ shows its use and the highest use since the last read, with the use that stood
then (10). (DEDUCED, log entry 80.) -/
def Dev.setEvq (d : Dev) (c : Nat) (q : List QEv) : Dev :=
  let d1 : Dev := { d with slu := { d.slu with evq := Tab.set (fun _ => []) d.slu.evq c q } }
  let d2 := d1.setRf (R.cluEvq c) 8 0 q.length
  let use := max (d.evq c).length q.length
  if d2.rf (R.cluEvq c) 24 16 < use then d2.setRf (R.cluEvq c) 24 16 use else d2

/-- The ready list of a cluster: (slot, priority at entry), oldest first. -/
def Dev.ready (d : Dev) (c : Nat) : List (Nat × Nat) := Tab.get (fun _ => []) d.slu.ready c

/-- Store a cluster's ready list. -/
def Dev.setReady (d : Dev) (c : Nat) (l : List (Nat × Nat)) : Dev :=
  { d with slu := { d.slu with ready := Tab.set (fun _ => []) d.slu.ready c l } }

/-- Note whether an event makes a context READY (R278). -/
def Dev.setByEvent (d : Dev) (k : Nat) (b : Bool) : Dev := d.setCtx k { d.ctx k with byEvent := b }

/-- A context becomes READY and joins the tail of its priority (R279). -/
def Dev.makeReady (d : Dev) (k : Nat) (byEvent : Bool) : Dev :=
  let d1 := (d.setCtxState k stReady).setByEvent k byEvent
  d1.setReady (k / 1024) ((d1.ready (k / 1024)).filter (fun e => decide (e.1 ≠ k)) ++ [(k, d1.ctxPrio k)])

/-- Take a context off its ready list. -/
def Dev.unready (d : Dev) (k : Nat) : Dev :=
  d.setReady (k / 1024) ((d.ready (k / 1024)).filter (fun e => decide (e.1 ≠ k)))

/-- The slot that holds the context named by a home key: the home slot, or for an AWAY one the slot of cluster CUR whose
home it is (R274). -/
def Dev.holder (d : Dev) (k : Nat) : Nat :=
  if d.ctxState k = stAway then
    let cur := fld (d.cd k 0) 47 43
    match d.slu.ctxs.find? (fun e => decide (e.1 / 1024 = cur) && decide (e.2.home = k) && decide (e.1 ≠ k)) with
    | some e => e.1
    | none => k
  else k

/-- The core on which a slot's context runs. -/
def Dev.runner (d : Dev) (k : Nat) : Option Nat :=
  (d.slu.core.find? (fun e => decide (e.2.ctx = some k))).map (·.1)

/-- The core to which a slot is assigned. -/
def Dev.assignee (d : Dev) (k : Nat) : Option Nat :=
  (d.slu.core.find? (fun e => decide (e.2.assigned = some k))).map (·.1)

/-- `a` is after `b` in angle time (R63): the difference modulo 2^64 lies from 1 to 2^63 - 1. -/
def angleAfter (a b : Word) : Bool :=
  let m := (a - b).toNat
  decide (0 < m) && decide (m < 2 ^ 63)

/-- The oldest queued event of a slot, consumed (R278): its entry is freed and D5 names it. -/
def Dev.consume (d : Dev) (k : Nat) : Option (QEv × Dev) :=
  match (d.evq (k / 1024)).find? (fun e => decide (e.slot = k)) with
  | none => none
  | some e =>
    let d1 := d.setEvq (k / 1024) ((d.evq (k / 1024)).eraseP (fun x => decide (x.slot = k)))
    let d2 := d1.setCd k 0 (setFld (d1.cd k 0) 31 24 (fld (d1.cd k 0) 31 24 - 1))
    some (e, d2.setCd k 5 (setFld (setFld (d2.cd k 5) 63 60 e.kind) 15 0 e.src))

/-- A start (R286): D6 takes the angle, the deadline is compared, STAT and lateness are recorded, DLV clears, and
RUNINFO and RUNEV of the core show the event. -/
def Dev.start (d : Dev) (k core : Nat) (e : QEv) : Dev :=
  let now := d.reg R.atbNow
  let dlv := bit (d.cd k 0) 51
  let late := dlv && angleAfter now (d.cd k 3)
  let lateness := min ((now - d.cd k 3).toNat) 0xFFFFFFFF
  let d1 := (d.setCtx k { d.ctx k with angle := e.angle }).setCd k 6 now
  let d2 := d1.setCd k 5 (setFld (d1.cd k 5) 59 56 (if late then 1 else 0))
  let d3 := if late then
      (d2.setCd k 4 (setFld (setFld (d2.cd k 4) 63 32 lateness) 31 0 (fld (d2.cd k 4) 31 0 + 1))).wrapAdd
        (R.cluLatecnt (k / 1024)) 63 0 1
    else d2
  let d4 := d3.setCd k 0 (setBit (d3.cd k 0) 51 false)
  let ri : Word := setFld (setFld (setFld (setFld (setFld (setFld 0 63 63 1) 62 59 e.kind) 58 55 (if late then 1 else 0))
    54 50 ((d4.ctx k).home / 1024)) 49 40 ((d4.ctx k).home % 1024)) 31 0 (if late then lateness else 0)
  (d4.setReg (R.cluRuninfo (core / 8) (core % 8)) ri).setReg (R.cluRunev (core / 8) (core % 8)) e.angle

/-- An event reaches the sluice of the cluster it names (R277): the status of R9 and the new state. A context that waits
in place on its core returns to RUNNING there at once (R283). -/
def Dev.sluiceEvent (d : Dev) (ev : SluiceEv) : Nat × Dev :=
  let name := slotKey (ev.cluster % 32) (ev.slot % 1024)
  let k := d.holder name
  let c := k / 1024
  let st := d.ctxState k
  if clusterOwner d.felt.cfg (ev.cluster % 32) ≠ some ev.pond ∨ clusterOwner d.felt.cfg c ≠ some ev.pond ∨ st = stFree ∨
      st = stStopped ∨ st = stAway then (3, d)
  else if (d.evq c).length ≥ 256 ∨ fld (d.cd k 0) 31 24 = 255 then
    let d1 := d.setCd k 0 (setFld (d.cd k 0) 39 32 (satAdd 255 (fld (d.cd k 0) 39 32) 1))
    (2, (d1.wrapAdd (R.cluEvlost c) 63 0 1).alarm c 0)
  else
    let e : QEv := { kind := ev.kind, src := ev.src, angle := ev.angle, slot := k }
    let d1 := d.setEvq c (d.evq c ++ [e])
    let d2 := d1.setCd k 0 (setFld (d1.cd k 0) 31 24 (fld (d1.cd k 0) 31 24 + 1))
    if st = stWaiting then
      match d2.runner k with
      | some core =>
        if (d2.cslu core).inPlace then
          match d2.consume k with
          | some (e', d3) =>
            (0, ((d3.setCtxState k stRunning).start k core e').setCslu core { d3.cslu core with inPlace := false, waitCsh := none })
          | none => (0, d2)
        else (0, d2.makeReady k true)
      | none => (0, d2.makeReady k true)
    else (0, d2)

/-- CFC of a core in a context's world. -/
def cfcOf (c : Core) (secure : Bool) : Nat := if secure then fld c.sec.cfc 15 0 else fld c.nrm.cfc 15 0

/-- The cores of a cluster that its sluice may use: named in SLCORES, present and owned, not retired, stopped or under
test, past their first WAIT, in a domain that is on (R56, R454, R456). -/
def Dev.sluCores (d : Dev) (cores : Tab Core) (c : Nat) : List Nat :=
  ((List.range 8).map (fun i => c * 8 + i)).filter (fun k =>
    bit (d.reg (R.cluSlcores c)) (k % 8) && d.part.order.core k && (d.cslu k).waited && decide (d.domState (21 + c) = 0) &&
    (match (Tab.get Core.off cores k).run with
     | .running | .idle | .waiting => true
     | _ => false))

/-- The idle cores of a cluster: run no context, hold no assignment, and wait (R279). -/
def Dev.idleCores (d : Dev) (cores : Tab Core) (c : Nat) : List Nat :=
  (d.sluCores cores c).filter (fun k =>
    decide ((d.cslu k).ctx = none) && decide ((d.cslu k).assigned = none) && decide ((Tab.get Core.off cores k).run = .idle))

/-- The first entry of highest priority among ready contexts that no core still holds. -/
def Dev.bestReady (d : Dev) (c : Nat) : Option (Nat × Nat) :=
  ((d.ready c).filter (fun e => decide (d.runner e.1 = none))).foldl
    (fun acc e => match acc with
      | none => some e
      | some a => if a.2 < e.2 then some e else some a) none

/-- Cores that run a RUNNING context of lower priority and hold no assignment. -/
def Dev.lowerCores (d : Dev) (cores : Tab Core) (c prio : Nat) : List (Nat × Nat) :=
  (d.sluCores cores c).filterMap (fun k =>
    match (d.cslu k).ctx with
    | some x => if (d.cslu k).assigned = none ∧ d.ctxState x = stRunning ∧ d.ctxPrio x < prio then some (k, x) else none
    | none => none)

/-- The core to pre-empt among some that run contexts of lower priority: that of the lowest (R279). -/
def Dev.lowest (d : Dev) (l : List (Nat × Nat)) : Option (Nat × Nat) :=
  l.foldl (fun acc e => match acc with
    | none => some e
    | some a => if d.ctxPrio e.2 < d.ctxPrio a.2 then some e else some a) none

/-- One dispatch decision (R279, R283): the best ready context goes to an idle core, else to the core that runs the
context of lowest priority below it among cores whose CFC in that context's world is at least 4. A candidate passed over
for its CFC sets CHAINSHORT. -/
def Dev.dispatch1 (d : Dev) (cores : Tab Core) (c : Nat) : Option Dev :=
  match d.bestReady c with
  | none => none
  | some (x, prio) =>
    let give (k : Nat) : Dev := (d.unready x).setCslu k { (d.unready x).cslu k with assigned := some x }
    match d.idleCores cores c with
    | [] =>
      let low := d.lowerCores cores c prio
      let ok := low.filter (fun e => decide (4 ≤ cfcOf (Tab.get Core.off cores e.1) (d.ctxSecure e.2)))
      match d.lowest ok with
      | some t => some (give t.1)
      | none => none
    | k :: ks =>
      let pref := c * 8 + fld (d.cd x 0) 50 48
      some (give (if (k :: ks).contains pref then pref else k))

/-- Whether dispatch passes over a core for its short chain (R283): the candidate that it comes to first. -/
def Dev.chainShort (d : Dev) (cores : Tab Core) (c : Nat) : Bool :=
  match d.bestReady c with
  | none => false
  | some (_, prio) =>
    (d.idleCores cores c).isEmpty &&
    (match d.lowest (d.lowerCores cores c prio) with
     | some e => decide (cfcOf (Tab.get Core.off cores e.1) (d.ctxSecure e.2) < 4)
     | none => false)

/-- Dispatch repeated until it assigns nothing (R279); each decision takes one context off the ready list. -/
def Dev.dispatchN : Nat → Dev → Tab Core → Nat → Dev
  | 0, d, _, _ => d
  | n + 1, d, cores, c =>
    let d0 := if d.chainShort cores c then d.alarm c 1 else d
    match d0.dispatch1 cores c with
    | none => d0
    | some d1 => Dev.dispatchN n d1 cores c

/-- Dispatch of a cluster. -/
def Dev.dispatch (d : Dev) (cores : Tab Core) (c : Nat) : Dev := d.dispatchN ((d.ready c).length + 1) cores c

/-- The lowest free slot of a cluster. -/
def Dev.freeSlot (d : Dev) (c : Nat) : Option Nat :=
  ((List.range 1024).find? (fun s => decide (d.ctxState (slotKey c s) = stFree))).map (slotKey c)

/-- Move a context that is not running to a free slot of another cluster (R287): the descriptor is copied, the home slot
becomes AWAY with CUR set, or returns from AWAY when the context goes home; its queued events go with it; HOLD is set to
7 and MISSES cleared. -/
def Dev.migrate (d : Dev) (k dst : Nat) : Dev :=
  let x := d.ctx k
  let home := x.home
  let tgt := if dst / 1024 = home / 1024 then home else dst
  let d0v := setFld (setFld (x.d.getD 0 0) 42 40 7) 63 61 (fld (x.d.getD 0 0) 63 61)
  let w := (x.d.set 0 d0v).set 7 (setFld (x.d.getD 7 0) 63 48 0)
  let wasReady := (d.ready (k / 1024)).find? (fun e => decide (e.1 = k))
  let evs := (d.evq (k / 1024)).filter (fun e => decide (e.slot = k))
  let d1 := (d.unready k).setEvq (k / 1024) ((d.evq (k / 1024)).filter (fun e => decide (e.slot ≠ k)))
  let d2 := d1.setCtx k (Ctx.free k)
  let d3 := if tgt = home then d2
    else d2.setCtx home { Ctx.free home with
      d := (List.replicate 8 (0 : Word)).set 0 (setFld (setFld 0 63 61 stAway) 47 43 (tgt / 1024)) }
  let d4 := d3.setCtx tgt { x with d := w, miss := [] }
  let d5 := d4.setEvq (tgt / 1024) (d4.evq (tgt / 1024) ++ evs.map (fun e => { e with slot := tgt }))
  match wasReady with
  | some e => d5.setReady (tgt / 1024) (d5.ready (tgt / 1024) ++ [(tgt, e.2)])
  | none => d5

/-- A context becomes FREE (RELEASE, or R289): its queued events are discarded and its home slot is freed. -/
def Dev.freeCtx (d : Dev) (k : Nat) : Dev :=
  let home := (d.ctx k).home
  let d1 := (d.unready k).setEvq (k / 1024) ((d.evq (k / 1024)).filter (fun e => decide (e.slot ≠ k)))
  (d1.setCtx k (Ctx.free k)).setCtx home (Ctx.free home)

/-- The sluice context that ran on a core, or was assigned to it, when the core stopped, was reset or lost its domain
(R264, R265): the running one becomes STOPPED without a switch-out; an assigned one returns to its ready list. -/
def Dev.dropCore (d : Dev) (k : Nat) : Dev :=
  let x := d.cslu k
  let d1 := match x.ctx with
    | some c => (d.unready c).setCtxState c stStopped
    | none => d
  let d2 := match x.assigned with
    | some c => if d1.ctxState c = stReady then d1.makeReady c (d1.ctx c).byEvent else d1
    | none => d1
  (d2.setCslu k CoreSlu.off).setReg (R.cluRuninfo (k / 8) (k % 8)) 0

end Sys2Proof.Machine
end

