-- ==== Sys2Proof/Machine/Ic.lean ====
section
/-! DEFINITION. The interrupt controller: assignment, offers to sluice contexts, taking and end of interrupt
(10 R267 to R273). -/

namespace Sys2Proof.Machine

/-- Whether a core is an enabled target of a source (R270). -/
def Dev.target (d : Dev) (cores : Tab Core) (n k : Nat) : Bool :=
  let cfg := d.srcCfg n
  let set := fld cfg 7 0
  bit (d.reg (R.icTset set (k / 64))) (k % 64) &&
  decide (clusterOwner d.felt.cfg (k / 8) = some (fld cfg 58 54)) && d.part.order.core k &&
  (match (Tab.get Core.off cores k).run with
   | .inReset | .stopped | .retired | .selfTest | .drain => false
   | _ => true) &&
  bit (d.reg (R.cluIrqcore (k / 8) (k % 8))) 63

/-- The next enabled target after a core, in ascending core ID, wrapping (R271). -/
def Dev.nextTarget (d : Dev) (cores : Tab Core) (n last : Nat) : Option Nat :=
  ((List.range 256).map (fun i => (last + 1 + i) % 256)).find? (fun k => d.target cores n k)

/-- Whether a source may be offered: pending, not masked, not active (R268, R269). -/
def Dev.offerable (d : Dev) (n : Nat) : Bool := d.pend n && !(d.masked n) && !(d.active n)

/-- One source's turn (R271, R273): a bound source is offered to its context unless a refused offer waits for the queue
to free an entry; any other is assigned to the next enabled target, unless its assignment still stands. -/
def Dev.icStep (d : Dev) (cores : Tab Core) (n : Nat) : Dev :=
  if !(d.offerable n) then
    { d with ic := { d.ic with asg := Tab.set (fun _ => none) d.ic.asg n none
                               refused := if d.pend n then d.ic.refused else Tab.set (fun _ => false) d.ic.refused n false } }
  else if bit (d.srcCfg n) 31 then
    let d : Dev := { d with ic := { d.ic with asg := Tab.set (fun _ => none) d.ic.asg n none } }
    if Tab.get (fun _ => false) d.ic.refused n then d
    else
      let cfg := d.srcCfg n
      let ev : SluiceEv := { kind := 1, src := n, angle := d.reg R.atbNow, cluster := fld cfg 30 26
                             slot := fld cfg 25 16, pond := fld cfg 58 54 }
      let r := d.sluiceEvent ev
      if r.1 = 0 then (r.2.setIcBit R.icPendset n false).setIcBit R.icActive n true
      else { r.2 with ic := { r.2.ic with refused := Tab.set (fun _ => false) r.2.ic.refused n true } }
  else
    let cur := Tab.get (fun _ => none) d.ic.asg n
    let stands := match cur with
      | some k => d.target cores n k
      | none => false
    if stands then d
    else
      match d.nextTarget cores n (Tab.get (fun _ => 255) d.ic.last n) with
      | some k =>
        { d with ic := { d.ic with
            asg := Tab.set (fun _ => none) d.ic.asg n (some k)
            last := Tab.set (fun _ => 255) d.ic.last n k
            noTgt := Tab.set (fun _ => false) d.ic.noTgt n false } }
      | none =>
        let d1 : Dev := { d with ic := { d.ic with asg := Tab.set (fun _ => none) d.ic.asg n none } }
        if Tab.get (fun _ => false) d.ic.noTgt n then d1
        else
          let d2 := d1.satInc R.icStatus 47 32
          { d2 with ic := { d2.ic with noTgt := Tab.set (fun _ => false) d2.ic.noTgt n true } }

/-- The sources that pend, ascending. -/
def Dev.pendingSrcs (d : Dev) : List Nat :=
  (d.regs.filter (fun e => decide (R.icPendset 0 ≤ e.1) && decide (e.1 < R.icPendset 32))).flatMap (fun e =>
    (setBits e.2.toNat 64).map (fun b => (e.1 - R.icPendset 0) / 8 * 64 + b))

/-- A level source sets its pending bit while its input is high and it is not active (R267). -/
def Dev.resample (d : Dev) : Dev :=
  (d.ic.high.map (·.1)).foldl (fun d n => if bit (d.srcCfg n) 51 && !(d.active n) && d.srcOwned n then d.setIcBit R.icPendset n true else d) d

/-- The interrupt controller and the sluices act on the present state: level sources are sampled, assignments that no longer stand
are made again, bound sources are offered, and every cluster with a ready context dispatches (R267, R271, R273, R279). -/
def Dev.settle (d : Dev) (cores : Tab Core) : Dev :=
  let d0 := d.resample
  let d1 := (d0.pendingSrcs ++ (d0.ic.asg.map (·.1)) ++ (d0.ic.refused.map (·.1))).foldl (fun d n => d.icStep cores n) d0
  (d1.slu.ready.map (·.1)).foldl (fun d c => d.dispatch cores c) d1

/-- Settle the interrupt controller and the sluices of a state; a core whose context, waiting in place, has been started by
its next event runs again (R283). -/
def State.settle (s : State) : State :=
  let d := s.dev.settle s.cores
  { s with
    dev := d
    cores := s.cores.map (fun e => match (d.cslu e.1).ctx with
      | some x => if e.2.run = .waiting ∧ d.ctxState x = stRunning then (e.1, { e.2 with run := .running }) else e
      | none => e) }

/-- The answer of a command: the state, settled. -/
def done (s : State) : Host.Outcome State Fault Refusal := .next s.settle

/-- The answer of a command that raises no event and changes nothing a target depends on. -/
def plain (s : State) : Host.Outcome State Fault Refusal := .next s

/-- A core takes a source (R267): pending clears and active sets. -/
def Dev.takeSrc (d : Dev) (n : Nat) : Dev :=
  let d1 := (d.setIcBit R.icPendset n false).setIcBit R.icActive n true
  { d1 with ic := { d1.ic with asg := Tab.set (fun _ => none) d1.ic.asg n none } }

/-- End of interrupt (R267): active clears; a level source pends again at once if its input is high. An EOI of a source
that is not active is recorded in IC.STATUS. -/
def Dev.eoi (d : Dev) (n : Nat) : Dev :=
  if d.active n then
    let d1 := d.setIcBit R.icActive n false
    if bit (d1.srcCfg n) 51 && Tab.get (fun _ => false) d1.ic.high n then d1.setIcBit R.icPendset n true else d1
  else
    ((d.satInc R.icStatus 63 48).setRf R.icStatus 26 16 n).setRf R.icStatus 15 0 8

/-- A source's input changes (R267): an edge source latches a rising edge; a level source pends while its input is high
and it is not active. -/
def Dev.srcInput (d : Dev) (n : Nat) (level : Bool) : Dev :=
  let was := Tab.get (fun _ => false) d.ic.high n
  let d1 : Dev := { d with ic := { d.ic with high := Tab.set (fun _ => false) d.ic.high n level } }
  if level && !was then d1.edge n else d1

/-- The world of a source. -/
def Dev.srcSecure (d : Dev) (n : Nat) : Bool := bit (d.srcCfg n) 53
/-- Whether a source is fast. -/
def Dev.srcFast (d : Dev) (n : Nat) : Bool := bit (d.srcCfg n) 52

/-- The source a core takes next among those assigned to it (R272): highest PRIO, then lowest number, among sources that
`p` admits. -/
def Dev.nextSrc (d : Dev) (core : Nat) (p : Nat → Bool) : Option Nat :=
  ((d.ic.asg.filter (fun e => decide (e.2 = some core) && d.offerable e.1 && !(bit (d.srcCfg e.1) 31) && p e.1)).map (·.1)).foldl
    (fun acc n => match acc with
      | none => some n
      | some m => if fld (d.srcCfg m) 15 12 < fld (d.srcCfg n) 15 12 then some n else some m) none

end Sys2Proof.Machine
end

