-- ==== Sys2Proof/Machine/Atb.lean ====
section
/-! DEFINITION. The angle time base: its rate, the tracker, angle marks and protected windows (03). -/

namespace Sys2Proof.Machine

/-- The ATB_SOURCE record of a priority: kind, instance, nominal frequency in mHz, selector. -/
def atbSource (cfg : List Rec) (p : Nat) : Option (Nat × Nat × Nat × Nat) :=
  cfg.findSome? fun r => match r with
    | .atbSource q k i n s => if q = p then some (k, i, n, s) else none
    | _ => none

/-- Whether a source is permanently invalid: kind 2 or 3 on a port that no pond owns as an Ethernet port (R69). -/
def Dev.srcDead (d : Dev) (kind inst : Nat) : Bool :=
  (decide (kind = 2) || decide (kind = 3)) && (ethOwner d.felt.cfg inst).isNone

/-- The nominal frequency in µHz (R68): that of the record with the lowest priority number, else 50 Hz. -/
def atbNominal (cfg : List Rec) : Nat :=
  match (List.range 8).findSome? (fun p => atbSource cfg p) with
  | some (_, _, n, _) => n * 1000
  | none => 50000000

/-- The units of 2^-32 angle unit that one tick adds at a frequency in µHz (R65), rounded down. -/
def atbRate (freq : Nat) : Nat := freq * 2 ^ 64 / 10 ^ 15

def Dev.atbState (d : Dev) : Nat := d.rf R.atbStatus 2 0
def Dev.atbSel (d : Dev) : Nat := d.rf R.atbStatus 5 3
def Dev.atbFreq (d : Dev) : Nat := d.rf R.atbFreq 31 0
def Dev.now (d : Dev) : Word := d.reg R.atbNow

/-- The tracker enters a state (R76): UNLOCKED and HOLD follow it, SEL names the source and reads 0 in FREE. -/
def Dev.atbEnter (d : Dev) (st sel : Nat) : Dev :=
  let w := setFld (setFld (d.reg R.atbStatus) 2 0 st) 5 3 (if st = 0 then 0 else sel)
  d.setReg R.atbStatus (setBit (setBit w 7 (decide (st = 0))) 6 (decide (st = 3)))

/-- Set the ATB frequency; it never lies below half that of the followed source (R67). -/
def Dev.atbSetFreq (d : Dev) (f : Int) (src : Nat) : Dev := d.setReg R.atbFreq (word (max f.toNat ((src + 1) / 2)))

/-- `f × (1 + e / n)` with e in units of 2^-32 turn. -/
def corrected (f : Nat) (e : Int) (n : Nat) : Int := (f : Int) + ((f : Int) * e).tdiv ((2 ^ 32 * max n 1 : Nat) : Int)

/-- Whether a phase error exceeds ATB.PJLIMIT, in 0.01° (R77). `n` scales the error. -/
def Dev.overPj (d : Dev) (e : Int) (n : Nat) : Bool := decide (e.natAbs * 36000 > d.rf R.atbPjlimit 15 0 * 2 ^ 32 * n)

/-- The estimate with its change over one source cycle limited to ATB.ROCOF (R75), and whether the limit acted; after invalid
cycles too it is taken over one cycle. (DEDUCED, log entry 241.) -/
def Dev.limited (d : Dev) (old new : Nat) : Nat × Bool :=
  let step := d.rf R.atbRocof 15 0 * 100000 * 1000000 / max new 1
  if old + step < new then (old + step, true) else if new + step < old then (old - step, true) else (new, false)

/-- A mark's registers by scope (0xFF the device, else a cluster) and number. -/
def mkCtl (scope n : Nat) : Nat := if scope = 0xFF then R.atbMkctl n else R.cluMkctl scope n
def mkAngle (scope n : Nat) : Nat := mkCtl scope n + 8
def mkPeriod (scope n : Nat) : Nat := mkCtl scope n + 16
def mkStat (scope n : Nat) : Nat := mkCtl scope n + 24

/-- Angle b is at or after angle a (R63). -/
def atOrAfter (b a : Word) : Bool := decide ((b - a).toNat < 2 ^ 63)

/-- The period clamp of a periodic mark (R80), at MKCTL offset `ctl`. -/
def Dev.markClamp (d : Dev) (ctl : Nat) : Dev :=
  if bit (d.reg ctl) 30 && decide (d.rf (ctl + 16) 31 0 < 0x10000) then
    (d.setRf (ctl + 16) 31 0 0x10000).setRf (ctl + 24) 1 1 1
  else d

/-- An armed periodic mark whose angle is not after the ATB value advances past it without firing and counts the periods it
skips (R81). A once mark is left to fire. -/
def Dev.markSkip (d : Dev) (ctl : Nat) : Dev :=
  if bit (d.reg ctl) 31 && bit (d.reg ctl) 30 && atOrAfter d.now (d.reg (ctl + 8)) then
    let per := max (d.rf (ctl + 16) 31 0) 1
    let n := (d.now - d.reg (ctl + 8)).toNat / per + 1
    let d1 := d.setReg (ctl + 8) (d.reg (ctl + 8) + word (n * per))
    d1.setRf (ctl + 24) 31 16 (satAdd 0xFFFF (d1.rf (ctl + 24) 31 16) n)
  else d

/-- The MKCTL offsets of the armed marks, device marks first, then cluster marks, ascending (R84). -/
def Dev.armed (d : Dev) : List Nat :=
  (d.regs.filter (fun e => bit e.2 31 &&
    ((decide (R.atbMkctl 0 ≤ e.1) && decide (e.1 < R.atbMkctl 64) && decide (e.1 % 32 = 0)) ||
     (decide (0x01000000 ≤ e.1) && decide (e.1 < 0x01200000) && decide (0x8000 ≤ e.1 % 0x10000) &&
      decide (e.1 % 0x10000 < 0x8200) && decide (e.1 % 32 = 0))))).map (·.1)

/-- The scope and number of a mark from its MKCTL offset. -/
def markOf (ctl : Nat) : Nat × Nat :=
  if ctl < 0x01000000 then (0xFF, (ctl - R.atbMkctl 0) / 32) else ((ctl - 0x01000000) / 0x10000, (ctl % 0x10000 - 0x8000) / 32)

/-- Whether an armed mark is at its angle, has not fired in this tick and its comparator runs: the ATB's domain, or the uncore of
a cluster mark (R79). -/
def Dev.markDue (d : Dev) (ctl : Nat) : Bool :=
  let x := markOf ctl
  bit (d.reg ctl) 31 && atOrAfter d.now (d.reg (ctl + 8)) && !(d.atb.fired.contains ctl) && decide (d.domState 1 ≤ 1) &&
  (decide (x.1 = 0xFF) || decide (d.domState (5 + quadOf x.1) ≤ 1))

/-- Whether the action of one mark goes before that of another of the same tick (R84): device marks first, then ascending number. -/
def markBefore (a b : Nat) : Bool :=
  let x := markOf a
  let y := markOf b
  if x.1 = 0xFF ∧ y.1 ≠ 0xFF then true else if x.1 ≠ 0xFF ∧ y.1 = 0xFF then false else decide (x.2 < y.2)

/-- The MKCTL offset of the mark that a control-space offset belongs to. -/
def markReg (off : Nat) : Option Nat :=
  if (R.atbMkctl 0 ≤ off ∧ off < R.atbMkctl 64) ∨
      (0x01000000 ≤ off ∧ off < 0x01200000 ∧ 0x8000 ≤ off % 0x10000 ∧ off % 0x10000 < 0x8200) then some (off / 32 * 32)
  else none

/-- A mark register has been written (R80, R81): the clamp, and the skip of a mark just enabled. -/
def Dev.markWritten (d : Dev) (ctl : Nat) (was : Word) : Dev :=
  let d1 := d.markClamp ctl
  if bit (d1.reg ctl) 31 && !(bit was 31) then d1.markSkip ctl else d1

/-- Load a MARK record or a SET_MARK amendment: the mark is enabled (R80 to R82). -/
def Dev.loadMark (d : Dev) (scope num mode action pond angle period target : Nat) : Dev :=
  let ctl := mkCtl scope num
  let w : Word := setFld (setFld (setFld (setFld (setFld 0 63 32 target) 31 31 1) 30 30 mode) 29 27 action) 26 22 pond
  let d1 := (((d.setReg ctl w).setReg (ctl + 8) (word angle)).setReg (ctl + 16) (word period)).setReg (ctl + 24) 0
  (d1.markClamp ctl).markSkip ctl

/-- The position in a window and whether it is active at an angle (R87). -/
def windowPos (start rep : Nat) (angle : Word) : Nat :=
  ((angle.toNat + 2 ^ 32 - start) % 2 ^ 32) % (if rep = 0 then 2 ^ 32 else rep)

def windowActive (start len rep : Nat) (angle : Word) : Bool := decide (windowPos start rep angle < len)

/-- The windows active now, as a mask (R87). -/
def Dev.windows (d : Dev) : Nat :=
  d.felt.cfg.foldl (fun m r => match r with
    | .window n s l p => if windowActive s l p d.now then m ||| 2 ^ n else m
    | _ => m) 0

/-- The level the protect signal should have (R87): a window is active, or becomes so within 2 µs. (DEDUCED, log entry 26.) -/
def Dev.protectDue (d : Dev) : Bool :=
  let lead := d.atbFreq * 2 ^ 32 * 2000 / 10 ^ 15
  d.felt.cfg.any (fun r => match r with
    | .window _ s l p =>
      let u := (d.now.toNat + 2 ^ 32 - s) % 2 ^ 32
      windowActive s l p d.now || (decide (l ≠ 0) && (decide ((if p = 0 then 2 ^ 32 else p) - windowPos s p d.now ≤ lead) ||
      decide (2 ^ 32 - u ≤ lead)))
    | _ => false)

/-- WINSTAT.ACTIVE follows the ATB value (R87). -/
def Dev.showWindows (d : Dev) : Dev := d.setRf R.atbWinstat 7 0 d.windows

/-- The ATB value is loaded (R74): EVENT.LOAD; a forward load skips periodic marks it passes (R81). -/
def Dev.atbLoad (d : Dev) (v : Word) : Dev :=
  let fwd := angleAfter v d.now
  let d1 := ({ (d.setReg R.atbNow v) with atb := { d.atb with sub := 0 } }).atbEvent 5
  let d2 := if fwd then d1.armed.foldl (fun d c => d.markSkip c) d1 else d1
  d2.showWindows

/-- What the ATB knows of the source of a priority. -/
def Dev.src (d : Dev) (p : Nat) : SrcSt := Tab.get (fun _ => SrcSt.none) d.atb.src p
def Dev.setSrc (d : Dev) (p : Nat) (x : SrcSt) : Dev :=
  { d with atb := { d.atb with src := Tab.set (fun _ => SrcSt.none) d.atb.src p x } }

def Dev.srcValid (d : Dev) (p : Nat) : Bool := bit (d.reg R.atbStatus) (8 + p)
/-- The valid source of lowest priority number. -/
def Dev.bestSrc (d : Dev) : Option Nat := (List.range 8).find? (fun p => d.srcValid p)

def Dev.setSrcValid (d : Dev) (p : Nat) (b : Bool) : Dev :=
  (d.setReg R.atbStatus (setBit (d.reg R.atbStatus) (8 + p) b)).setRf (R.atbSrcstat p) 31 31 b.toNat

/-- Use an estimate (R75): limited against the one before, for a source newly followed against the present frequency. (DEDUCED, log entry 100.) -/
def Dev.atbEstimate (d : Dev) (new old : Nat) : Dev :=
  let l := d.limited old new
  let d1 : Dev := { d with atb := { d.atb with fest := l.1, mean := d.atbFreq, ramp := false } }
  if l.2 then d1.atbEvent 4 else d1

/-- Enter SLEW on a source with the error given (R76, R77). -/
def Dev.atbSlew (d : Dev) (p : Nat) (e : Int) : Dev :=
  let n := d.rf R.atbReacq 15 0
  let d1 : Dev := { d with atb := { d.atb with e0 := e, k := 0, reacq := n } }
  (d1.atbEnter 1 p).atbSetFreq (corrected d1.atb.fest e n) (d1.src p).freq

/-- Enter or stay in LOCKED on a source with the error given (R76). (DEDUCED, log entry 102.) -/
def Dev.atbLock (d : Dev) (p : Nat) (e : Int) : Dev :=
  (d.atbEnter 2 p).atbSetFreq (corrected d.atb.fest e d.atb.reacq) (d.src p).freq

/-- Begin to follow a source (R74, R77): a load for one that carries a cycle count and differs by more than half a turn;
else SLEW, or LOCKED where `pj` allows it for an error within ATB.PJLIMIT. True when the value was loaded. (DEDUCED, log entry 101.) -/
def Dev.atbFollow (d : Dev) (p : Nat) (pj : Bool) : Dev × Bool :=
  let x := d.src p
  let kind := match atbSource d.felt.cfg p with
    | some (k, _) => k
    | none => 0
  let d1 := ((d.atbEstimate x.freq d.atbFreq)).setReg R.atbPherr (wordOfInt (x.e % 4294967296))
  let far := min x.diff.toNat (2 ^ 64 - x.diff.toNat)
  if (kind = 3 ∨ kind = 5) ∧ 2 ^ 31 < far then (((d1.atbLoad (d1.now + x.diff))).atbLock p 0, true)
  else if pj && !(d1.overPj x.e 1) then (d1.atbLock p x.e, false)
  else (d1.atbSlew p x.e, false)

end Sys2Proof.Machine
end

