-- ==== Sys2Proof/Machine/HkAtb.lean ====
section
/-! DEFINITION. What is particular to the registers of marks (03) and of the PIN block (19). -/

namespace Sys2Proof.Machine

/-- MKSTAT as it is read: ARMED equals EN. -/
def Dev.mkstatValue (d : Dev) (off : Nat) (v : Word) : Word := setBit v 0 (bit (d.reg (off - 24)) 31)

/-- What follows a write of a mark register at a control-space offset (R80, R81). -/
def Dev.markPost (d : Dev) (off : Nat) (old : Word) : Dev :=
  let ctl := off / 32 * 32
  if off = ctl then d.markWritten ctl old else if off = ctl + 16 then d.markClamp ctl else d

/-- The level at a pin's land, filtered, after INV. -/
def Dev.pinIn (d : Dev) (n : Nat) : Bool := Tab.get (fun _ => false) d.pins.inp n
/-- The level a pin is driven to. -/
def Dev.pinOut (d : Dev) (n : Nat) : Bool := Tab.get (fun _ => false) d.pins.out n

/-- The filtered level of an input pin changes (R512, R515): an owned input raises its interrupt source. -/
def Dev.pinLevel (d : Dev) (n : Nat) (level : Bool) : Dev :=
  let d1 : Dev := { d with pins := { d.pins with inp := Tab.set (fun _ => false) d.pins.inp n level } }
  match pinOwner d.felt.cfg n with
  | some (_, _, 0) => d1.srcInput (0x300 + n) level
  | _ => d1

/-- Drive an output pin; its land follows. -/
def Dev.drivePin (d : Dev) (n : Nat) (level : Bool) : Dev :=
  ({ d with pins := { d.pins with out := Tab.set (fun _ => false) d.pins.out n level } }).pinLevel n
    (level != bit (d.reg (R.pinCfg n)) 45)

/-- The output pins and board enables among pins 64j to 64j + 63. -/
def Dev.outPins (d : Dev) (j : Nat) : Word :=
  (List.range 64).foldl (fun w b => match pinOwner d.felt.cfg (64 * j + b) with
    | some (_, _, f) => if f ≠ 0 then setBit w b true else w
    | none => w) 0

/-- Act on the set bits of a write of OUTSET or OUTCLR (R514). -/
def Dev.pinBits (d : Dev) (o : Nat) (bits : Word) : Dev :=
  let j := o % 0x100 / 8
  if o < 0x200 then d
  else (setBits bits.toNat 64).foldl (fun d b => d.drivePin (64 * j + b) (decide (o < 0x300))) d

/-- The instruction of the debug port as it acts: one that drives lands acts only while the device is unfelted or in reset; at other
times it acts as BYPASS (R523). -/
def Dev.portIns (d : Dev) : JtagIns :=
  match d.pins.jins with
  | .extest | .clamp | .highz => if d.felt.felted && !d.pins.resetLow then .bypass else d.pins.jins
  | i => i

/-- The filtered level at a pin's land as IN shows it: while EXTEST or CLAMP acts, the cells drive the lands (R523). (DEDUCED, log entry 200.) -/
def Dev.landIn (d : Dev) (n : Nat) : Bool :=
  match d.portIns with
  | .extest | .clamp => (Tab.get (fun _ => false) d.pins.cells n) != bit (d.reg (R.pinCfg n)) 45
  | _ => d.pinIn n

/-- A PIN register as it is read: levels at the lands, driven levels. -/
def Dev.pinValue (d : Dev) (o : Nat) (v : Word) : Word :=
  let j := o % 0x100 / 8
  let show_ (f : Nat → Bool) : Word := (List.range 64).foldl (fun w b => if f (64 * j + b) then setBit w b true else w) 0
  if 0x100 ≤ o ∧ o < 0x120 then show_ d.landIn
  else if (0x200 ≤ o ∧ o < 0x220) ∨ (0x300 ≤ o ∧ o < 0x320) then show_ d.pinOut
  else v

/-- A change of INV inverts the filtered level. -/
def Dev.pinCfgPost (d : Dev) (n : Nat) (old new : Word) : Dev :=
  if bit old 45 = bit new 45 then d else d.pinLevel n (!(d.pinIn n))

end Sys2Proof.Machine
end

