-- ==== Sys2Proof/Machine/Noc.lean ====
section
/-! DEFINITION. The on-chip network: the stops and what they carry (01 R14, R15, R30), dimension-order routing, virtual channels,
credits and arbitration (R17 to R21), and the flit header (R23). -/

namespace Sys2Proof.Machine

/-! ### Stops -/

/-- A stop from its quadrant and local coordinates (R15). -/
def dieStop (q lx ly : Nat) : Nat := 8 * (4 * (q / 2) + ly) + 4 * (q % 2) + lx

/-- The stops by what they carry (R15). -/
def clusterStop (c : Nat) : Nat := dieStop (c / 8) (1 + c % 2) (c % 8 / 2)
def channelStop (ch : Nat) : Nat := dieStop (ch / 4) (3 * (ch % 2)) (3 * (ch % 4 / 2))
def groupStop (g : Nat) : Nat := dieStop (g / 2) 0 (1 + g % 2)
def ioStop (q : Nat) : Nat := dieStop q 3 1
def svcStop (q : Nat) : Nat := dieStop q 3 2

/-- The quadrant of a stop (R15). -/
def stopQuad (stop : Nat) : Nat := stop % 8 / 4 + 2 * (stop / 32)

/-- The agent number of a line port. -/
def portAgent (p : Nat) : Nat := 0x400 + p

/-- The stop that carries an agent and names it on the network (R14): a core by its cluster, a service core, SEC0, the DMA engine and the
endpoint, a line port by its lane group. -/
def agentStop (agent : Nat) : Nat :=
  if 0x400 ≤ agent then groupStop ((agent - 0x400) / 16)
  else if 0x200 ≤ agent then ioStop 0
  else if agent = 0x1FF then ioStop 2 else if 256 ≤ agent then svcStop (agent % 4) else clusterStop (agent / 8)

/-- The stop that carries an instance of a control-space block (R30). -/
def blockStop (b : Blk) (i : Nat) : Nat :=
  match b with
  | .gid | .felt | .sec => ioStop 2
  | .atb | .pin => ioStop 1
  | .pwr | .err => svcStop 0
  | .nvs => ioStop 3
  | .ic | .dma | .pep => ioStop 0
  | .clu | .llc => clusterStop i
  | .dbg => clusterStop (i / 8)
  | .dmc => channelStop i
  | .wpt => groupStop (i / 16)
  | .lane => groupStop (i / 17)

/-! ### The flit header (R23) -/

/-- The fields of a flit header below HCHK (R23). -/
structure FlitHead where
  dst   : Nat
  src   : Nat
  pond  : Nat
  secure : Bool
  qos   : Nat
  otag  : Nat
  txid  : Nat
  opc   : BitVec 7
  stash : Option Nat
  size  : Nat
  pois  : Bool
  stat  : Nat
  addr  : Nat
deriving DecidableEq, Repr

/-- A bit field of a header. -/
def headFld (h : BitVec 120) (hi lo : Nat) : Nat := h.toNat / 2 ^ lo % 2 ^ (hi - lo + 1)

/-- The fields of a header; reserved bits are ignored. -/
def flitHead (h : BitVec 120) : FlitHead :=
  { dst := headFld h 119 114, src := headFld h 113 108, pond := headFld h 107 103, secure := h.getLsbD 102, qos := headFld h 101 100
    otag := headFld h 99 94, txid := headFld h 93 82, opc := BitVec.ofNat 7 (headFld h 81 75)
    stash := if h.getLsbD 74 then some (headFld h 73 66) else none, size := headFld h 65 63, pois := h.getLsbD 56
    stat := headFld h 55 52, addr := headFld h 51 0 }

/-- The header with the given fields; reserved bits are zero. -/
def FlitHead.bits (f : FlitHead) : BitVec 120 :=
  BitVec.ofNat 120 (f.dst % 64 * 2 ^ 114 + f.src % 64 * 2 ^ 108 + f.pond % 32 * 2 ^ 103 + f.secure.toNat * 2 ^ 102 + f.qos % 4 * 2 ^ 100 +
    f.otag % 64 * 2 ^ 94 + f.txid % 4096 * 2 ^ 82 + f.opc.toNat * 2 ^ 75 + f.stash.isSome.toNat * 2 ^ 74 + f.stash.getD 0 % 256 * 2 ^ 66 +
    f.size % 8 * 2 ^ 63 + f.pois.toNat * 2 ^ 56 + f.stat % 16 * 2 ^ 52 + f.addr % 2 ^ 52)

/-- The response to a request flit (R23): to its source, with the request's tags and address. -/
def FlitHead.answer (h : FlitHead) (stat : Nat) : FlitHead :=
  { h with dst := h.src, src := h.dst, opc := Config.respOpc h.opc, stash := none, pois := false, stat := stat }

/-- CRC-8 of a flit's header (R23). -/
def flitCheck (h : BitVec 120) : Nat := (bytesBE 15 h.toNat).foldl (crcMsbByte 8 0x07) 0

/-- A stop finds an uncorrectable payload word and sets POIS (R25). -/
def poisHead (h : BitVec 120) : BitVec 120 := h ||| BitVec.ofNat 120 (2 ^ 56)

/-! ### Routing (R17, R18) -/

/-- The output link that a flit at a stop takes to its destination (R17): along X, then along Y, the shorter way, and increasing where
both ways are four hops. None: it has arrived. -/
def routeLink (stop dst : Nat) : Option Nat :=
  let dx := (dst % 8 + 8 - stop % 8) % 8
  let dy := (dst / 8 + 8 - stop / 8) % 8
  if dx ≠ 0 then some (if dx ≤ 4 then 0 else 1) else if dy ≠ 0 then some (if dy ≤ 4 then 2 else 3) else none

/-- The stop at the end of an output link. -/
def linkEnd (stop link : Nat) : Nat :=
  let x := stop % 8
  let y := stop / 8
  match link with
  | 0 => 8 * y + (x + 1) % 8
  | 1 => 8 * y + (x + 7) % 8
  | 2 => 8 * ((y + 1) % 8) + x
  | _ => 8 * ((y + 7) % 8) + x

/-- The stop and output link that feed an input port of a stop: a flit that comes from -X travels +X. -/
def feeder (stop port : Nat) : Nat × Nat := (linkEnd stop (port ^^^ 1), port)

/-- Whether a link is its ring's dateline, between coordinates 7 and 0 (R18). -/
def dateline (stop link : Nat) : Bool :=
  match link with
  | 0 => decide (stop % 8 = 7)
  | 1 => decide (stop % 8 = 0)
  | 2 => decide (stop / 8 = 7)
  | _ => decide (stop / 8 = 0)

/-- The virtual channel of a flit on an output link (R18): the two channels of its class, the lower on entering a dimension, the upper
from the dateline on. `port` and `vc` are where it came from. (DEDUCED, log entry 237.) -/
def nextVc (stop port vc link qos : Nat) : Nat :=
  let up := dateline stop link || (decide (port < 4) && decide (port / 2 = link / 2) && decide (vc % 2 = 1))
  2 * qos + up.toNat

/-- The credits of a virtual channel of a link (R18): the flits that the far end can hold. -/
def vcCredits : Nat := Config.vcDepth + 1

/-! ### Queues and arbitration (R18, R19, R21) -/

def NocSt.queue (n : NocSt) (k : Nat) : List NocFlit := Tab.get (fun _ => []) n.q k
def NocSt.setQueue (n : NocSt) (k : Nat) (fs : List NocFlit) : NocSt := { n with q := Tab.set (fun _ => []) n.q k fs }
def NocSt.credit (n : NocSt) (link vc : Nat) (up : Bool) : NocSt :=
  let k := link * 8 + vc
  let v := Tab.get (fun _ => 0) n.used k
  { n with used := Tab.set (fun _ => 0) n.used k (if up then v + 1 else v - 1) }

/-- A flit leaves an input buffer: the credit of the link that filled it returns (R18). -/
def NocSt.free (n : NocSt) (stop port vc : Nat) : NocSt :=
  if port < 4 then
    let f := feeder stop port
    n.credit (4 * f.1 + f.2) vc false
  else n

/-- A flit enters a queue at its end (R21). -/
def NocSt.enqueue (n : NocSt) (stop port vc : Nat) (f : NocFlit) : NocSt :=
  let k := (5 * stop + port) * 8 + vc
  n.setQueue k (n.queue k ++ [f])

/-- The flit at the front of each queue of a stop, with its port and channel. -/
def NocSt.fronts (n : NocSt) (stop : Nat) : List (Nat × Nat × NocFlit) :=
  n.q.filterMap (fun e =>
    if e.1 / 40 = stop then (match e.2 with
      | f :: _ => some (e.1 / 8 % 5, e.1 % 8, f)
      | [] => none)
    else none)

/-- The flit of the longest wait. -/
def oldest : List (Nat × Nat × NocFlit) → Option (Nat × Nat × NocFlit)
  | [] => none
  | x :: xs => match oldest xs with
    | some y => some (if x.2.2.wait < y.2.2.wait then y else x)
    | none => some x

/-- The first in a round robin over the input ports, from port `p` on (R19). -/
def fromPort (p : Nat) (c : List (Nat × Nat × NocFlit)) : Option (Nat × Nat × NocFlit) :=
  (List.range 5).findSome? (fun i => c.find? (fun x => decide (x.1 = (p + i) % 5)))

/-- The class of each turn of the weighted round robin of 4, 2 and 1 flits (R19). -/
def wrrTurns : List Nat := [1, 1, 1, 1, 2, 2, 3]

/-- The flit that an arbitration point serves next and its place in the round after (R19): one that has waited 1,024 network cycles
first, the one of the longest wait; else the angle-critical class; else the weighted round of the others. -/
def arbitrate (c : List (Nat × Nat × NocFlit)) (turn : Nat) (port : Nat → Nat) : Option ((Nat × Nat × NocFlit) × Nat) :=
  match oldest (c.filter (fun x => decide (1024 ≤ x.2.2.wait))) with
  | some x => some (x, turn)
  | none =>
    match fromPort (port 0) (c.filter (fun x => decide (x.2.1 / 2 = 0))) with
    | some x => some (x, turn)
    | none => (List.range 7).findSome? (fun i =>
        let t := (turn + i) % 7
        let k := wrrTurns.getD t 1
        (fromPort (port k) (c.filter (fun x => decide (x.2.1 / 2 = k)))).map (fun x => (x, (t + 1) % 7)))

/-- One network cycle of an output link: the flit served takes a credit and enters the link's retry buffer (R18, R19, R24); a link that
is held sends nothing. The answer says whether a flit was sent. -/
def NocSt.serveLink (n : NocSt) (heldIn : Nat → Bool) (stop link : Nat) : NocSt × Bool :=
  let k := 4 * stop + link
  let far := linkEnd stop link
  let c := (n.fronts stop).filter (fun x =>
    let h := flitHead x.2.2.head
    decide (routeLink stop h.dst = some link) &&
    decide (Tab.get (fun _ => 0) n.used (k * 8 + nextVc stop x.1 x.2.1 link h.qos) < vcCredits))
  if heldIn (4 * far + link) then (n, false)
  else
    match arbitrate c (Tab.get (fun _ => 0) n.turn k) (fun cl => Tab.get (fun _ => 0) n.port (4 * k + cl)) with
    | none => (n, false)
    | some ((p, vc, f), t) =>
      let h := flitHead f.head
      let v := nextVc stop p vc link h.qos
      let qk := (5 * stop + p) * 8 + vc
      let n1 := ((n.setQueue qk (n.queue qk).tail).free stop p vc).credit k v true
      ({ n1 with sent := Tab.set (fun _ => []) n1.sent k (Tab.get (fun _ => []) n1.sent k ++ [(v, { f with wait := 0 })])
                 turn := Tab.set (fun _ => 0) n1.turn k t
                 port := Tab.set (fun _ => 0) n1.port (4 * k + h.qos) ((p + 1) % 5) }, true)

/-- The stops where a flit is queued. -/
def NocSt.stops (n : NocSt) : List Nat := (n.q.map (fun e => e.1 / 40)).eraseDups

/-- One network cycle: every output link of every stop with flits serves one (R19), and each flit still at a front has waited one cycle
more. (DEDUCED, log entry 237.) -/
def NocSt.cycle (n : NocSt) (heldIn : Nat → Bool) : NocSt × Bool :=
  let r := n.stops.foldl (fun r st => (List.range 4).foldl (fun r l =>
    let x := r.1.serveLink heldIn st l
    (x.1, r.2 || x.2)) r) (n, false)
  ({ r.1 with q := r.1.q.map (fun e => (e.1, match e.2 with
      | f :: fs => { f with wait := f.wait + 1 } :: fs
      | [] => [])) }, r.2)

/-- Network cycles until no flit can move, at most `fuel`. -/
def NocSt.run (heldIn : Nat → Bool) : Nat → NocSt → NocSt
  | 0, n => n
  | fuel + 1, n =>
    let r := n.cycle heldIn
    if r.2 then NocSt.run heldIn fuel r.1 else n

/-- The flits that stand in queues. -/
def NocSt.count (n : NocSt) : Nat := (n.q.map (fun e => e.2.length)).sum

/-- Whether the link into a stop's port is held as faulty (R24). -/
def Dev.linkHeld (d : Dev) (k : Nat) : Bool := decide (3 ≤ Tab.get (fun _ => 0) d.net k)

/-- The network moves what it can. -/
def Dev.nocRun (d : Dev) : Dev := { d with noc := NocSt.run d.linkHeld d.noc.count d.noc }

/-- A flit that a stop sends enters its local port on the lower channel of its class (R18). -/
def Dev.inject (d : Dev) (stop : Nat) (h : FlitHead) (pay : List Word) : Dev :=
  { d with noc := d.noc.enqueue stop 4 (2 * (h.qos % 4)) { head := h.bits, pay := pay, wait := 0 } }

/-- The ordering tag of an agent's device accesses (R218): `strict` or relaxed; a core's is told apart by its place in its cluster. -/
def deviceTag (agent : Nat) (strict : Bool) : Nat :=
  if agent = 0x1FF then 0
  else if 256 ≤ agent then (if strict then 0 else 1)
  else agent % 8 + (if strict then 0 else 8)

/-- The ordering tag of a block mover's elements for a core, and of a DMA channel's accesses (R218). -/
def moverTag (core : Nat) : Nat := 16 + core % 8
def dmaTag (channel : Nat) : Nat := channel % 64

end Sys2Proof.Machine
end

