-- ==== Sys2Proof/Machine/Coh.lean ====
section
/-! DEFINITION. Homes, directories and the coherence transactions (09 R233 to R256). Lines are named by physical address
divided by 64. Data lives in the one coherent image of `MemSt`; the metadata here says who holds a copy and in which
state, and `dramOld` what DRAM itself holds while a newer value is dirty in some cache. -/

namespace Sys2Proof.Machine

/-- The bytes of the image from an address. -/
def MemSt.bytes (m : MemSt) (pa n : Nat) : List Byte := (List.range n).map (fun i => Tab.get memDefault m.img (pa + i))

/-- Write bytes into the image. (DEDUCED, log entry 74.) -/
def MemSt.put (m : MemSt) (pa : Nat) (bs : List Byte) : MemSt :=
  { m with img := (bs.zip (List.range bs.length)).foldl (fun t e => Tab.set memDefault t (pa + e.2) e.1) m.img }

/-- Whether DRAM's copy of a line is poisoned (R255). -/
def MemSt.dramPois (m : MemSt) (line : Nat) : Bool := Tab.get (fun _ => false) m.poison line

/-- Set or clear the poison of DRAM's copy of a line. -/
def MemSt.setPoison (m : MemSt) (line : Nat) (b : Bool) : MemSt :=
  { m with poison := Tab.set (fun _ => false) m.poison line b }

/-- The older value that DRAM holds of a line that is dirty in some cache; empty: DRAM holds the image's value. -/
def MemSt.old (m : MemSt) (line : Nat) : List Byte := Tab.get (fun _ => []) m.dramOld line

def MemSt.dirE (m : MemSt) (line : Nat) : DirEnt := Tab.get (fun _ => DirEnt.none) m.dir line
def MemSt.setDir (m : MemSt) (line : Nat) (e : DirEnt) : MemSt :=
  { m with dir := Tab.set (fun _ => DirEnt.none) m.dir line e }

/-- A write is about to make a line dirty in a cache: DRAM keeps its value. -/
def MemSt.markDirty (m : MemSt) (line : Nat) : MemSt :=
  if m.old line = [] then { m with dramOld := Tab.set (fun _ => []) m.dramOld line (m.bytes (line * 64) 64) } else m

/-- The line's current value is written to DRAM. -/
def MemSt.clean (m : MemSt) (line : Nat) : MemSt := { m with dramOld := Tab.set (fun _ => []) m.dramOld line [] }

/-- Dirty data of the line is discarded: DRAM's value is current again. -/
def MemSt.discard (m : MemSt) (line : Nat) : MemSt :=
  if m.old line = [] then m else (m.put (line * 64) (m.old line)).clean line


/-- Key of (agent, line) in the tables of private caches. -/
def l2Key (agent line : Nat) : Nat := agent * 2 ^ 46 + line

/-- A Boolean table by (agent, line). -/
def keyed (t : Tab Bool) (agent line : Nat) : Bool := Tab.get (fun _ => false) t (l2Key agent line)
def setKeyed (t : Tab Bool) (agent line : Nat) (b : Bool) : Tab Bool := Tab.set (fun _ => false) t (l2Key agent line) b

/-- The state of a line in an agent's private cache, and whether that copy is poisoned. -/
def MemSt.l2st (m : MemSt) (agent line : Nat) : LineSt := Tab.get (fun _ => LineSt.i) m.l2 (l2Key agent line)
def MemSt.setL2 (m : MemSt) (agent line : Nat) (st : LineSt) : MemSt :=
  { m with l2 := Tab.set (fun _ => LineSt.i) m.l2 (l2Key agent line) st }
def MemSt.setPois (m : MemSt) (agent line : Nat) (b : Bool) : MemSt := { m with pois := setKeyed m.pois agent line b }

/-- A line leaves a private cache, and in the same step its copies in L1I and L1D (R236). -/
def MemSt.dropL2 (m : MemSt) (agent line : Nat) : MemSt :=
  { (m.setL2 agent line .i).setPois agent line false with
    l1i := setKeyed m.l1i agent line false, l1d := setKeyed m.l1d agent line false }

/-- The older value of an LLC copy whose line its owner has changed since; empty: the image's value. -/
def MemSt.llcVal (m : MemSt) (line : Nat) : List Byte := Tab.get (fun _ => []) m.llcOld line
def MemSt.setLlcVal (m : MemSt) (line : Nat) (bs : List Byte) : MemSt := { m with llcOld := Tab.set (fun _ => []) m.llcOld line bs }

/-- Whether the newest data of a line is poisoned (R255): the owner's copy, else the LLC's, else DRAM's. -/
def MemSt.poisoned (m : MemSt) (line : Nat) : Bool :=
  let e := m.dirE line
  match e.owner with
  | some o => if m.l2st o line ≠ .i then keyed m.pois o line
    else (match m.wb.find? (fun w => decide (w.agent = o) && decide (w.line = line)) with
      | some w => w.pois
      | none => e.llcv && e.llcp)
  | none => if e.llcv then e.llcp else m.dramPois line

/-- Whether the copy that an agent reads is poisoned: its own, else the newest. -/
def MemSt.poisonedFor (m : MemSt) (agent line : Nat) : Bool :=
  if m.l2st agent line ≠ .i then keyed m.pois agent line else m.poisoned line

/-- The newest copy of a line becomes poisoned. -/
def MemSt.poisonNewest (m : MemSt) (line : Nat) : MemSt :=
  let e := m.dirE line
  match e.owner with
  | some o => m.setPois o line true
  | none => if e.llcv then m.setDir line { e with llcp := true } else m.setPoison line true

/-- The XOR of R238 over a line's physical address. -/
def homeHash (pa : Nat) : Nat :=
  Nat.xor (Nat.xor (Nat.xor (Nat.xor (pa / 2 ^ 6 % 1024) (pa / 2 ^ 16 % 1024)) (pa / 2 ^ 26 % 1024)) (pa / 2 ^ 36 % 1024))
    (pa / 2 ^ 46 % 64)

/-- The slices of a mask that are present. -/
def sliceSet (o : Order) (mask : Nat) : List Nat := (List.range 32).filter (fun s => o.cluster s && mask.testBit s)

/-- The home slice of a DRAM address (R238, R239). -/
def Dev.home (d : Dev) (pa : Nat) : Nat :=
  let mask := match rangeOf d.felt.cfg pa with
    | some (p, _) => if pondColour d.felt.cfg p = 0 then 2 ^ 32 - 1 else pondColour d.felt.cfg p
    | none => 2 ^ 32 - 1
  let sl := sliceSet d.part.order mask
  sl.getD (homeHash pa % sl.length) 0

/-- Bit of a service core or SEC0 in the engine mask. -/
def engineBit (agent : Nat) : Nat := if agent = 0x1FF then 4 else agent % 4

/-- Every private cache that a directory entry counts as a holder, in ascending agent number; in mask mode, the caches of
the marked quadrants that hold the line (R241, R242: only they answer with anything). -/
def MemSt.holders (m : MemSt) (line : Nat) : List Nat :=
  let e := m.dirE line
  let eng := (List.range 5).filter (fun b => e.emask.testBit b) |>.map (fun b => if b = 4 then 0x1FF else 0x100 + b)
  let app := if e.mask then (List.range 256).filter (fun k => e.qmask.testBit (k / 64) && decide (m.l2st k line ≠ .i))
             else e.ptrs
  match e.owner with
  | some o => [o]
  | none => app ++ eng

/-- Record a sharer (R240). -/
def DirEnt.share (e : DirEnt) (agent : Nat) : DirEnt :=
  if 256 ≤ agent then { e with emask := e.emask ||| 2 ^ engineBit agent }
  else if e.mask then { e with qmask := e.qmask ||| 2 ^ (agent / 64) }
  else if e.ptrs.contains agent then e
  else if e.ptrs.length < 3 then { e with ptrs := e.ptrs ++ [agent] }
  else { e with ptrs := [], mask := true
                qmask := (agent :: e.ptrs).foldl (fun q k => q ||| 2 ^ (k / 64)) 0 }

/-- The entry with no private copy: uncached, back in pointer mode. -/
def DirEnt.uncached (e : DirEnt) : DirEnt :=
  { e with owner := Option.none, ptrs := [], mask := false, qmask := 0, emask := 0 }

/-- The entry owned by one cache. -/
def DirEnt.own (e : DirEnt) (agent : Nat) : DirEnt := { e.uncached with owner := some agent }

/-- Drop one holder from an entry in pointer mode, or an owner (R249, R240: a clean drop in mask mode changes nothing). -/
def DirEnt.drop (e : DirEnt) (agent : Nat) : DirEnt :=
  if e.owner = some agent then { e with owner := Option.none }
  else if 256 ≤ agent then
    { e with emask := if e.emask.testBit (engineBit agent) then e.emask - 2 ^ engineBit agent else e.emask }
  else if e.mask then e else { e with ptrs := e.ptrs.filter (fun k => decide (k ≠ agent)) }

/-- Kill the operand-buffer entries of an agent that cover any byte of a line (R158); a read made early of such bytes is made
again by its instruction (R159). -/
def State.killOps (s : State) (agent line : Nat) : State :=
  if isSvc agent then s
  else s.modCore agent (fun c => { c with
    opbuf := c.opbuf.filter (fun e => decide (e.pa + e.size ≤ line * 64) || decide (line * 64 + 64 ≤ e.pa))
    early := c.early.filter (fun e => decide (e.pa + e.bytes.length ≤ line * 64) || decide (line * 64 + 64 ≤ e.pa)) })

/-- A holder invalidates a line: its copies in L2 and L1, its operand-buffer entries (R158, R236). -/
def State.inval (s : State) (agent line : Nat) : State :=
  (s.onMem (fun m => m.dropL2 agent line)).killOps agent line

/-- The trackers in use at a slice (R247), in LLC.TRKSTAT. -/
def Dev.trk (d : Dev) (slice : Nat) (io : Bool) (up : Bool) : Dev :=
  let r := R.llcTrkstat slice
  let (hi, lo, hh, hl) := if io then (41, 32, 57, 48) else (9, 0, 25, 16)
  let v := d.rf r hi lo
  let v' := if up then v + 1 else v - 1
  let d1 := d.setRf r hi lo v'
  if d1.rf r hh hl < v' then d1.setRf r hh hl v' else d1

/-- Whether a pool has a tracker for a request of a class: the last 32 core and last 16 I/O trackers serve the
angle-critical class only (R247). (DEDUCED, log entry 60.) -/
def Dev.trkFree (d : Dev) (slice : Nat) (io : Bool) (qos : Nat) : Bool :=
  let v := if io then d.rf (R.llcTrkstat slice) 41 32 else d.rf (R.llcTrkstat slice) 9 0
  decide (v < if io then (if qos = 0 then 256 else 240) else (if qos = 0 then 512 else 480))

/-! ### Sets and replacement (R233, R243, R255) -/

/-- Ways that repairs have taken from a structure of a unit's instance (R255, R485). -/
def Dev.waysOff (d : Dev) (unit inst array : Nat) : Nat := Tab.get (fun _ => 0) d.err.ways ((unit * 2 ^ 16 + inst) * 2 ^ 16 + array)

/-- Ways of a structure in use: none when more than half are gone. -/
def Dev.waysLeft (d : Dev) (unit inst array ways : Nat) : Nat := max 1 (ways - d.waysOff unit inst array)

/-- Sets and ways of a private cache (R233): an application core's L2, an engine's L1. The set of a line is its number modulo the
sets. (DESIGN CHOICE, log entry 247.) -/
def Dev.l2Geom (d : Dev) (agent : Nat) : Nat × Nat :=
  if isSvc agent then (64, d.waysLeft 13 (agent % 4) 10 8) else (1024, d.waysLeft 2 agent 4 8)

/-- The lines of an agent that share a set with a line, in a table by (agent, line). -/
def sameSet {α : Type} (t : Tab α) (agent line sets : Nat) : List Nat :=
  (t.filter (fun e => decide (e.1 / 2 ^ 46 = agent) && decide (e.1 % 2 ^ 46 % sets = line % sets) && decide (e.1 % 2 ^ 46 ≠ line))).map
    (fun e => e.1 % 2 ^ 46)

/-- The line of a full set that is replaced: the spec gives no policy, so it is a free value. -/
def State.pickVictim (s : State) (l : List Nat) : Option Nat × State :=
  (l[Config.victim s.free % l.length]?, { s with free := s.free + 1 })

/-- The LLC gives up its copy of a line: a dirty one is written to DRAM (R246). -/
def MemSt.llcDrop (m : MemSt) (line : Nat) : MemSt :=
  let e := m.dirE line
  let m1 := m.setDir line { e with llcv := false, llcd := false, llcp := false }
  let m2 := if e.llcv && e.llcd then
      (if m.llcVal line = [] then m1.clean line else { m1 with dramOld := Tab.set (fun _ => []) m1.dramOld line (m.llcVal line) }).setPoison line e.llcp
    else m1
  m2.setLlcVal line []

/-- Room for a line in its home slice's set (R233): 4,096 sets of 16 ways; a full one gives up a line. -/
def State.llcRoom (s : State) (line : Nat) : State :=
  if (s.mem.dirE line).llcv then s
  else
    let h := s.dev.home (line * 64)
    let l := (s.mem.dir.filter (fun e => e.2.llcv && decide (e.1 % 4096 = line % 4096) && decide (s.dev.home (e.1 * 64) = h))).map (·.1)
    if l.length < s.dev.waysLeft 3 h 7 16 then s
    else
      let r := s.pickVictim l
      match r.1 with
      | some v => r.2.onMem (fun m => m.llcDrop v)
      | none => r.2

/-- The LLC takes the newest data of a line, dirty (R246). -/
def State.llcTake (s : State) (line : Nat) (pois : Bool) : State :=
  (s.llcRoom line).onMem (fun m => (m.setDir line { m.dirE line with llcv := true, llcd := true, llcp := pois }).setLlcVal line [])

/-- Whether the directory has an entry for a line (R240). -/
def DirEnt.held (e : DirEnt) : Bool := e.owner.isSome || !e.ptrs.isEmpty || e.mask || decide (e.emask ≠ 0)

/-- A directory entry is evicted (R243): its holders invalidate, M data goes to the LLC. -/
def State.dirEvict (s : State) (line : Nat) : State :=
  let hs := s.mem.holders line
  let dirty := hs.any (fun k => decide (s.mem.l2st k line = .m))
  let p := s.mem.poisoned line
  let s1 := hs.foldl (fun s k => s.inval k line) s
  let s2 := s1.onMem (fun m => m.setDir line (m.dirE line).uncached)
  (if dirty then s2.llcTake line p else s2).onDev (fun d => d.wrapAdd (R.llcDirevict (d.home (line * 64))) 63 0 1)

/-- The entry of the longest standing among some lines. -/
def MemSt.firstAlloc (m : MemSt) : List Nat → Option Nat
  | [] => none
  | x :: xs => match m.firstAlloc xs with
    | some y => some (if (m.dirE y).alloc < (m.dirE x).alloc then y else x)
    | none => some x

/-- A new directory entry is needed (R243): 8,192 sets of 16 ways; a full set evicts its least recently allocated entry. An entry on
which a transaction is in progress is not evicted. (DEDUCED, log entry 71.) -/
def State.dirRoom (s : State) (line : Nat) : State :=
  if (s.mem.dirE line).held then s
  else
    let h := s.dev.home (line * 64)
    let l := (s.mem.dir.filter (fun e => e.2.held && decide (e.1 % 8192 = line % 8192) && decide (e.1 ≠ line) &&
      decide (s.dev.home (e.1 * 64) = h))).map (·.1)
    let s1 := if l.length < s.dev.waysLeft 3 h 8 16 then s
      else match s.mem.firstAlloc (l.filter (fun x => (s.mem.dirE x).busy.isNone)) with
        | some v => s.dirEvict v
        | none => s
    s1.onMem (fun m => { (m.setDir line { m.dirE line with alloc := m.allocs }) with allocs := m.allocs + 1 })

/-! ### Evictions (R236, R248, R249) -/

/-- Change an eviction that waits in a writeback buffer. -/
def MemSt.modWb (m : MemSt) (agent line : Nat) (f : WbEnt → WbEnt) : MemSt :=
  { m with wb := m.wb.map (fun w => if w.agent = agent ∧ w.line = line then f w else w) }

/-- A line leaves a private cache for its writeback buffer. -/
def State.evictOut (s : State) (agent line : Nat) : State :=
  let st := s.mem.l2st agent line
  let p := keyed s.mem.pois agent line
  (s.inval agent line).onMem (fun m => { m with wb := m.wb ++
    [{ agent := agent, line := line, st := st, snooped := false, held := false, acked := false, pois := p }] })

/-- An eviction's effect at the home (R249): the recorded owner's data is absorbed; any other cache's is dropped. -/
def State.absorb (s : State) (w : WbEnt) : State :=
  let e := s.mem.dirE w.line
  if e.owner = some w.agent then
    let s1 := s.onMem (fun m => m.setDir w.line { (m.dirE w.line).uncached with busy := e.busy, waitq := e.waitq })
    if w.st = .m ∧ !w.snooped then s1.llcTake w.line w.pois else s1
  else if w.st = .m then s
  else s.onMem (fun m => m.setDir w.line ((m.dirE w.line).drop w.agent))

/-- Whether a home's eviction inbox has room (R248): 64 entries, taken by evictions that wait for a snoop's answer. -/
def State.inboxRoom (s : State) (line : Nat) : Bool :=
  decide ((s.mem.wb.filter (fun w => w.held && !w.acked && decide (s.dev.home (w.line * 64) = s.dev.home (line * 64)))).length < 64)

/-- Whether a snoop to an agent, itself or through its quadrant's ring, is outstanding on a line. -/
def DirEnt.snooping (e : DirEnt) (agent : Nat) : Bool :=
  match e.busy with
  | .some t => t.out.contains agent || (decide (agent < 256) && t.out.contains (0x300 + agent / 64))
  | .none => false

/-- An eviction reaches its home (R248, R249): while a snoop to the cache is outstanding it is held in the inbox, or waits at the
slice's input while the inbox is full; else it is absorbed or dropped, and acknowledged. -/
def State.evictHome (s : State) (agent line : Nat) : State :=
  match s.mem.wb.find? (fun w => decide (w.agent = agent) && decide (w.line = line)) with
  | none => s
  | some w =>
    if w.acked || w.held then s
    else if (s.mem.dirE line).snooping agent then
      if s.inboxRoom line then s.onMem (fun m => m.modWb agent line (fun w => { w with held := true })) else s
    else (s.absorb w).onMem (fun m => m.modWb agent line (fun w => { w with acked := true }))

/-- A private cache frees the writeback entries of a line that its home has acknowledged. -/
def MemSt.freeWb (m : MemSt) (agent line : Nat) : MemSt :=
  { m with wb := m.wb.filter (fun w => !(decide (w.agent = agent) && decide (w.line = line) && w.acked)) }

/-- Room in a private cache for a line that it does not hold (R233, R236): a full set evicts a line, which reaches its home at once;
for a stash (`clean`) one that it does not hold in M (R251). (DEDUCED, log entry 248.) -/
def State.l2Room (s : State) (agent line : Nat) (clean : Bool) : State :=
  if s.mem.l2st agent line ≠ .i then s
  else
    let g := s.dev.l2Geom agent
    let l := sameSet s.mem.l2 agent line g.1
    if l.length < g.2 then s
    else
      let r := s.pickVictim (if clean then l.filter (fun x => decide (s.mem.l2st agent x ≠ .m)) else l)
      match r.1 with
      | some v => ((r.2.evictOut agent v).evictHome agent v).onMem (fun m => m.freeWb agent v)
      | none => r.2

/-- Whether an L2 can take a stash of a line without evicting one held in M (R251). -/
def State.stashRoom (s : State) (agent line : Nat) : Bool :=
  let g := s.dev.l2Geom agent
  let l := sameSet s.mem.l2 agent line g.1
  decide (s.mem.l2st agent line ≠ .i) || decide (l.length < g.2) || l.any (fun x => decide (s.mem.l2st agent x ≠ .m))

/-- A core's L1I or L1D takes a line from its L2 (R233, R237): 256 sets of 4 ways, or 128 of 8; instruction lines go to L1D in
shared-port mode (R175). A line that L1D gives up kills the operand-buffer entries on it (R158). An engine's L1 is its private cache. -/
def State.l1Fill (s : State) (agent line : Nat) (instr : Bool) : State :=
  if isSvc agent ∨ s.mem.l2st agent line = .i then s
  else if instr && !(bit (s.core agent).b0.ms 8) then
    if keyed s.mem.l1i agent line then s
    else
      let l := sameSet s.mem.l1i agent line 256
      let r := if l.length < s.dev.waysLeft 1 agent 1 4 then (none, s) else s.pickVictim l
      let l1 := match r.1 with
        | some v => setKeyed r.2.mem.l1i agent v false
        | none => r.2.mem.l1i
      r.2.onMem (fun m => { m with l1i := setKeyed l1 agent line true })
  else if keyed s.mem.l1d agent line then s
  else
    let l := sameSet s.mem.l1d agent line 128
    let r := if l.length < s.dev.waysLeft 1 agent 2 8 then (none, s) else s.pickVictim l
    match r.1 with
    | some v => (r.2.onMem (fun m => { m with l1d := setKeyed (setKeyed m.l1d agent v false) agent line true })).killOps agent v
    | none => r.2.onMem (fun m => { m with l1d := setKeyed m.l1d agent line true })

/-! ### Transactions -/

/-- A grant: the requester holds the line in a state, with the poison of the data it got. -/
def State.grant (s : State) (line : Nat) (t : Txn) (st : LineSt) (e : DirEnt) : State :=
  let s1 := s.l2Room t.agent line false
  let keep := decide (t.kind = .promote)
  s1.onMem (fun m => ((m.setDir line { e with alloc := (m.dirE line).alloc }).setL2 t.agent line st).setPois t.agent line
    (if keep then keyed m.pois t.agent line else t.pois))

/-- Effects of a completed write transaction at the home (R246, R250, R251): the bytes merge into the LLC, or at DRAM when
the line was held by an owner without dirty data, is not in the LLC and no stash was declined; a whole line clears poison, a partial
write keeps it; an accepted stash is held in M by its target; a write-through issuer that held the line keeps it in S. -/
def State.finishPut (s : State) (line : Nat) (t : Txn) : State :=
  let e := s.mem.dirE line
  let toLlc := e.llcv || t.dirty || !t.owned || t.decl
  let whole := decide (t.data.length = 64)
  let m0 := if toLlc ∨ t.stash ≠ none then s.mem.markDirty line else s.mem
  let s1 : State := { s with mem := m0.put (line * 64 + t.off) t.data }
  match t.stash with
  | some k =>
    let s2 := (s1.l2Room k line true).onMem (fun m => (m.setDir line { (e.own k) with llcv := false, llcd := false, llcp := false, alloc := (m.dirE line).alloc }).setLlcVal line [])
    (s2.onMem (fun m => (m.setL2 k line .m).setPois k line false)).killOps k line
  | none =>
    let s2 := s1.onMem (fun m => m.setDir line { e.uncached with alloc := (m.dirE line).alloc })
    let p := t.pois && !whole
    let s3 := if toLlc then s2.llcTake line p else s2.onMem (fun m => m.setPoison line p)
    match t.keep with
    | some k =>
      if s3.mem.l2st k line = .i then s3
      else s3.onMem (fun m => ((m.setDir line ((m.dirE line).share k)).setL2 k line .s).setPois k line p)
    | none => s3

/-- A transaction whose snoops are all answered completes: the requester is granted its state (R244, R246), its tracker is
freed. -/
def State.finishTxn (s : State) (line : Nat) (t : Txn) : State :=
  let s0 := if t.dirty ∧ t.kind = .getCopy then s.llcTake line t.pois else s
  let e := s0.mem.dirE line
  let s1 : State := match t.kind with
    | .getCopy =>
      if !e.held && !t.wt then s0.grant line t .e (e.own t.agent) else s0.grant line t .s (e.share t.agent)
    | .getOwn | .promote =>
      -- dirty data goes to the requester, not to the home (R244 ProbeTake, R246 item 1)
      s0.grant line t (if t.dirty then .m else .e) (e.own t.agent)
    | .peek => s0
    | .put => s0.finishPut line t
  s1.onDev (fun d => d.trk (d.home (line * 64)) t.io false)

/-- A holder's answer to a snoop (R244, R249): a copy in its cache, or else an entry of its writeback buffer that no snoop has used
yet, supplies the data; the holder moves to S, invalidates, or keeps its state. A snoop that reaches its caches kills the
operand-buffer entries on the line (R158). -/
def State.snoopOne (s : State) (line agent : Nat) (kind : TxnKind) (keep : Option Nat) : State × Bool :=
  let st := s.mem.l2st agent line
  let wbHit := s.mem.wb.any (fun w => decide (w.agent = agent) && decide (w.line = line) && !w.snooped && decide (w.st = .m))
  let dirty := decide (st = .m) || (decide (st = .i) && wbHit)
  let s0 := (s.onMem (fun m => { m with wb := m.wb.map (fun w =>
    if w.agent = agent ∧ w.line = line then { w with snooped := true, acked := w.acked || w.held } else w) })).killOps agent line
  match kind with
  | .getCopy =>
    if st = .i then (s0.onMem (fun m => m.setDir line ((m.dirE line).drop agent)), dirty)
    else
      (s0.onMem (fun m => (m.setL2 agent line .s).setDir line (({ m.dirE line with owner := none } : DirEnt).share agent)), dirty)
  | .peek => (s0, false)
  | .getOwn | .promote => ((s0.inval agent line).onMem (fun m => m.setDir line ((m.dirE line).drop agent)), dirty)
  | .put =>
    if keep = some agent then (s0, dirty)
    else ((s0.inval agent line).onMem (fun m => m.setDir line ((m.dirE line).drop agent)), dirty)

/-- The presence filter of a station of a snoop ring (R242): whether one of its eight L2s, or their writeback buffers, holds a line. -/
def MemSt.station (m : MemSt) (cluster line : Nat) : Bool :=
  (List.range 8).any (fun i => decide (m.l2st (8 * cluster + i) line ≠ .i)) ||
  m.wb.any (fun w => decide (w.agent / 8 = cluster) && decide (w.line = line))

/-- The cores of a quadrant that a ring snoop reaches: those of the stations whose filter reports the line (R242). -/
def MemSt.ringCores (m : MemSt) (quad line : Nat) : List Nat :=
  ((List.range 8).map (fun i => 8 * quad + i)).filter (fun c => m.station c line) |>.flatMap (fun c => (List.range 8).map (fun i => 8 * c + i))

/-- The cores a snoop target stands for: a quadrant's ring (R241), or one private cache. -/
def MemSt.reached (m : MemSt) (target line : Nat) : List Nat :=
  if 0x300 ≤ target ∧ target < 0x304 then m.ringCores (target - 0x300) line else [target]

/-- The answer of a snoop target: a ring returns one combined answer, dirty if any of its L2s held the line in M (R242). -/
def State.snoopAnswer (s : State) (line target : Nat) (kind : TxnKind) (keep : Option Nat) : State × Bool :=
  (s.mem.reached target line).foldl (fun r k =>
    let x := r.1.snoopOne line k kind keep
    (x.1, r.2 || x.2)) (s, false)

/-- Every snoop target of a directory entry (R241): the owner; or the pointed cores, or in mask mode the rings of the marked
quadrants; and the engines. -/
def DirEnt.targets (e : DirEnt) : List Nat :=
  let eng := (List.range 5).filter (fun b => e.emask.testBit b) |>.map (fun b => if b = 4 then 0x1FF else 0x100 + b)
  match e.owner with
  | .some o => [o]
  | .none => (if e.mask then ((List.range 4).filter (fun q => e.qmask.testBit q)).map (fun q => 0x300 + q) else e.ptrs) ++ eng

/-- The targets a transaction must snoop (R241): every other holder for a write or for ownership, the owner for a copy or
a peek. -/
def MemSt.snoopSet (m : MemSt) (line : Nat) (t : Txn) : List Nat :=
  match t.kind with
  | .getCopy | .peek => match (m.dirE line).owner with
    | some o => if o = t.agent ∧ t.kind = .getCopy then [] else [o]
    | none => []
  | .getOwn | .promote => (m.dirE line).targets.filter (fun k => decide (k ≠ t.agent))
  | .put => (m.dirE line).targets

/-- Start a transaction on a line that is not busy; with no snoop to wait for it completes at once. A Promote whose
requester no longer holds the line in S is a GetOwn (R244). -/
def State.startTxn (s : State) (line : Nat) (t : Txn) : State :=
  let t0 := if t.kind = .promote ∧ s.mem.l2st t.agent line ≠ .s then { t with kind := .getOwn } else t
  let s1 := if t0.kind = .peek ∨ (t0.kind = .put ∧ t0.stash = none) then s else s.dirRoom line
  let out := s1.mem.snoopSet line t0
  let t1 := { t0 with out := out, owned := (s1.mem.dirE line).owner.isSome, pois := s1.mem.poisoned line }
  if out = [] then s1.finishTxn line t1
  else s1.onMem (fun m => m.setDir line { m.dirE line with busy := some t1 })

/-- The waiting requests of a line, served in order while the line is free (R245). -/
def State.drainWait : Nat → State → Nat → State
  | 0, s, _ => s
  | n + 1, s, line =>
    match (s.mem.dirE line).busy, (s.mem.dirE line).waitq with
    | none, t :: ts =>
      State.drainWait n (State.startTxn (s.onMem (fun m => m.setDir line { m.dirE line with waitq := ts })) line t) line
    | _, _ => s

/-- The requests that wait for a line are served once it is free (R245). -/
def State.serveWaiting (s : State) (line : Nat) : State := s.drainWait (s.mem.dirE line).waitq.length line

/-- A request is given a tracker (R247): it starts, or waits while the line is busy (R245). -/
def State.accept (s : State) (line : Nat) (t : Txn) : State :=
  let s1 := s.onDev (fun d => d.trk (d.home (line * 64)) t.io true)
  match (s.mem.dirE line).busy with
  | some _ => s1.onMem (fun m => m.setDir line { m.dirE line with waitq := (m.dirE line).waitq ++ [t] })
  | none => s1.startTxn line t

/-- The requests that wait at a slice's input (R22, R247). -/
def MemSt.input (m : MemSt) (slice : Nat) : List (Nat × Txn) := Tab.get (fun _ => []) m.inq slice
def MemSt.setInput (m : MemSt) (slice : Nat) (q : List (Nat × Txn)) : MemSt := { m with inq := Tab.set (fun _ => []) m.inq slice q }

/-- Requests that wait at a slice's input are accepted in order as trackers are free for them. -/
def State.letIn : Nat → State → Nat → State
  | 0, s, _ => s
  | n + 1, s, slice =>
    match (s.mem.input slice).find? (fun x => s.dev.trkFree slice x.2.io x.2.qos) with
    | none => s
    | some x =>
      State.letIn n ((s.onMem (fun m => m.setInput slice ((m.input slice).erase x))).accept x.1 x.2) slice

/-- The evictions that wait at a home's input are offered again (R248). -/
def State.retryEvicts (s : State) (slice : Nat) : State :=
  (s.mem.wb.filter (fun w => !w.held && !w.acked && decide (s.dev.home (w.line * 64) = slice))).foldl
    (fun s w => s.evictHome w.agent w.line) s

/-- What follows a step of a line at its home: its waiting requests, then those that wait at the slice's input. -/
def State.homeNext (s : State) (line : Nat) : State :=
  let s1 := s.serveWaiting line
  let sl := s1.dev.home (line * 64)
  let s2 := if s1.mem.wb = [] then s1 else s1.retryEvicts sl
  if s2.mem.inq = [] then s2 else s2.letIn (s2.mem.input sl).length sl

/-- An eviction reaches its home, and what waited for it goes on. -/
def State.evictArrive (s : State) (agent line : Nat) : State := (s.evictHome agent line).homeNext line

/-- Record an answered snoop; the last answer completes the transaction, and the next waiting request starts (R245). -/
def State.answer (s : State) (line agent : Nat) : State :=
  match (s.mem.dirE line).busy with
  | none => s
  | some t =>
    if t.out.contains agent then
      let (s1, dirty) := s.snoopAnswer line agent t.kind t.keep
      let t1 := { t with out := t.out.filter (fun k => decide (k ≠ agent)), dirty := t.dirty || dirty }
      if t1.out = [] then
        (State.finishTxn (s1.onMem (fun m => m.setDir line { m.dirE line with busy := none })) line t1).homeNext line
      else s1.onMem (fun m => m.setDir line { m.dirE line with busy := some t1 })
    else s

/-- Whether a core keeps a line after an atomic (R254). -/
def Core.holds (c : Core) (line : Nat) : Bool := c.hold.any (fun h => decide (h.1 = line))

/-- The interval for which cores keep a line after an atomic is over for a snoop target (R254): an access that completes in one step
has waited for it. (DEDUCED, log entry 59.) -/
def State.holdOver (s : State) (target line : Nat) : State :=
  (s.mem.reached target line).foldl (fun s k => if (s.core k).holds line then
    s.modCore k (fun c => { c with hold := c.hold.filter (fun h => decide (h.1 ≠ line)) }) else s) s

/-- Answer every outstanding snoop of a line, in order. -/
def State.answerAll (s : State) (line : Nat) : State :=
  match (s.mem.dirE line).busy with
  | none => s
  | some t => t.out.foldl (fun s k => (s.holdOver k line).answer line k) s

/-- Everything a line is busy with, and every request that waits for it, completes. -/
def State.quietLine (s : State) (line : Nat) : State :=
  (List.range ((s.mem.dirE line).waitq.length + 1)).foldl (fun s _ => s.answerAll line) s

/-- A request's header (R20, R23): from the requester's stop to its home's. -/
def Dev.requestHead (d : Dev) (agent line qos txid : Nat) (rq : Req) (t : Txn) : BitVec 120 :=
  FlitHead.bits
    { dst := clusterStop (d.home (line * 64)), src := agentStop agent, pond := rq.pond, secure := rq.secure, qos := qos, otag := 0
      txid := txid, opc := 0, stash := t.stash, size := 6, pois := false, stat := 0, addr := line * 64 + t.off }

/-- A request arrives at its home (R22, R247), with its class and a transaction ID of its source stop: with no tracker free it is
counted in LLC.WAITn and waits at the slice's input. -/
def State.request (s : State) (agent line qos : Nat) (rq : Req) (t : Txn) : State :=
  let st := agentStop agent
  let n := Tab.get (fun _ => 0) s.mem.txid st
  let s1 := s.onMem (fun m => { m with txid := Tab.set (fun _ => 0) m.txid st ((n + 1) % 4096) })
  let t1 := { t with qos := qos, head := s.dev.requestHead agent line qos n rq t }
  let sl := s.dev.home (line * 64)
  if s.dev.trkFree sl t.io qos then s1.accept line t1
  else (s1.onMem (fun m => m.setInput sl (m.input sl ++ [(line, t1)]))).onDev (fun d => d.wrapAdd (R.llcWait sl qos) 63 0 1)

/-- A request that is served in one step finds no tracker: it is counted, and the transactions in progress at its slice complete until
one is free (R247). -/
def State.needTracker (s : State) (line qos : Nat) (io : Bool) : State :=
  let sl := s.dev.home (line * 64)
  if s.dev.trkFree sl io qos then s
  else
    ((s.mem.dir.filter (fun e => e.2.busy.isSome && decide (s.dev.home (e.1 * 64) = sl))).map (·.1)).foldl
      (fun s l => if s.dev.trkFree sl io qos then s else s.quietLine l) (s.onDev (fun d => d.wrapAdd (R.llcWait sl qos) 63 0 1))

/-- Serve a request to its end: what the line is busy with completes first, then every request that waits, then this one,
every snoop answered. -/
def State.serve (s : State) (line : Nat) (t : Txn) : State :=
  let s1 := (s.needTracker line t.qos t.io).quietLine line
  (((s1.onDev (fun d => d.trk (d.home (line * 64)) t.io true)).startTxn line t).answerAll line).homeNext line

/-- A transaction without data. -/
def Txn.plain (k : TxnKind) (agent : Nat) : Txn :=
  { kind := k, agent := agent, out := [], dirty := false, owned := false, off := 0, data := [], stash := none, keep := none
    io := false, pois := false, decl := false, wt := false, qos := 1, head := 0 }

/-- A write transaction. -/
def Txn.write (off : Nat) (data : List Byte) (stash keep : Option Nat) (io : Bool) : Txn :=
  { Txn.plain .put 0 with off := off, data := data, stash := stash, keep := keep, io := io }

/-- The sluice counts an L2 miss of a core's running context by home slice (R287). -/
def State.noteMiss (s : State) (agent line : Nat) : State :=
  if (s.dev.cslu agent).ctx = none then s
  else s.onDev (fun d =>
    let x := d.cslu agent
    let h := d.home (line * 64)
    d.setCslu agent { x with miss := Tab.set (fun _ => 0) x.miss h (Tab.get (fun _ => 0) x.miss h + 1) })

/-- The QoS class of a core's accesses (R20): that of the running sluice context, else control; a service core's and SEC0's are
control. -/
def Dev.coreQos (d : Dev) (k : Nat) : Nat :=
  match (d.cslu k).ctx with
  | some x => fld (d.cd x 0) 57 56
  | none => 1

/-- A core's read of a cacheable line: a hit, or GetCopy to the home (R236, R244), granted in S only for write-through (R234).
(DEDUCED, log entry 70.) -/
def State.fillRead (s : State) (agent line : Nat) (wt : Bool) : State :=
  if s.mem.l2st agent line = .i then (s.noteMiss agent line).serve line { Txn.plain .getCopy agent with wt := wt, qos := s.dev.coreQos agent } else s

/-- A core obtains a write-back line with the right to write, without writing it. -/
def State.ownLine (s : State) (agent line : Nat) : State :=
  match s.mem.l2st agent line with
  | .i => (s.noteMiss agent line).serve line { Txn.plain .getOwn agent with qos := s.dev.coreQos agent }
  | .s => s.serve line { Txn.plain .promote agent with qos := s.dev.coreQos agent }
  | _ => s

/-- The LLC's copy keeps its value when its line's owner first changes the line. -/
def MemSt.keepLlc (m : MemSt) (line : Nat) : MemSt :=
  if (m.dirE line).llcv ∧ m.llcVal line = [] then m.setLlcVal line (m.bytes (line * 64) 64) else m

/-- A core obtains a write-back line with the right to write and dirties it (R236); the line enters its L1D, and its copy in L1I
becomes invalid (R237). -/
def State.fillWrite (s : State) (agent line : Nat) : State :=
  let s1 := s.ownLine agent line
  (s1.onMem (fun m => let m1 := (if m.l2st agent line = .m then m else m.keepLlc line).markDirty line
                      { m1.setL2 agent line .m with l1i := setKeyed m1.l1i agent line false })).l1Fill agent line false

/-- The lines an access touches. -/
def linesOf (pa n : Nat) : List Nat := (List.range ((pa + n - 1) / 64 - pa / 64 + 1)).map (fun i => pa / 64 + i)

/-- A coherent write by an agent without a cache, or a write-through, non-cacheable or device write of a core (R250). A
write of a whole line may carry a stash target. -/
def State.putBytes (s : State) (pa : Nat) (bs : List Byte) (stash keep : Option Nat) (io : Bool) (qos : Nat) : State :=
  (linesOf pa bs.length).foldl (fun s l =>
    let lo := max pa (l * 64)
    let hi := min (pa + bs.length) (l * 64 + 64)
    s.serve l { Txn.write (lo - l * 64) ((bs.drop (lo - pa)).take (hi - lo)) stash keep io with qos := qos }) s

/-- Write a line's dirty data back to DRAM: every private copy and the LLC's stay, clean (CWB, R256). -/
def State.cwb (s : State) (line : Nat) : State :=
  let s1 := s.quietLine line
  let hs := s1.mem.holders line
  let p := s1.mem.poisoned line
  s1.onMem (fun m =>
    if m.old line = [] then m
    else
      let m1 := hs.foldl (fun m k => if m.l2st k line = .m then m.setL2 k line .e else m) m
      ((m1.setDir line { m1.dirE line with llcd := false }).clean line).setPoison line p)

/-- Invalidate every copy of a line; dirty data has been written back (CWBI) or is discarded (CINV) (R256). Discarded data takes its
poison with it (R255). -/
def State.invalAll (s : State) (line : Nat) (discard : Bool) : State :=
  let s1 := s.quietLine line
  let p := s1.mem.poisoned line
  let s2 := (s1.mem.holders line).foldl (fun s k => s.inval k line) s1
  s2.onMem (fun m =>
    let dirty := decide (m.old line ≠ [])
    let m1 := (m.setDir line { (m.dirE line).uncached with llcv := false, llcd := false, llcp := false }).setLlcVal line []
    if discard then m1.discard line else if dirty then (m1.clean line).setPoison line p else m1)

/-- CWBI (R256). -/
def State.cwbi (s : State) (line : Nat) : State := s.invalAll line false
/-- CINV (R256). -/
def State.cinv (s : State) (line : Nat) : State := s.invalAll line true

/-- Every dirty line of an agent's caches is written back and its copies invalidated (R230, R56, R255). -/
def State.flushAgent (s : State) (agent : Nat) : State :=
  let ls := (s.mem.l2.filter (fun e => decide (l2Key agent 0 ≤ e.1) && decide (e.1 < l2Key (agent + 1) 0))).map
    (fun e => e.1 - l2Key agent 0)
  ls.foldl (fun s l =>
    let s0 := s.quietLine l
    let wasM := decide (s0.mem.l2st agent l = .m)
    let p := keyed s0.mem.pois agent l
    let s1 := s0.inval agent l
    s1.onMem (fun m =>
      let m1 := if wasM then ((m.clean l).setPoison l p).setLlcVal l [] else m
      let e := (m1.dirE l).drop agent
      m1.setDir l (if wasM then { e with llcv := false, llcd := false, llcp := false } else e))) s

end Sys2Proof.Machine
end

