-- ==== Sys2Proof/Machine/HkClu.lean ====
section
/-! DEFINITION. What is particular to the registers of the CLU, IC and DBG blocks (10; 15 R431 to R434). -/

namespace Sys2Proof.Machine

/-- The slot CTXDATA and CTXCMD address, and the slot that holds its context (R274). -/
def Dev.selSlot (d : Dev) (c : Nat) : Nat := slotKey c (d.rf (R.cluCtxsel c) 9 0)
/-- DEDUCED, log entry 86. -/
def Dev.selHolder (d : Dev) (c : Nat) : Nat := d.holder (d.selSlot c)

/-- A CLU register as it is read: descriptor windows (R274) and the rescue area (R264). -/
def Dev.cluValue (d : Dev) (rq : Req) (c o : Nat) (v : Word) : Word :=
  if 0x80 ≤ o ∧ o < 0xC0 then
    let k := d.selHolder c
    let w := d.cd k ((o - 0x80) / 8)
    if rq.secure then w else if o = 0x80 then setBit w 59 false else if d.ctxSecure k then 0 else w
  else if 0x800 ≤ o ∧ o < 0x1000 ∧ o % 0x100 ≠ 0 ∧ !rq.secure ∧ bit (d.reg (R.cluRescue c ((o - 0x800) / 0x100) 0)) 9 then 0
  else v

/-- The checks of a descriptor write (R274). -/
def Dev.ctxWriteOk (d : Dev) (rq : Req) (c j : Nat) (new : Word) : Bool :=
  let k := d.selHolder c
  (rq.secure || !(d.ctxSecure k)) && (rq.secure || decide (j ≠ 0) || !(bit new 59)) &&
  (decide (j ≠ 1 ∧ j ≠ 2) || decide (d.ctxState k ≠ stRunning)) &&
  (decide (j ≠ 0) || decide (fld new 55 52 ≤ d.rf (R.cluPriomax (k / 1024)) 3 0))

/-- Every core counts a context's groups as not held (R285). (DEDUCED, log entry 83.) -/
def Dev.dropHolds (d : Dev) (home : Nat) : Dev :=
  { d with slu := { d.slu with core := d.slu.core.map (fun e => (e.1, { e.2 with
      segHold := if e.2.segHold = some home then none else e.2.segHold
      strHold := if e.2.strHold = some home then none else e.2.strHold })) } }

/-- Store a descriptor word; a write of D2 drops the holds of its groups (R285). -/
def Dev.ctxStore (d : Dev) (c j : Nat) (v : Word) : Dev :=
  let k := d.selHolder c
  let d1 := d.setCd k j v
  if j = 2 then d1.dropHolds (d.ctx k).home else d1

/-- A command of CTXCMD completes with a status of R9; a refused one is counted (R275, CLU.STATUS). -/
def Dev.ctxDone (d : Dev) (c st name : Nat) : Dev :=
  let d1 := (d.setRf (R.cluCtxcmd c) 63 63 0).setReg (R.cluCtxcmdstat c) (setFld (setFld 0 30 16 name) 3 0 st)
  if st = 2 ∨ st = 3 then d1.satInc (R.cluStatus c) 63 48 else d1

/-- What follows a write of a CLU register: an unlisted command is refused (R525), a request to reset a core stops its fetch
until its stores have drained (R231, R265), clearing RCAUSE.VALID clears OVW (R264). -/
def State.cluPost (s : State) (c o : Nat) (act : Word) : State :=
  if o = 0x48 ∧ bit act 63 then
    let n := s.dev.rf (R.cluCtxcmd c) 3 0
    s.onDev (fun d => if 1 ≤ n ∧ n ≤ 6 then d.setRf (R.cluCtxcmdstat c) 63 63 1 else d.ctxDone c 3 0)
  else if 0x440 ≤ o ∧ o < 0x480 ∧ bit act 63 then
    let k := c * 8 + (o - 0x440) / 8
    match (s.core k).run with
    | .inReset | .retired | .selfTest => s.onDev (fun d => d.setRf (R.cluCorectl c (k % 8)) 63 63 0)
    | _ => s.modCore k (fun x => { x with run := .drain })
  else if 0x800 ≤ o ∧ o < 0x1000 ∧ o % 0x100 = 0 ∧ bit act 63 then
    s.onDev (fun d => d.setRf (R.cluRescue c ((o - 0x800) / 0x100) 0) 62 62 0)
  else s

/-- An IC register as it is read: PENDCLR and MASKCLR show the state kept at PENDSET and MASKSET. -/
def Dev.icValue (d : Dev) (o : Nat) (v : Word) : Word :=
  if 0x200 ≤ o ∧ o < 0x300 then d.reg (R.icPendset ((o - 0x200) / 8))
  else if 0x400 ≤ o ∧ o < 0x500 then d.reg (R.icMaskset ((o - 0x400) / 8))
  else v

/-- A write of SRCCFG names a target set of the source's pond, and never binds a fast source (R270, R273). -/
def Dev.srccfgOk (d : Dev) (n : Nat) (new : Word) : Bool :=
  decide (fld new 7 0 / 8 = fld (d.srcCfg n) 58 54) && !(bit new 31 && d.srcFast n)

/-- A write of IC.EOI (R267): of the source's owner only. -/
def Dev.eoiWrite (d : Dev) (rq : Req) (n : Nat) : Dev :=
  if ownerAdmits ((irqOwner d.felt.cfg n).map (fun x => (x.1, x.2.1))) rq then d.eoi n
  else ((d.satInc R.icStatus 63 48).setRf R.icStatus 26 16 n).setRf R.icStatus 15 0 8

/-- Set the pending bits of sources; an unowned source never pends (R266, R269). -/
def Dev.pendSet (d : Dev) (srcs : List Nat) : Dev :=
  srcs.foldl (fun d n => if d.srcOwned n then d.setIcBit R.icPendset n true else d) d

/-- Clear pending bits; a level source whose input is high and that is not active pends again (R269). -/
def Dev.pendClr (d : Dev) (srcs : List Nat) : Dev :=
  srcs.foldl (fun d n =>
    let d0 := d.setIcBit R.icPendset n false
    let d1 : Dev := { d0 with ic := { d0.ic with refused := Tab.set (fun _ => false) d0.ic.refused n false } }
    if bit (d1.srcCfg n) 51 && Tab.get (fun _ => false) d1.ic.high n && !(d1.active n) && d1.srcOwned n then
      d1.setIcBit R.icPendset n true
    else d1) d

/-- Act on the set bits of a write to one of the IC's bit arrays (R268, R269). -/
def Dev.icBits (d : Dev) (o : Nat) (bits : Word) : Dev :=
  let j := o % 0x100 / 8
  let srcs := (setBits bits.toNat 64).map (fun k => j * 64 + k)
  if o < 0x200 then d.pendSet srcs
  else if o < 0x300 then d.pendClr srcs
  else if o < 0x400 then d.setReg (R.icMaskset j) (d.reg (R.icMaskset j) ||| bits)
  else if o < 0x500 then d.setReg (R.icMaskset j) (d.reg (R.icMaskset j) &&& ~~~bits)
  else if o < 0x600 then d.setReg (R.icOvr j) (d.reg (R.icOvr j) &&& ~~~bits)
  else d

/-- A debug enable in force for the world a core runs (R431, R432): `i` 0 non-invasive, 1 invasive. -/
def State.dbgEnable (s : State) (k i : Nat) (secure : Bool) : Bool :=
  match clusterOwner s.dev.felt.cfg (k / 8) with
  | some p => bit (s.dev.reg (R.secDbgen p)) (16 + i + if secure then 2 else 0)
  | none => false

/-- The register of a halted core that DBG.RSEL names (R433). -/
def State.rselRead (s : State) (k : Nat) : Word :=
  let n := s.dev.rf (R.dbgRsel k) 11 0
  let c := s.core k
  let b := c.bank
  if n = 0xF00 then b.a else if n = 0xF01 then b.x else if n = 0xF02 then b.y else if n = 0xF03 then b.sp
  else if n = 0xF04 then b.pc else if n = 0xF05 then b.fl
  else match sysReg n false c.inB1 with
    | some _ => s.readSys k n
    | none => 0

/-- Write it; a register that is not there or only read keeps its value. -/
def State.rselWrite (s : State) (k : Nat) (v : Word) : State :=
  let n := s.dev.rf (R.dbgRsel k) 11 0
  s.modCore k (fun c =>
    if n = 0xF00 then c.modBank (fun b => { b with a := v }) else if n = 0xF01 then c.modBank (fun b => { b with x := v })
    else if n = 0xF02 then c.modBank (fun b => { b with y := v }) else if n = 0xF03 then c.modBank (fun b => { b with sp := v })
    else if n = 0xF04 then c.modBank (fun b => { b with pc := v &&& ~~~1#64 })
    else if n = 0xF05 then c.modBank (fun b => { b with fl := v &&& flMask })
    else match sysReg n false c.inB1 with
      | some (_, _, true) => c.writeSys false n v
      | _ => c)

/-- A DBG register as it is read (R431, R434). -/
def State.dbgValue (s : State) (k o : Nat) (v : Word) : Word :=
  if o = 8 then (if s.dbgEnable k 0 (bit v 62) then v else setFld v 7 0 0)
  else if o = 0x10 then (if s.dbgEnable k 0 (s.core k).secure then (s.core k).lastPc else 0)
  else if o = 0x208 then (if (s.core k).run = .halted then s.rselRead k else 0)
  else v

/-- Which DBG writes are refused (R433, DBG.RDATA): a breakpoint of the secure world by the normal world, the register of a
core that is not halted. -/
def State.dbgWriteOk (s : State) (rq : Req) (k o : Nat) (old new : Word) : Bool :=
  if 0x100 ≤ o ∧ o < 0x140 then rq.secure || (!(bit old 62) && !(bit new 62))
  else if o = 0x208 then decide ((s.core k).run = .halted)
  else true

/-- A core halts for the debugger (R434): STAT shows its world and the reason. -/
def State.halt (s : State) (k reason : Nat) : State :=
  let sec := (s.core k).secure
  (s.modCore k (fun c => { c with run := .halted, haltReq := false, stepHalt := false })).onDev (fun d =>
    (d.setReg (R.dbgStat k) (setFld (setBit (setBit 0 63 true) 62 sec) 7 0 reason)).setRf (R.dbgCtl k) 63 63 0)

/-- A halted core runs again (R434). -/
def State.resumeCore (s : State) (k : Nat) (step : Bool) : State :=
  if (s.core k).run = .halted then
    (s.modCore k (fun c => { c with run := .running, stepHalt := step })).onDev (fun d => d.setReg (R.dbgStat k) 0)
  else s

/-- What follows a write of a DBG register (R434). -/
def State.dbgPost (s : State) (k o : Nat) (new act : Word) : State :=
  if o = 0 then
    let s1 := if bit act 63 then s.modCore k (fun c => { c with haltReq := true }) else s
    if bit act 62 then (s1.resumeCore k (bit new 61)).onDev (fun d => d.setRf (R.dbgCtl k) 62 62 0) else s1
  else if o = 0x208 then s.rselWrite k new
  else s

/-- Halted cores of a world whose invasive enable is 0 resume at once (R434). -/
def State.dbgRelease (s : State) : State :=
  s.cores.foldl (fun s e =>
    if e.2.run = .halted ∧ !(s.dbgEnable e.1 1 e.2.secure) then s.resumeCore e.1 false else s) s

end Sys2Proof.Machine
end

