-- ==== Sys2Proof/Machine/HkPwr.lean ====
section
/-! DEFINITION. What is particular to the registers of the PWR block: who may request which state of a domain, the order of
the checks, ranges (16 R449, R452, R475, R476; 15 R440). -/

namespace Sys2Proof.Machine

/-- A domain's state as DOMCTL shows it (R450). -/
def Dev.setDomState (d : Dev) (dom st : Nat) : Dev := d.setRf (R.pwrDomctl dom) 55 53 st

/-- Whether a requester is admitted to a domain before holds apply (R449). -/
def Dev.domAdmits (d : Dev) (rq : Req) (dom : Nat) : Bool :=
  rq.dev ||
  (if dom = 2 ∨ dom = 4 ∨ (9 ≤ dom ∧ dom ≤ 20) then rq.secure
   else if 21 ≤ dom then rq.secure || decide (clusterOwner d.felt.cfg (dom - 21) = some rq.pond)
   else false)

/-- Whether a DRAM range uses a channel of a group (R449). -/
def rangesUse (cfg : List Rec) (dom : Nat) : Bool :=
  (dramRanges cfg).any (fun r => (List.range 4).any (fun i => r.2.1.testBit (4 * (dom - 9) + i)))

/-- Whether a domain permits a state that a request may name (R449). -/
def Dev.domPermits (d : Dev) (dom st : Nat) : Bool :=
  if st = 0 then true
  else if dom = 2 then decide (st = 1) || decide (st = 3)
  else if dom = 3 then decide (st = 1)
  else if 5 ≤ dom ∧ dom ≤ 8 then decide (st = 1)
  else if 9 ≤ dom ∧ dom ≤ 12 then decide (st ≤ 2) || (decide (st = 3) && !(rangesUse d.felt.cfg dom))
  else if dom = 4 ∨ (13 ≤ dom ∧ dom ≤ 20) then decide (st = 3)
  else decide (21 ≤ dom) && decide (st ≤ 3)

/-- Whether a hold admits a request for a state (R440): it may take the domain below its lowest permitted state only for the
holder. -/
def Dev.holdAdmits (d : Dev) (rq : Req) (dom st : Nat) : Bool :=
  match holdOf d.felt.cfg dom with
  | none => true
  | some (low, sec, p) =>
    decide (st ≤ low) || rq.dev ||
    (if sec then decide (p ≠ 0xFF) && rq.secure && decide (rq.pond = p)
     else if p = 0xFF then rq.secure else decide (rq.pond = p))

/-- The lowest state a hold permits: 3 without a hold (R441). -/
def Dev.domLowest (d : Dev) (dom : Nat) : Nat :=
  match holdOf d.felt.cfg dom with
  | some (low, _, _) => low
  | none => 3

/-- A domain request completes (R452): its status, DOMDONE with an edge on source 0x141. (DEDUCED, log entry 190.) -/
def Dev.domComplete (d : Dev) (dom st : Nat) : Dev :=
  let d1 := (d.setRf (R.pwrDomctl dom) 63 63 0).setRf (R.pwrDomctl dom) 59 56 st
  let d2 := if st = 2 ∨ st = 3 then d1.satInc R.pwrStatus 63 48 else d1
  if bit (d2.reg R.pwrEvent) 0 then d2.edge 0x141 else d2.pwrEvent 0

/-- A transition under way in a domain. -/
def Dev.transOf (d : Dev) (dom : Nat) : Option Trans := Tab.find d.pwr.trans dom

/-- Begin a transition; DOMCTL shows it unless it still waits for its cluster to become idle. -/
def Dev.beginTrans (d : Dev) (dom : Nat) (t : Trans) : Dev :=
  let d1 := { d with pwr := { d.pwr with trans := Tab.ins d.pwr.trans dom t } }
  if t.idle then d1 else d1.setDomState dom (if d.domState dom < t.tgt then 4 else 5)

/-- A request for a state passed its checks (R452): it is done at once, waits for its cluster, or moves the domain. -/
def Dev.domRequest (d : Dev) (dom st : Nat) : Dev :=
  let cur := d.domState dom
  if st = cur then d.domComplete dom 0
  else d.beginTrans dom { tgt := st, req := true, exit := false, idle := decide (21 ≤ dom) && decide (cur < st) }

/-- What a GO in DOMCTL leads to (R452), the checks in order. `was`: a request was already in progress. -/
def Dev.domGo (d : Dev) (rq : Req) (dom : Nat) (was : Bool) : Dev :=
  let st := d.rf (R.pwrDomctl dom) 62 60
  if !(d.domAdmits rq dom) || !(d.domPermits dom st) || !(d.holdAdmits rq dom st) then d.domComplete dom 3
  else if was || (d.transOf dom).isSome then
    (if was then ((d.setRf (R.pwrDomctl dom) 59 56 2).satInc R.pwrStatus 63 48) else d.domComplete dom 2)
  else d.domRequest dom st

/-- The highest protection threshold of the part (R476). -/
def Dev.tlimMax (d : Dev) : Nat := if d.part.order = .axj256cx then 95 else 105

/-- The checks of a PWR write but the felt bound of CAP: none refuses it. (DEDUCED, log entry 191.) -/
def Dev.pwrPre (d : Dev) (rq : Req) (o : Nat) (old new : Word) : Option Word :=
  let ok (c : Bool) : Option Word := if c then some new else none
  if o = 0x30 then ok (decide (60 ≤ fld new 7 0) && decide (fld new 7 0 ≤ d.tlimMax))
  else if o = 0x38 then ok (decide (200 ≤ fld new 47 32) && decide (fld new 47 32 ≤ 1600) && decide (400 ≤ fld new 31 16) &&
    decide (fld new 31 16 ≤ 1600) && decide (700 ≤ fld new 15 0) && decide (fld new 15 0 ≤ 900))
  else if o = 0x58 then ok (decide (1 ≤ fld new 31 16) && decide (fld new 31 16 ≤ 60000) && decide (1 ≤ fld new 7 4))
  else if 0x100 ≤ o ∧ o < 0x2A8 then
    let dom := (o - 0x100) / 8
    if !(d.domAdmits rq dom) then (if bit new 63 ∧ !(bit old 63) then some (setBit old 63 true) else none)
    else if 3 < fld new 62 60 ∨ 3 < fld new 42 40 ∨ fld new 11 9 = 0 ∨ 3 < fld new 11 9 then none
    else if bit old 63 then some (setFld new 62 60 (fld old 62 60))
    else some new
  else some new

/-- What follows a write of a PWR register: an unlisted command is refused (R525), a GO in DOMCTL is judged (R452). -/
def Dev.pwrPost (d : Dev) (rq : Req) (o : Nat) (old act : Word) : Dev :=
  if o = 0x10 ∧ bit act 63 then
    let n := d.rf R.pwrDevcmd 1 0
    if n = 1 ∨ n = 2 then d else (d.setRf R.pwrDevcmd 63 63 0).setRf R.pwrDevcmd 11 8 3
  else if 0x100 ≤ o ∧ o < 0x2A8 ∧ bit act 63 then d.domGo rq ((o - 0x100) / 8) (bit old 63)
  else d

end Sys2Proof.Machine
end

