-- ==== Sys2Proof/Machine/HkSec.lean ====
section
/-! DEFINITION. What is particular to the registers of the SEC block: the debug enables in force, the command registers, the
key bindings, the fuses as KEYSTAT shows them (15 R432, R436 to R439, R527). -/

namespace Sys2Proof.Machine

/-- SEC.DBGENp.EFF = (FELT AND NOT LOW) OR UNL (R432). -/
def dbgenEff (w : Word) : Nat := ((fld w 3 0) &&& (15 - fld w 7 4)) ||| fld w 11 8

/-- Compute EFF of a pond again. -/
def Dev.dbgenShow (d : Dev) (p : Nat) : Dev := d.setRf (R.secDbgen p) 19 16 (dbgenEff (d.reg (R.secDbgen p)))

/-- A SEC register as it is read: KEYSTAT shows the fuses. -/
def State.secValue (s : State) (o : Nat) (v : Word) : Word :=
  if o = 0x10 then
    (List.range 4).foldl (fun w k =>
      setBit (setBit w k (s.fuses.keys.getD k none).isSome) (4 + k) (s.fuses.revoked.getD k false)) 0
  else v

/-- The checks of a SEC write: a key slot is bound to a domain under a secure hold only (R527). -/
def Dev.secWriteOk (d : Dev) (o : Nat) (new : Word) : Bool :=
  if 0xC00 ≤ o ∧ o < 0xC80 ∧ bit new 63 then
    (match holdOf d.felt.cfg (fld new 5 0) with
     | some (_, sec, _) => sec
     | none => false)
  else true

/-- What follows a write of a SEC register: an unlisted command completes with REFUSED_POLICY (R525); LOW bits change the
enables in force (R432), and halted cores resume where theirs fell (R434). -/
def State.secPost (s : State) (o : Nat) (act : Word) : State :=
  if o = 0x18 ∧ bit act 63 then
    s.onDev (fun d =>
      let n := d.rf R.secKeycmd 1 0
      if n = 1 ∨ n = 2 then d else (d.setRf R.secKeycmd 63 63 0).setRf R.secKeycmd 11 8 3)
  else if o = 0x320 ∧ bit act 63 then
    s.onDev (fun d =>
      let n := d.rf R.secDbucmd 3 0
      if 1 ≤ n ∧ n ≤ 3 then d else (d.setRf R.secDbucmd 63 63 0).setRf R.secDbustat 3 0 3)
  else if 0x200 ≤ o ∧ o < 0x300 then
    (s.onDev (fun d => d.dbgenShow ((o - 0x200) / 8))).dbgRelease
  else s

end Sys2Proof.Machine
end

