-- ==== Sys2Proof/Machine/WeirNet.lean ====
section
/-! DEFINITION. Weir packets as words, the link layer's transmitter, and routing (12 R319 to R328, R352 to R357). -/

namespace Sys2Proof.Machine

/-- Words of a list of bytes, the last padded with zeros. -/
def packWords (bs : List Byte) : List Word :=
  (List.range ((bs.length + 7) / 8)).map (fun i => word (ofBytesLE ((bs.drop (8 * i)).take 8)))

end Sys2Proof.Machine

namespace Sys2Proof

open Sys2Proof.Machine

/-- Header bytes 0 to 13 of a packet (R327). -/
def Pkt.head (p : Pkt) : List Byte :=
  [BitVec.ofNat 8 (p.ver * 16 + p.typ % 16), BitVec.ofNat 8 (p.qos * 64 + p.secure.toNat * 32 + p.pond % 32)] ++
  bytesBE 2 p.dst ++ bytesBE 2 p.src ++ [BitVec.ofNat 8 (p.hops * 16 + p.flags % 16), BitVec.ofNat 8 p.len] ++
  bytesBE 2 p.seq ++ bytesBE 4 p.stamp

/-- The header check (R328): CRC-16, polynomial 0x1021, initial value 0xFFFF. -/
def Pkt.hcrcOf (p : Pkt) : Nat := p.head.foldl (crcMsbByte 16 0x1021) 0xFFFF

/-- The payload bytes. -/
def Pkt.bytes (p : Pkt) : List Byte := p.words.flatMap (fun w => bytesLE 8 w.toNat)

/-- The payload check (R328): the CRC-32 of R39. -/
def Pkt.crcOf (p : Pkt) : Nat := if p.words = [] then 0 else crc32 p.bytes

/-- The packet with both checks computed. -/
def Pkt.seal (p : Pkt) : Pkt := { p with hcrc := p.hcrcOf, crc := p.crcOf }

/-- The link words a packet occupies (R320). -/
def Pkt.span (p : Pkt) : Nat := if p.len = 0 then 2 else 3 + p.len

/-- A packet as link words (R320, R327). -/
def Pkt.toWords (p : Pkt) : List Word :=
  packWords (p.head ++ bytesBE 2 p.hcrc) ++ p.words ++ (if p.len = 0 then [] else [word p.crc])

/-- Whether a packet travels in the response pool (R323). -/
def Pkt.isResp (p : Pkt) : Bool := decide (p.typ = 4) || decide (p.typ = 5)

/-- The virtual channel and pool of a packet: 2 * class + pool. -/
def Pkt.vc (p : Pkt) : Nat := 2 * (p.qos % 4) + p.isResp.toNat

end Sys2Proof

namespace Sys2Proof.Machine

/-- The packet that link words hold. -/
def pktOf (ws : List Word) : Pkt :=
  let b := (ws.take 2).flatMap (fun w => bytesLE 8 w.toNat)
  let at1 (i : Nat) : Nat := (b.getD i 0).toNat
  let be (i n : Nat) : Nat := ofBytesBE ((b.drop i).take n)
  let len := at1 7
  { ver := at1 0 / 16, typ := at1 0 % 16, qos := at1 1 / 64, secure := (at1 1).testBit 5, pond := at1 1 % 32, dst := be 2 2
    src := be 4 2, hops := at1 6 / 16, flags := at1 6 % 16, len := len, seq := be 8 2, stamp := be 10 4, hcrc := be 14 2
    words := (ws.drop 2).take len, crc := if len = 0 then 0 else fld (ws.getD (2 + len) 0) 31 0 }

/-- A link. -/
def Dev.link (d : Dev) (p : Nat) : Link := Tab.get (fun _ => Link.off) d.weir.links p
def Dev.setLink (d : Dev) (p : Nat) (l : Link) : Dev :=
  { d with weir := { d.weir with links := Tab.set (fun _ => Link.off) d.weir.links p l } }
def Dev.modLink (d : Dev) (p : Nat) (f : Link → Link) : Dev := d.setLink p (f (d.link p))

/-- Whether a port is the first port of a weir port present on the part (R318). -/
def Dev.weirPort (d : Dev) (p : Nat) : Bool :=
  d.part.order.port p && (match portRec d.felt.cfg p with
    | some (f, _, 1, _, _) => decide (f = p)
    | _ => false)

/-- The first ports of the weir ports, ascending. -/
def Dev.weirPorts (d : Dev) : List Nat := (List.range 128).filter (fun p => d.weirPort p)

/-- The width of a port. -/
def Dev.portWidth (d : Dev) (p : Nat) : Nat :=
  match portRec d.felt.cfg p with
  | some (_, w, _) => w
  | none => 0

/-- WPT.STATUS.STATE: 1 down, 2 training, 3 discovery, 4 up, 5 refused. -/
def Dev.linkState (d : Dev) (p : Nat) : Nat := if d.weirPort p then d.rf (R.wptStatus p) 2 0 else 0
def Dev.linkUp (d : Dev) (p : Nat) : Bool := decide (d.linkState p = 4)
def Dev.linkVer (d : Dev) (p : Nat) : Nat := d.rf (R.wptStatus p) 31 28

/-- WX.STATUS.STATE and ADDR. -/
def Dev.wxState (d : Dev) : Nat := d.rf R.wxStatus 3 0
def Dev.wxAddr (d : Dev) : Nat := d.rf R.wxStatus 63 48
/-- Whether the device is a member of a fabric, draining included. -/
def Dev.member (d : Dev) : Bool := decide (2 ≤ d.wxState) && decide (d.wxState ≤ 4)
/-- The highest version implemented: 2 on stepping B0, 1 on A0. -/
def Dev.vmaxW (d : Dev) : Nat := if d.part.b0 then 2 else 1

/-- The ROLE record: role, priority, minimum peer version (R345); zeros without one. -/
def roleOf (cfg : List Rec) : Nat × Nat × Nat :=
  (cfg.findSome? fun r => match r with
    | .role r p m => some (r, p, m)
    | _ => none).getD (0, 0, 0)

/-- The oldest packet of a channel and pool that waits, when its credit suffices (R323). -/
def Link.canSend (l : Link) (k : Nat) : Option TxPkt :=
  match l.q.find? (fun t => decide (t.pk.vc = k)) with
  | some t => if t.need ≤ l.credit.getD k 0 then some t else none
  | none => none

/-- The pool a class sends from, the pools alternating (R324). -/
def Link.classPick (l : Link) (c : Nat) : Option Nat :=
  let a := 2 * c + (l.alt.getD c false).toNat
  let b := 2 * c + (!(l.alt.getD c false)).toNat
  if (l.canSend a).isSome then some a else if (l.canSend b).isSome then some b else none

/-- The weighted round robin of control, bulk and management packets (R324). -/
def wrrPattern : List Nat := [1, 1, 1, 1, 2, 2, 3]

/-- The channel and pool whose packet goes next, with the round robin's place after it (R324): a packet that has waited 4,096
word times, angle-critical packets, then the round robin. -/
def Link.pick (l : Link) : Option (Nat × Nat) :=
  let old := (List.range 8).filterMap (fun k => match l.canSend k with
    | some t => if 4096 ≤ l.wt - t.since then some (t.since, k) else none
    | none => none)
  match old with
  | x :: xs => some ((xs.foldl (fun m y => if y.1 < m.1 then y else m) x).2, l.rr)
  | [] =>
    match l.classPick 0 with
    | some k => some (k, l.rr)
    | none => (List.range 7).findSome? (fun i =>
        let j := (l.rr + i) % 7
        (l.classPick (wrrPattern.getD j 1)).map (fun k => (k, (j + 1) % 7)))

/-- The control field of a codeword (R319): its sequence, and the next sequence expected in the reverse direction. -/
def Link.cwctl (l : Link) (seq : Nat) : BitVec 20 := BitVec.ofNat 20 (seq * 1024 + l.rxNext)

/-- Put a codeword on the lanes (R319): an alignment codeword goes in place of one in every 16,384, its words numbered by the lane,
of `w` lanes in turn, that carries them. (DESIGN CHOICE, log entry 256.) -/
def Link.put (w : Nat) (l : Link) (seq : Nat) (ws : List Word) : Link :=
  let cw := (l.cwctl seq, ws)
  if l.count < 16383 then { l with line := l.line ++ [cw], count := l.count + 1 }
  else
    let marks := (List.range 80).map (fun i => word (0x5745495200000000 + i % max 1 w))
    { l with line := l.line ++ [(0xFFFFF, marks), cw], count := 1 }

/-- A filler (R320): it repeats the last CWSEQ sent. -/
def Link.filler (w : Nat) (l : Link) : Link := l.put w ((l.txNext + 1019) % 1020) (List.replicate 80 0)

/-- Send a codeword (R319, R322): control words that wait, then words of a packet, filled with IDLE words; it is kept until
acknowledged. -/
def Link.emit (w : Nat) (l : Link) (ws : List Word) : Link :=
  let body := l.ctl.take 45 ++ ws
  let full := body ++ List.replicate (80 - body.length) 0
  let l1 := l.put w l.txNext full
  { l1 with sent := l1.sent ++ [(l.txNext, full)], txNext := (l.txNext + 1) % 1020, ctl := l.ctl.drop 45 }

/-- What a transmitter needs of its device: the width of its port, the version of its link, the ATB value and the tick. -/
structure TxEnv where
  width : Nat
  ver   : Nat
  now   : Word
  tick  : Word
deriving DecidableEq, Repr

/-- The packet as it enters a codeword: its version is the link's, its originator stamps it, and an angle message takes the time of
its transmission (R327, R328, R358). -/
def TxPkt.final (t : TxPkt) (x : TxEnv) : Pkt :=
  let p := { t.pk with ver := x.ver }
  if !t.own then { p with hcrc := p.hcrcOf }
  else
    let ws := if p.typ ≠ 8 then p.words else match fld (p.words.getD 0 0) 7 0 with
      | 1 => p.words.set 1 x.now
      | 2 => p.words.set 1 x.tick
      | _ => p.words.set 3 x.tick
    ({ p with words := ws, stamp := fld x.now 43 12 }).seal

/-- Send the packet of a channel and pool. -/
def Link.sendOne (l : Link) (x : TxEnv) (k rr : Nat) (t : TxPkt) : Link :=
  let l1 := l.emit x.width (t.final x).toWords
  { l1 with
    q := l1.q.erase t
    credit := l1.credit.set k (l1.credit.getD k 0 - t.pk.span)
    rr := rr
    alt := l1.alt.set (k / 2) (decide (k % 2 = 0)) }

/-- Send what may be sent (R322 to R324): at most 512 codewords are kept. -/
def Link.pump (x : TxEnv) : Nat → Link → Link
  | 0, l => l
  | n + 1, l =>
    if 512 ≤ l.sent.length then l
    else
      match l.pick with
      | some (k, rr) =>
        match l.canSend k with
        | some t => Link.pump x n (l.sendOne x k rr t)
        | none => l
      | none => if l.ctl = [] then l else Link.pump x n (l.emit x.width [])

/-- Let a port's transmitter send. -/
def Dev.pump (d : Dev) (p : Nat) : Dev :=
  if (d.link p).lock then
    let x : TxEnv := { width := d.portWidth p, ver := max 1 (d.linkVer p), now := d.reg R.atbNow, tick := d.reg R.exTick }
    d.modLink p (fun l => Link.pump x (l.q.length + l.ctl.length + 1) l)
  else d

/-- The CREDIT control word (R321). -/
def creditWord (k n : Nat) : Word :=
  word (1 + 256 * (k / 2 % 4 + 4 * (k % 2)) + 65536 * (n / 256 % 256) + 16777216 * (n % 256))
/-- The NAK control word (R321). -/
def nakWord (seq : Nat) : Word := word (2 + 65536 * (seq / 256 % 4) + 16777216 * (seq % 256))

/-- Send a control word. -/
def Dev.sendCtl (d : Dev) (p : Nat) (w : Word) : Dev := (d.modLink p (fun l => { l with ctl := l.ctl ++ [w] })).pump p

/-- The unit of a level that an address lies in: cabinet, shelf, device (R13, R352). -/
def unitOf (level addr : Nat) : Nat :=
  if level = 0 then addr / 1024 % 64 else if level = 1 then addr / 64 % 16 else addr % 64

/-- The level that routes from one address to another (R352). -/
def levelOf (own dst : Nat) : Nat :=
  if unitOf 0 own ≠ unitOf 0 dst then 0 else if unitOf 1 own ≠ unitOf 1 dst then 1 else 2

/-- An entry of the tables in force: a 128-bit mask of first ports. -/
def Dev.rtEntry (d : Dev) (level idx : Nat) (alternate : Bool) : Nat :=
  Tab.get (fun _ => 0) d.weir.tab (level * 512 + idx * 2 + alternate.toNat)

/-- The up ports of a set. -/
def Dev.upPorts (d : Dev) (set : Nat) : List Nat := (setBits set 128).filter (fun p => d.linkUp p)

/-- The port a packet takes (R352, R353). -/
def Dev.route (d : Dev) (src dst : Nat) : Option Nat :=
  let lv := levelOf d.wxAddr dst
  let ix := unitOf lv dst
  let pr := d.upPorts (d.rtEntry lv ix false)
  let al := d.upPorts (d.rtEntry lv ix true)
  let set := if pr = [] then al else pr
  if set = [] then none else set[(Nat.xor src dst) % set.length]?

/-- The lowest VMAX present (R354): the headwater knows every member's; another device takes the lowest of its own and of those its
up links' neighbours told it. (DEDUCED, log entry 257.) -/
def Dev.lowestVer (d : Dev) : Nat :=
  if !d.member then 0
  else if bit (d.reg R.wxStatus) 44 then d.rf R.wxStatus 43 40
  else (d.weirPorts.filter d.linkUp).foldl (fun v p => min v (d.rf (R.wptStatus p) 27 24)) d.vmaxW

/-- The credit a packet needs on its next link (R323, R355): in a fabric routed by dimension order, 35 words more than its
length unless it continues in its dimension, that is, the neighbours it comes from and goes to lie at one level and equally
far from this device (log entry 10). -/
def Dev.needOf (d : Dev) (out : Nat) (arrived : Option Nat) (pk : Pkt) : Nat :=
  if d.lowestVer < 2 then pk.span
  else
    let own := d.wxAddr
    let nb (p : Nat) : Nat := d.rf (R.wptStatus p) 63 48
    let far (a : Nat) (lv : Nat) : Int := ((unitOf lv a : Nat) : Int) - ((unitOf lv own : Nat) : Int)
    match arrived with
    | some i =>
      let lv := levelOf own (nb out)
      if levelOf own (nb i) = lv ∧ (far (nb i) lv).natAbs = (far (nb out) lv).natAbs then pk.span else pk.span + 35
    | none => pk.span + 35

/-- Put a packet into a port's transmitter. -/
def Dev.txPkt (d : Dev) (port : Nat) (arrived : Option Nat) (own : Bool) (pk : Pkt) : Dev :=
  (d.modLink port (fun l => { l with q := l.q ++ [{ pk := pk, own := own, since := l.wt, need := d.needOf port arrived pk }] })).pump port

/-- Count a discarded packet (R346, R353, R356). -/
def Dev.hopDrop (d : Dev) (port : Nat) : Dev := d.wrapAdd (R.wptHopdrop port) 63 0 1

/-- A packet this device originates outside any access: link-local and management packets (R329). (DEDUCED, log entry 151.) -/
def Dev.ownPkt (d : Dev) (typ qos flags dst : Nat) (ws : List Word) : Pkt :=
  { ver := 1, typ := typ, qos := qos, secure := true, pond := 0, dst := dst
    src := if d.member then d.wxAddr else 0xFFFF
    hops := 0, flags := flags, len := ws.length, seq := 0, stamp := 0, hcrc := 0, words := ws, crc := 0 }

/-- A tag that no outstanding request or management message holds (R327). -/
def Dev.freshTag (d : Dev) : Nat :=
  let used (t : Nat) : Bool := d.weir.outs.any (fun o => decide (o.tag = t)) || d.weir.mgmt.any (fun m => decide (m.tag = t))
  ((List.range (d.weir.outs.length + d.weir.mgmt.length + 1)).map (fun i => (d.weir.tag + i) % 65536)).find?
    (fun t => !(used t)) |>.getD d.weir.tag

/-- Take a tag. -/
def Dev.takeTag (d : Dev) : Nat × Dev :=
  let t := d.freshTag
  (t, { d with weir := { d.weir with tag := (t + 1) % 65536 } })

/-- Send a formation message along the tree through a port (R348); it is kept until acknowledged. -/
def Dev.sendTree (d : Dev) (port : Nat) (ws : List Word) : Dev :=
  let (t, d1) := d.takeTag
  let pk := { d1.ownPkt 7 3 1 0 ws with seq := t }
  { (d1.txPkt port none true pk) with weir := { (d1.txPkt port none true pk).weir with
      mgmt := d1.weir.mgmt ++ [{ tag := t, port := port, pk := pk, tries := 0 }] } }

/-- Send a message towards the headwater, when there is a parent port. (DEDUCED, log entry 145.) -/
def Dev.sendUp (d : Dev) (ws : List Word) : Dev :=
  match d.weir.parent with
  | some p => d.sendTree p ws
  | none => d

/-- Word 0 of a management message (R331). -/
def mgmtWord (sub part : Nat) : Word := word (sub + 65536 * part)

/-- The port word of a port (R349): a width of 0 tells that it is not up (log entry 11). -/
def Dev.portWord (d : Dev) (p : Nat) (up : Bool) : Word :=
  word (p + 256 * (if up then d.portWidth p else 0) + 65536 * d.rf (R.wptStatus p) 47 40)

/-- HELLO words received on a link: a field, 0 before the first. -/
def Link.hw (l : Link) (i hi lo : Nat) : Nat := fld (l.hello.getD i 0) hi lo

/-- The address the device has or asks for, with whether it is pinned or geographic (R345, R350). -/
def Dev.wantAddr (d : Dev) : Nat × Bool × Bool :=
  match d.felt.cfg.findSome? (fun r => match r with
    | .address a => some a
    | _ => none) with
  | some a => (a, true, false)
  | none => if d.part.geoPar then (d.part.geo, false, true) else (d.weir.kept, false, false)

/-- The TOPO message of this device (R349): one part for every 14 live weir ports, the first part always. -/
def Dev.topoParts (d : Dev) : List (List Word) :=
  let live := d.weirPorts.filter (fun p => (d.linkState p == 3 || d.linkState p == 4) && !((d.link p).hello.isEmpty))
  let (a, pin, geo) := d.wantAddr
  let w := word (a + 65536 * pin.toNat + 131072 * geo.toNat + 2 ^ 24 + d.vmaxW * 2 ^ 28 + (roleOf d.felt.cfg).2.2 * 2 ^ 32)
  (List.range (max 1 ((live.length + 13) / 14))).map (fun i =>
    [mgmtWord 1 i, word d.part.uid, w] ++ (((live.drop (14 * i)).take 14).flatMap (fun p =>
      [d.portWord p true, d.reg (R.wptNuid p)])))

/-- Seek admission (R347, R348): TOPO to the parent, in place of one still kept. -/
def Dev.sendTopo (d : Dev) : Dev :=
  let isTopo (m : MgmtOut) : Bool := decide (fld (m.pk.words.getD 0 0) 7 0 = 1) && decide (m.pk.words.getD 1 0 = word d.part.uid)
  d.topoParts.foldl (fun d ws => d.sendUp ws)
    { d with weir := { d.weir with mgmt := d.weir.mgmt.filter (fun m => !(isTopo m)) } }

end Sys2Proof.Machine
end

