-- ==== Sys2Proof/Machine/WeirRoute.lean ====
section
/-! DEFINITION. The headwater: the routing tables it computes (12 R354), their distribution (R357) and admission (R350). -/

namespace Sys2Proof.Machine

/-- The up links of an admitted device to admitted devices: (own first port, the neighbour's unique ID), as either end
reports them, neither end reporting the port down (R349, R357). -/
def nodeLinks (ns : List Node) (a : Node) : List (Nat × Nat) :=
  let known (u : Nat) : Option Node := ns.find? (fun n => decide (n.uid = u))
  let own := a.ports.filterMap (fun t => match known t.uid with
    | some b => if a.down.contains t.own ∨ b.down.contains t.far then none else some (t.own, t.uid)
    | none => none)
  let far := ns.flatMap (fun b => b.ports.filterMap (fun t =>
    if t.uid = a.uid ∧ !(b.down.contains t.own) ∧ !(a.down.contains t.far) then some (t.far, b.uid) else none))
  (own ++ far.filter (fun x => !(own.any (fun y => decide (y.1 = x.1)))))

/-- A device with its links. -/
abbrev Adj := List (Node × List (Nat × Nat))

/-- Every device's links. -/
def adjOf (ns : List Node) : Adj := ns.map (fun n => (n, nodeLinks ns n))

/-- A value by unique ID, 16 (more than any legal path) when absent. -/
def distAt (m : List (Nat × Nat)) (u : Nat) : Nat := ((m.find? (fun e => decide (e.1 = u))).map (·.2)).getD 16

/-- Depths from the headwater, by repeated relaxation (R354's breadth-first tree). -/
def depths (adj : Adj) (root : Nat) : List (Nat × Nat) :=
  (List.range adj.length).foldl (fun m _ =>
    adj.map (fun x => (x.1.uid,
      if x.1.uid = root then 0
      else x.2.foldl (fun best l => min best (if distAt m l.2 < 16 * adj.length then distAt m l.2 + 1 else best)) (distAt m x.1.uid))))
    (adj.map (fun x => (x.1.uid, if x.1.uid = root then 0 else 16 * adj.length + 16)))

/-- Whether the link from one device to another is up-going (R354). -/
def upGoing (dep : List (Nat × Nat)) (a b : Nat) : Bool :=
  decide (distAt dep b < distAt dep a) || (decide (distAt dep b = distAt dep a) && decide (b < a))

/-- Lengths of the shortest legal paths to a set of devices from each device: when up-going links may still be taken, and when
only down-going ones may (R354). A draining device carries no transit traffic (R361). -/
def legalDist (adj : Adj) (dep : List (Nat × Nat)) (goal : Nat → Bool) : List (Nat × Nat × Nat) :=
  let at2 (m : List (Nat × Nat × Nat)) (u : Nat) : Nat × Nat := ((m.find? (fun e => decide (e.1 = u))).map (·.2)).getD (16, 16)
  (List.range 15).foldl (fun m _ =>
    adj.map (fun x => (x.1.uid,
      if goal x.1.uid then (0, 0)
      else if x.1.drain then (16, 16)
      else x.2.foldl (fun best l =>
        let n := at2 m l.2
        if upGoing dep x.1.uid l.2 then (min best.1 (n.1 + 1), best.2)
        else (min best.1 (n.2 + 1), min best.2 (n.2 + 1))) (at2 m x.1.uid))))
    (adj.map (fun x => (x.1.uid, if goal x.1.uid then (0, 0) else (16, 16))))

/-- The primary and alternate port sets of a device by up/down routing: the ports that begin a shortest legal path, and those
that begin one at most two links longer (R354). -/
def upDown (dep : List (Nat × Nat)) (ld : List (Nat × Nat × Nat)) (a : Node × List (Nat × Nat)) : Nat × Nat :=
  let at2 (u : Nat) : Nat × Nat := ((ld.find? (fun e => decide (e.1 = u))).map (·.2)).getD (16, 16)
  let cost (l : Nat × Nat) : Nat := 1 + (if upGoing dep a.1.uid l.2 then (at2 l.2).1 else (at2 l.2).2)
  let best := a.2.foldl (fun m l => min m (cost l)) 16
  if 15 < best then (0, 0)
  else a.2.foldl (fun s l =>
    if cost l = best then (s.1 ||| 2 ^ l.1, s.2)
    else if cost l ≤ best + 2 ∧ cost l ≤ 15 then (s.1, s.2 ||| 2 ^ l.1) else s) (0, 0)

/-- Whether two units of a level are joined by an up link; `mem` gives the unit of a device, if it lies in the level's scope. -/
def joined (adj : Adj) (mem : Nat → Option Nat) (u v : Nat) : Bool :=
  adj.any (fun x => decide (mem x.1.uid = some u) && x.2.any (fun l => decide (mem l.2 = some v)))

/-- The width of a level's torus (R354), 0 when it is none: its units are numbered from 0 without a gap, and the smallest
divisor above 1 joins every pair adjacent in X or Y. -/
def torusWidth (adj : Adj) (mem : Nat → Option Nat) : Nat :=
  let us := (List.range 64).filter (fun u => adj.any (fun x => decide (mem x.1.uid = some u)))
  let n := us.length
  if n < 2 ∨ us ≠ List.range n then 0
  else
    ((List.range (n + 1)).find? (fun w => decide (2 ≤ w) && decide (n % w = 0) &&
      us.all (fun u =>
        let x := u % w
        let y := u / w
        let r := y * w + (x + 1) % w
        let b := (y + 1) % (n / w) * w + x
        joined adj mem u r && (decide (b = u) || joined adj mem u b)))).getD 0

/-- The step of R17 along one ring of `n` positions: the shorter way round, increasing when both are equal. -/
def ringStep (n a b : Nat) : Nat := if (b + n - a) % n * 2 ≤ n then (a + 1) % n else (a + n - 1) % n

/-- The next unit of a torus of `n` units and width `w` (R17 over units): along X first. (DEDUCED, log entry 148.) -/
def torusNext (n w u v : Nat) : Nat :=
  if u % w ≠ v % w then u / w * w + ringStep w (u % w) (v % w) else ringStep (n / w) (u / w) (v / w) * w + u % w

/-- The scope of a level at a device: which devices it routes among, and in which unit each lies. -/
def scopeUnit (a : Node) (lv : Nat) (b : Node) : Option Nat :=
  if lv = 0 then some (unitOf 0 b.addr)
  else if unitOf 0 b.addr ≠ unitOf 0 a.addr then none
  else if lv = 1 then some (unitOf 1 b.addr)
  else if unitOf 1 b.addr ≠ unitOf 1 a.addr then none
  else some (unitOf 2 b.addr)

/-- The table entry of a device for a unit of a level: primary and alternate sets (R354). `v2`: every device implements
version 2. (DEDUCED, log entry 147.) -/
def entryFor (adj : Adj) (dep : List (Nat × Nat)) (v2 : Bool) (a : Node × List (Nat × Nat)) (lv ix : Nat) : Nat × Nat :=
  let memN (b : Node) : Option Nat := scopeUnit a.1 lv b
  let mem (u : Nat) : Option Nat := (adj.find? (fun x => decide (x.1.uid = u))).bind (fun x => memN x.1)
  let own := unitOf lv a.1.addr
  if ix = own ∨ !(adj.any (fun x => decide (memN x.1 = some ix))) then (0, 0)
  else
    let ud := upDown dep (legalDist adj dep (fun u => decide (mem u = some ix))) a
    let w := if v2 then torusWidth adj mem else 0
    if w = 0 then ud
    else
      let n := ((List.range 64).filter (fun u => adj.any (fun x => decide (memN x.1 = some u)))).length
      let nx := torusNext n w own ix
      let pr := a.2.foldl (fun s l => if mem l.2 = some nx then s ||| 2 ^ l.1 else s) 0
      if pr = 0 then ud else (pr, (ud.1 ||| ud.2) &&& (2 ^ 128 - 1 - pr))

/-- The entries of a level: 64 cabinets, 16 shelves, 64 devices. -/
def levelSize (lv : Nat) : Nat := if lv = 1 then 16 else 64

/-- A device's tables, as (key, set) pairs. -/
def tableFor (adj : Adj) (dep : List (Nat × Nat)) (v2 : Bool) (a : Node × List (Nat × Nat)) : List (Nat × Nat) :=
  [0, 1, 2].flatMap (fun lv => (List.range (levelSize lv)).flatMap (fun ix =>
    let e := entryFor adj dep v2 a lv ix
    [(lv * 512 + ix * 2, e.1), (lv * 512 + ix * 2 + 1, e.2)]))

/-- The ROUTE messages that carry a device's tables (R349): at most seven entries each. -/
def routeParts (uid epoch : Nat) (tab : List (Nat × Nat)) : List (List Word) :=
  let val (k : Nat) : Nat := ((tab.find? (fun e => decide (e.1 = k))).map (·.2)).getD 0
  let half (v : Nat) : List Word := [word (v % 2 ^ 64), word (v / 2 ^ 64)]
  [0, 1, 2].flatMap (fun lv =>
    let n := levelSize lv
    (List.range ((n + 6) / 7)).map (fun i =>
      let ixs := (List.range (min 7 (n - 7 * i))).map (fun j => 7 * i + j)
      [mgmtWord 3 i, word uid, word (lv + 256 * (7 * i) + 65536 * ixs.length + 2 ^ 32 * epoch)] ++
        ixs.flatMap (fun ix => half (val (lv * 512 + ix * 2)) ++ half (val (lv * 512 + ix * 2 + 1)))))

/-- Put tables in force (R357). -/
def Dev.useTables (d : Dev) (epoch : Nat) (tab : Tab Nat) : Dev :=
  ((({ d with weir := { d.weir with tab := tab, next := [] } }).setReg R.wxEpoch (word epoch))).wxEvent 2

/-- The lowest VMAX among the devices admitted. -/
def lowVer (ns : List Node) : Nat := (ns.map (·.vmax)).foldl min 15

/-- The headwater recomputes the tables and sends them with the next epoch (R354, R357, R361). (DEDUCED, log entry 149.) -/
def Dev.newEpoch (d : Dev) : Dev :=
  let ns := d.weir.nodes
  let adj := adjOf ns
  let dep := depths adj d.part.uid
  let v2 := decide (2 ≤ lowVer ns)
  let ep := (d.weir.nextEp + 1) % 2 ^ 32
  let d0 : Dev := { d with weir := { d.weir with nextEp := ep } }
  let d1 := d0.setRf R.wxStatus 43 40 (lowVer ns)
  match adj.find? (fun x => decide (x.1.uid = d.part.uid)) with
  | none => d1
  | some me =>
    let mine := (tableFor adj dep v2 me).foldl (fun t e => Tab.set (fun _ => 0) t e.1 e.2) []
    let lost := (ns.filter (fun n => decide (n.uid ≠ d.part.uid) &&
      decide (upDown dep (legalDist adj dep (fun u => decide (u = n.uid))) me = (0, 0)))).length
    let d2 := (d1.useTables ep mine).setRf R.wxStatus 31 16 lost
    adj.foldl (fun d x =>
      if x.1.uid = d.part.uid then d
      else match Tab.get (fun _ => none) d.weir.child x.1.uid with
        | some p => (routeParts x.1.uid ep (tableFor adj dep v2 x)).foldl (fun d ws => d.sendTree p ws) d
        | none => d) d2

/-- The port of a device towards the headwater in the breadth-first tree: its time port (R354, R358). -/
def timePortOf (ns : List Node) (root uid : Nat) : Nat :=
  let adj := adjOf ns
  let dep := depths adj root
  match adj.find? (fun x => decide (x.1.uid = uid)) with
  | none => 0
  | some x => (x.2.foldl (fun (b : Option (Nat × Nat)) l => match b with
      | none => some (distAt dep l.2, l.1)
      | some y => if distAt dep l.2 < y.1 ∨ (distAt dep l.2 = y.1 ∧ l.1 < y.2) then some (distAt dep l.2, l.1) else b) none).elim 0 (·.2)

/-- The ADDR message of a device (R349). -/
def Dev.addrMsg (d : Dev) (n : Node) : List Word :=
  [mgmtWord 2 0, word n.uid, word (n.addr + 65536 * timePortOf d.weir.nodes d.part.uid n.uid + 2 ^ 24 * n.amode), word d.part.uid,
   word (d.weir.nextEp + 1)]

/-- Send a message down the tree to a device (R348). -/
def Dev.sendDown (d : Dev) (uid : Nat) (ws : List Word) : Dev :=
  match Tab.get (fun _ => none) d.weir.child uid with
  | some p => d.sendTree p ws
  | none => d

/-- The lowest address no admitted device has (R350). -/
def freeAddr (ns : List Node) : Nat :=
  ((List.range (ns.length + 1)).find? (fun a => !(ns.any (fun n => decide (n.addr = a))))).getD 0

/-- Why the headwater refuses a device by versions, 0 if it does not (R350). -/
def versionReason (ns : List Node) (vmin vmax minp : Nat) : Nat :=
  let others := ns
  let low := lowVer others
  if others = [] then 0
  else if low < vmin then 2
  else if low < minp ∨ others.any (fun n => decide (vmax < n.minp)) then 3 else 0

/-- The headwater processes the first part of a device's TOPO (R348, R350): it admits the device, or refuses it. -/
def Dev.admitNode (d : Dev) (n : Node) (want : Nat) : Dev :=
  let others := d.weir.nodes.filter (fun m => decide (m.uid ≠ n.uid))
  let reason := versionReason others n.vmin n.vmax n.minp
  let rival := others.find? (fun m => decide (m.addr = want))
  if reason ≠ 0 then d.sendDown n.uid [mgmtWord 4 0, word n.uid, word reason]
  else if want ≠ 0xFFFF ∧ rival.isSome ∧ (rival.map (·.uid)).getD 0 < n.uid then
    d.sendDown n.uid [mgmtWord 4 0, word n.uid, 1]
  else
    let d1 := match (if want = 0xFFFF then none else rival) with
      | some r => d.sendDown r.uid [mgmtWord 4 0, word r.uid, 1]
      | none => d
    let keep := if want = 0xFFFF then others else others.filter (fun m => decide (m.addr ≠ want))
    let n1 := { n with addr := if want = 0xFFFF then freeAddr keep else want, amode := if n.amode = 0 then 3 else n.amode }
    let d2 : Dev := { d1 with weir := { d1.weir with nodes := keep ++ [n1] } }
    (d2.sendDown n.uid (d2.addrMsg n1)).newEpoch

end Sys2Proof.Machine
end

