-- ==== Sys2Proof/Machine/WeirLink.lean ====
section
/-! DEFINITION. Link state, HELLO and the election (12 R322, R325, R345 to R351, R357). -/

namespace Sys2Proof.Machine

/-- WPT.EVENT bits and counters of a damaged header or control word (R321, R328). -/
def Dev.hdrErr (d : Dev) (p : Nat) : Dev := (d.wrapAdd (R.wptHdrerr p) 63 0 1).wptEvent p 5

/-- The headwater notes a port of a device as up or down and, when that changes anything, computes the next epoch (R357). -/
def Dev.notePort (d : Dev) (uid port : Nat) (up : Bool) : Dev :=
  let ns := d.weir.nodes.map (fun n =>
    if n.uid = uid then
      { n with down := if up then n.down.filter (fun q => decide (q ≠ port)) else if n.down.contains port then n.down else n.down ++ [port] }
    else n)
  if ns = d.weir.nodes then d else ({ d with weir := { d.weir with nodes := ns } }).newEpoch

/-- A change of a port between up and not up is reported to the headwater (R357). -/
def Dev.reportPort (d : Dev) (p : Nat) (up : Bool) : Dev :=
  if !d.member then d
  else if d.weir.head = some d.part.uid then d.notePort d.part.uid p up
  else d.sendUp [mgmtWord 5 0, word d.part.uid, d.portWord p up]

/-- The port that reported the fabric's headwater at the least distance, ties to the lowest port (R347). -/
def Dev.parentFor (d : Dev) (uid : Nat) : Option Nat :=
  ((d.weirPorts.filter (fun p => (d.linkState p == 3 || d.linkState p == 4) && !((d.link p).hello.isEmpty) &&
      decide ((d.link p).hw 2 63 0 = uid))).foldl (fun (b : Option (Nat × Nat)) p =>
    let x := (d.link p).hw 3 15 8
    match b with
    | none => some (x, p)
    | some y => if x < y.1 then some (x, p) else b) none).map (·.2)

/-- Whether a version has a packet type (R329): TDOORBELL exists from version 2 on, the reserved types in none. -/
def verHas (ver typ : Nat) : Bool := decide (1 ≤ typ) && (decide (typ ≤ 9) || (decide (typ = 0xA) && decide (2 ≤ ver)))

/-- Packets not yet placed in a codeword when their link stops carrying them are routed again under R353 (R325). -/
def Dev.reroute (d : Dev) (p : Nat) (q : List TxPkt) : Dev :=
  q.foldl (fun d t =>
    if t.pk.typ = 8 ∨ t.pk.typ = 9 ∨ (t.pk.typ = 7 ∧ t.pk.flags % 2 = 1) then d
    else match d.route t.pk.src t.pk.dst with
      | some o => if verHas (d.linkVer o) t.pk.typ then d.txPkt o none t.own t.pk else d
      | none => d.hopDrop p) d

/-- A link goes down (R325): codewords not acknowledged are discarded, packets not yet placed in one are routed again, and
the port is reported. -/
def Dev.linkDown (d : Dev) (p : Nat) : Dev :=
  let q := (d.link p).q
  let was := decide (d.linkState p = 4)
  let st := setFld (setFld (setFld (setFld (setFld (setFld (d.reg (R.wptStatus p)) 63 48 0) 47 40 0) 31 24 0) 19 16 0) 15 8 0) 2 0 1
  let d1 := (((d.setReg (R.wptStatus p) st).setReg (R.wptNuid p) 0).setLink p Link.off).wptEvent p 1
  let d2 := if d1.weir.parent = some p then { d1 with weir := { d1.weir with parent := (d1.weir.head).bind d1.parentFor } } else d1
  let d3 := if was then d2.reportPort p false else d2
  d3.reroute p q

/-- The HELLO this device sends on a port (R345). -/
def Dev.helloWords (d : Dev) (p : Nat) (cand : Nat × Nat × Nat) : List Word :=
  let (role, prio, minp) := roleOf d.felt.cfg
  let (a, pin, geo) := if d.member then (d.wxAddr, decide (d.rf R.wxStatus 47 46 = 1), decide (d.rf R.wxStatus 47 46 = 2)) else d.wantAddr
  [word d.part.uid,
   word (1 + 16 * d.vmaxW + 256 * minp + 4096 * role + 65536 * prio + 2 ^ 24 * p + 2 ^ 32 * pin.toNat + 2 ^ 33 * geo.toNat + 2 ^ 48 * a),
   word cand.1, word (cand.2.1 + 256 * cand.2.2 + 65536 * (d.member && d.weir.head.isSome).toNat + 2 ^ 32 * d.weir.beacon)]

/-- Whether one candidate (unique ID, priority) is better than another (R347). -/
def better (a b : Nat × Nat) : Bool := decide (b.2 < a.2) || (decide (a.2 = b.2) && decide (a.1 < b.1))

/-- The device's candidate: unique ID, priority, distance (R347): itself if its role is 2 and it does not drain (R361), and the
candidates of HELLOs not older than three intervals on links not refused. In a formed fabric it is the headwater. -/
def Dev.candidate (d : Dev) : Option (Nat × Nat × Nat) :=
  let (role, prio, _) := roleOf d.felt.cfg
  let self : List (Nat × Nat × Nat) := if role = 2 ∧ d.wxState ≠ 3 ∧ d.wxState ≠ 4 then [(d.part.uid, prio, 0)] else []
  let seen := (d.weirPorts.filter (fun p => (d.linkState p == 3 || d.linkState p == 4) && !((d.link p).hello.isEmpty) &&
      decide ((d.link p).age ≤ 3) && decide ((d.link p).hw 2 63 0 ≠ 0))).map (fun p =>
    let l := d.link p
    (l.hw 2 63 0, l.hw 3 7 0, min 255 (l.hw 3 15 8 + 1)))
  let pool := match d.weir.head with
    | some h => if h = d.part.uid then [(h, prio, 0)] else seen.filter (fun c => decide (c.1 = h))
    | none => self ++ seen
  pool.foldl (fun (b : Option (Nat × Nat × Nat)) c => match b with
    | none => some c
    | some x => if better (c.1, c.2.1) (x.1, x.2.1) ∨ (c.1 = x.1 ∧ c.2.2 < x.2.2) then some c else b) none

/-- Send HELLO on a port. -/
def Dev.sendHello (d : Dev) (p : Nat) : Dev :=
  let cand := d.candidate.getD (0, 0, 0)
  d.txPkt p none true (d.ownPkt 9 3 0 0 (d.helloWords p cand))

/-- The state and reason of a link after its neighbour's HELLO (R346): state, reason, version. A link that is up stays up
while no reason refuses it (R351: a re-election does not stop traffic). (DEDUCED, log entry 143.) -/
def Dev.linkEval (d : Dev) (p : Nat) : Nat × Nat × Nat :=
  let l := d.link p
  let (role, _, minp) := roleOf d.felt.cfg
  let v := min d.vmaxW (l.hw 1 7 4)
  let formed := (l.hw 3 16 16 == 1)
  if v < 1 ∨ v < l.hw 1 3 0 then (5, 2, 0)
  else if l.hw 1 7 4 < minp ∨ d.vmaxW < l.hw 1 11 8 then (5, 3, 0)
  else if l.hw 1 13 12 = 0 ∨ role = 0 then (3, if l.hw 1 13 12 = 0 then 1 else 0, v)
  else if d.linkState p = 4 then (4, 0, v)
  else if d.member ∧ formed ∧ d.weir.head.isSome then
    if d.weir.head = some (l.hw 2 63 0) then (4, 0, v) else (3, 5, v)
  else (3, if d.wxState = 5 then 4 else 0, v)

/-- Apply the evaluation: events UP, DOWN, REFUSED, and the report to the headwater. -/
def Dev.linkSet (d : Dev) (p : Nat) : Dev :=
  if d.linkState p < 3 ∨ (d.link p).hello = [] then d
  else
    let was := d.linkState p
    let (st, reason, v) := d.linkEval p
    let w := setFld (setFld (setFld (d.reg (R.wptStatus p)) 31 28 v) 19 16 reason) 2 0 st
    let d1 := d.setReg (R.wptStatus p) w
    let d2 := if st = 4 ∧ was ≠ 4 then (d1.wptEvent p 0).reportPort p true else d1
    let q := (d2.link p).q
    let d3 := if was = 4 ∧ st ≠ 4 then (((d2.modLink p (fun l => { l with q := [] })).wptEvent p 1).reportPort p false).reroute p q else d2
    if st = 5 ∧ was ≠ 5 then d3.wptEvent p 2 else d3

/-- Evaluate every link again. -/
def Dev.linkSetAll (d : Dev) : Dev := d.weirPorts.foldl (fun d p => d.linkSet p) d

/-- Adopt a headwater (R347 item 4, R351): a member takes the new fabric identity; the device asks to be admitted. -/
def Dev.adopt (d : Dev) (uid beacon : Nat) : Dev :=
  let d1 : Dev := { d with weir := { d.weir with head := some uid, beacon := beacon } }
  let d2 : Dev := { d1 with weir := { d1.weir with parent := d1.parentFor uid } }
  let d3 := if d2.member then (((d2.setReg R.wxIdent (word uid)).setRf R.wxStatus 45 44 0).wxEvent 3) else d2
  d3.sendTopo

/-- A HELLO has arrived: the neighbour's registers, the link's state, the beacon, and the adoption of a formed fabric. -/
def Dev.helloIn (d : Dev) (p : Nat) (ws : List Word) : Dev :=
  let d1 := d.modLink p (fun l => { l with hello := ws, age := 0 })
  let l := d1.link p
  let st := setFld (setFld (setFld (d1.reg (R.wptStatus p)) 63 48 (l.hw 1 63 48)) 47 40 (l.hw 1 31 24)) 27 24 (l.hw 1 7 4)
  let d2 := ((d1.setReg (R.wptStatus p) st).setReg (R.wptNuid p) (ws.getD 0 0)).linkSet p
  let uid := l.hw 2 63 0
  let formed := (l.hw 3 16 16 == 1)
  if d2.linkState p = 5 ∨ !formed ∨ (roleOf d2.felt.cfg).1 = 0 ∨ uid = d2.part.uid then d2
  else
    match d2.weir.head with
    | some h =>
      if h = uid then
        if d2.weir.beacon < l.hw 3 63 32 then { d2 with weir := { d2.weir with beacon := l.hw 3 63 32 } } else d2
      else d2
    | none =>
      if d2.wxState = 5 ∨ d2.wxState = 0 ∨ (word uid = d2.reg R.wxIdent ∧ l.hw 3 63 32 ≤ d2.weir.beacon) then d2
      else d2.adopt uid (l.hw 3 63 32)

/-- A NAK names a CWSEQ (R322): the codewords from it on are put on the lanes again; the eighth in succession takes the link down. -/
def Dev.nakIn (d : Dev) (p n : Nat) : Dev :=
  let l := d.link p
  let cnt := if l.nakSeq = n ∧ l.nakCnt ≠ 0 then l.nakCnt + 1 else 1
  if 8 ≤ cnt then (d.linkDown p).wptEvent p 3
  else
    let again := l.sent.dropWhile (fun e => decide (e.1 ≠ n))
    (d.modLink p (fun l => again.foldl (fun l e => l.put (d.portWidth p) e.1 e.2) { l with nakSeq := n, nakCnt := cnt })).wrapAdd
      (R.wptRetry p) 63 0 again.length

/-- An ACKSEQ frees the codewords before it (R322). -/
def Link.ack (l : Link) (n : Nat) : Link :=
  if n = l.txNext then { l with sent := [] }
  else if l.sent.any (fun e => decide (e.1 = n)) then { l with sent := l.sent.dropWhile (fun e => decide (e.1 ≠ n)) }
  else l

/-- A codeword is lost or out of sequence (R322): NAK at once. -/
def Dev.missed (d : Dev) (p : Nat) : Dev :=
  match (d.link p).nakWait with
  | none => (d.modLink p (fun l => { l with nakWait := some 0 })).sendCtl p (nakWord (d.link p).rxNext)
  | some _ => d

/-- One more codeword passes while the expected one is missing (R322): NAK again every 64 codewords; where the eighth NAK of one
CWSEQ would be sent, the link goes down. (DESIGN CHOICE, log entry 256.) -/
def Dev.nakAgain (d : Dev) (p : Nat) : Dev :=
  match (d.link p).nakWait with
  | none => d
  | some k =>
    if 7 * 64 ≤ k + 1 then (d.linkDown p).wptEvent p 3
    else
      let d1 := d.modLink p (fun l => { l with nakWait := some (k + 1) })
      if (k + 1) % 64 = 0 then d1.sendCtl p (nakWord (d.link p).rxNext) else d1

/-- The word times of a codeword pass: ready packets that wait for credit are counted by class (R324, WPT.CSTALLk). (DEDUCED, log entry 141.) -/
def Dev.wordTimes (d : Dev) (p : Nat) : Dev :=
  let l := d.link p
  let stall (c : Nat) : Bool := [2 * c, 2 * c + 1].any (fun k =>
    (l.q.find? (fun t => decide (t.pk.vc = k))).isSome && (l.canSend k).isNone)
  let d1 := (List.range 4).foldl (fun d c => if stall c then d.wrapAdd (R.wptCstall p c) 63 0 80 else d) d
  d1.modLink p (fun l => { l with wt := l.wt + 80 })

/-- A control word arrives (R321). -/
def Dev.ctlWord (d : Dev) (p : Nat) (w : Word) : Dev :=
  match fld w 3 0 with
  | 0 => d
  | 1 =>
    let k := 2 * fld w 9 8 + fld w 10 10
    (d.modLink p (fun l => { l with credit := l.credit.set k (l.credit.getD k 0 + fld w 23 16 * 256 + fld w 31 24) })).pump p
  | 2 => d.nakIn p ((fld w 23 16 * 256 + fld w 31 24) % 1024)
  | _ => d.hdrErr p

/-- The packets that an accepted codeword completes, in order, after its words have been taken (R320). -/
def Dev.takeWord (d : Dev × List Pkt) (p : Nat) (w : Word) : Dev × List Pkt :=
  let l := d.1.link p
  if l.rxPkt = [] ∧ fld w 7 4 = 0 then (d.1.ctlWord p w, d.2)
  else
    let ws := l.rxPkt ++ [w]
    let len := fld (ws.getD 0 0) 63 56
    if ws.length = (if len = 0 then 2 else 3 + len) then
      (d.1.setLink p { l with rxPkt := [] }, d.2 ++ [pktOf ws])
    else (d.1.setLink p { l with rxPkt := ws }, d.2)

/-- A receiver returns the credit of a packet that has left its buffer (R321, R323). -/
def Dev.credit (d : Dev) (p : Nat) (pk : Pkt) : Dev := d.sendCtl p (creditWord pk.vc pk.span)

/-- A drain begins or ends (R361): the headwater is told. -/
def Dev.sendDrain (d : Dev) (on : Bool) : Dev :=
  if d.weir.head = some d.part.uid then d else d.sendUp [mgmtWord 6 0, word d.part.uid, word on.toNat]

/-- WX.CTL.DRAIN has been set (R361). -/
def Dev.startDrain (d : Dev) : Dev :=
  if d.wxState = 2 then
    (({ d with weir := { d.weir with drainEp := (d.reg R.wxEpoch).toNat } }).setRf R.wxStatus 3 0 3).sendDrain true
  else d

/-- WX.CTL.REJOIN has been set (R361): a drain ends, a drained or refused device seeks admission. -/
def Dev.rejoin (d : Dev) : Dev :=
  let d0 := (d.setRf R.wxCtl 1 1 0).setRf R.wxCtl 0 0 0
  if d.wxState = 3 then (d0.setRf R.wxStatus 3 0 2).sendDrain false
  else if d.wxState = 4 then ((d0.sendDrain false).setRf R.wxStatus 3 0 1).sendTopo
  else if d.wxState = 5 then
    let d1 := (d0.setRf R.wxStatus 3 0 1).setRf R.wxStatus 7 4 0
    if d1.weir.head.isSome then d1.sendTopo else d1
  else d.setRf R.wxCtl 1 1 0

/-- Values of weir registers that are computed (R318, RTDATA): the registers of a port that is not a weir port read as zero. -/
def Dev.wptValue (d : Dev) (i o : Nat) (v : Word) : Word :=
  if o < 0x70 then (if d.weirPort i then v else 0)
  else if o = 0x8000 then setFld (setFld v 39 36 d.vmaxW) 43 40 d.lowestVer
  else if o = 0x8058 ∨ o = 0x8060 then
    let s := d.reg R.wxRtsel
    let e := d.rtEntry (fld s 9 8) (fld s 5 0) (bit s 12)
    word (if o = 0x8058 then e % 2 ^ 64 else e / 2 ^ 64)
  else v

/-- The range checks of WX writes (12 "Registers"): a value outside a field's stated range is refused with BREF. (DEDUCED, log entry 155.) -/
def wxWriteOk (o : Nat) (new : Word) : Bool :=
  let f (hi lo : Nat) : Nat := fld new hi lo
  if o = 0x8020 then decide (1 ≤ f 15 0) && decide (f 15 0 ≤ 1000)
  else if o = 0x8028 then decide (125 ≤ f 15 0) && decide (f 15 0 ≤ 10000)
  else if o = 0x8050 then decide (f 9 8 ≤ 2)
  else if 0xA000 ≤ o ∧ o < 0xB000 ∧ o % 16 = 0 then decide (1 ≤ f 8 0) && decide (f 8 0 ≤ 256)
  else if 0xB000 ≤ o ∧ o < 0xF800 ∧ (o - 0xB000) % 0x120 = 0 then decide (1 ≤ f 45 40) && decide (f 45 40 ≤ 32)
  else true

/-- The action of a write to a weir register. -/
def Dev.wxPost (d : Dev) (o : Nat) (old act : Word) : Dev :=
  if o = 0x8018 then
    if bit act 1 then d.rejoin else if bit act 0 && !(bit old 0) then d.startDrain else d
  else d

end Sys2Proof.Machine
end

