-- ==== Sys2Proof/Machine/Lane.lean ====
section
/-! DEFINITION. Lanes, their ports and the spare lanes (13 R362 to R373, R386). -/

namespace Sys2Proof.Machine

/-- LANE.STATUS.STATE: 0 off, 1 training, 2 run, 3 reserve, 4 test, 5 retired. -/
def Dev.laneState (d : Dev) (l : Nat) : Nat := d.rf (R.laneStatus l) 23 20
/-- The port a lane serves, 0xFF none. -/
def Dev.lanePort (d : Dev) (l : Nat) : Nat := d.rf (R.laneStatus l) 15 8

/-- Set a lane's state, and its lock with it: only a lane that runs or is in reserve has lock. -/
def Dev.setLane (d : Dev) (l st : Nat) : Dev :=
  (d.setRf (R.laneStatus l) 23 20 st).setRf (R.laneStatus l) 0 0 (if st = 2 ∨ st = 3 then 1 else 0)

/-- Give a lane its port, logical lane and rate. -/
def Dev.laneUse (d : Dev) (l port logical rate : Nat) : Dev :=
  ((d.setRf (R.laneStatus l) 15 8 port).setRf (R.laneStatus l) 27 24 logical).setRf (R.laneStatus l) 19 16 rate

/-- LANE.STATUS.RATE of a PORT record (R363). -/
def rateOf (role speed : Nat) : Nat := if role = 1 then 1 + speed else if role = 2 then 4 + speed else 0

/-- The first port of the PORT record a port belongs to, with its width, role and speed. -/
def Dev.portOf (d : Dev) (p : Nat) : Option (Nat × Nat × Nat × Nat) :=
  (portRec d.felt.cfg p).map (fun r => (r.1, r.2.1, r.2.2.1, r.2.2.2.2))

/-- The physical lane that carries a logical lane of a group; by default the lane of that place (R362). -/
def Dev.carrier (d : Dev) (g logical : Nat) : Nat :=
  (((List.range 17).map (fun i => 17 * g + i)).find? (fun l => decide (d.rf (R.laneStatus l) 27 24 = logical) &&
    decide (d.lanePort l ≠ 0xFF))).getD (17 * g + logical)

/-- The lanes of a port that may be used: halved as long as a half holds a retired lane (R372). (DEDUCED, log entry 161.) -/
def usable (retired : Nat → Bool) : Nat → List Nat → List Nat
  | 0, ls => if ls.any retired then [] else ls
  | n + 1, ls =>
    if !(ls.any retired) then ls
    else if ls.length ≤ 1 then []
    else
      let h := ls.length / 2
      if !((ls.take h).any retired) then ls.take h
      else if !((ls.drop h).any retired) then ls.drop h
      else usable retired n (ls.take h)

/-- The physical lanes a port runs on, in logical order. -/
def Dev.portLanes (d : Dev) (p : Nat) : List Nat :=
  match d.portOf p with
  | none => []
  | some (f, w, role, _) =>
    let ls := (List.range w).map (fun i => d.carrier (f / 16) (f % 16 + i))
    if role = 1 then usable (fun l => decide (d.laneState l = 5)) 3 ls
    else if ls.any (fun l => decide (d.laneState l = 5)) then [] else ls

/-- Whether every lane a port runs on has lock. -/
def Dev.portLocked (d : Dev) (p : Nat) : Bool :=
  let ls := d.portLanes p
  decide (ls ≠ []) && ls.all (fun l => decide (d.laneState l = 2))

/-- A group's spare. -/
def Dev.spare (d : Dev) (g : Nat) : SpareSt := Tab.get (fun _ => SpareSt.off) d.lane.spare g
/-- Set a group's spare; words 0 and 1 of its reserve codewords follow (R369). -/
def Dev.setSpare (d : Dev) (g : Nat) (x : SpareSt) : Dev :=
  let rq := match x.ask with
    | some (l, _) => l + 128
    | none => 0
  let ak := match x.ack with
    | some l => l + 256
    | none => 0
  let x1 := { x with out := [word d.part.uid, word (rq ||| ak)] }
  { d with lane := { d.lane with spare := Tab.set (fun _ => SpareSt.off) d.lane.spare g x1 } }
/-- The physical lane that is a group's spare, and the block that holds LANE.SPARE. -/
def Dev.spareLane (d : Dev) (g : Nat) : Nat := 17 * g + (d.spare g).lane
def spareReg (g : Nat) : Nat := R.laneSpare (17 * g + 16)
/-- LANE.SPARE.STATE: 0 disabled, 1 training, 2 reserve, 3 in use, 4 failed. -/
def Dev.spareState (d : Dev) (g : Nat) : Nat := d.rf (spareReg g) 62 60

/-- The policy of a group's spare (R369): 0 only when a LANE_SPARE record says so. -/
def sparePolicy (cfg : List Rec) (g : Nat) : Nat :=
  (cfg.findSome? fun r => match r with
    | .laneSpare q p => if q = g then some p else none
    | _ => none).getD 1

/-- The port whose logical lane lies at a place of a group. -/
def Dev.logicalPort (d : Dev) (g logical : Nat) : Option Nat :=
  match d.portOf (16 * g + logical) with
  | some (f, _, 1, _) => some f
  | _ => none

/-- Whether the spare can replace a lane of a weir port (R370, R373): it is in reserve, no move is under way, and it sees the
port's neighbour. -/
def Dev.spareUsable (d : Dev) (g logical : Nat) : Bool :=
  decide (d.spareState g = 2) && (d.spare g).ask.isNone && (d.spare g).sw.isNone &&
  (match d.logicalPort g logical with
   | some f => decide (d.reg (R.laneSpnuid (d.spareLane g)) = d.reg (R.wptNuid f))
   | none => false)

/-- Ask the far end to move a logical lane to the spare (R370 item 1). -/
def Dev.askSpare (d : Dev) (g logical : Nat) (test : Bool) : Dev := d.setSpare g { d.spare g with ask := some (logical, test) }

/-- Both ends carry the logical lane on the spare (R370 item 3): the old lane is freed, to be tested when `test`. -/
def Dev.moveLane (d : Dev) (g logical : Nat) (test : Bool) : Dev :=
  let old := d.carrier g logical
  let sp := d.spareLane g
  let st := d.reg (R.laneStatus old)
  let d1 := (d.laneUse sp (fld st 15 8) logical (fld st 19 16)).setLane sp 2
  let d2 := (d1.laneUse old 0xFF 0xF 0).setLane old (if test then 4 else 0)
  let d3 := (((d2.setRf (spareReg g) 62 60 3).setRf (spareReg g) 11 8 logical).setRf (spareReg g) 51 48 0).setRf (spareReg g) 63 63 0
  let d4 := d3.setSpare g { d3.spare g with ask := none, sw := none, ack := none }
  { d4 with lane := { d4.lane with freed := Tab.set (fun _ => false) d4.lane.freed old test } }

/-- The moves of a port's group that wait for its alignment codeword are made (R370 item 3). -/
def Dev.alignment (d : Dev) (port : Nat) : Dev :=
  let g := port / 16
  match (d.spare g).sw with
  | some (l, t) => if d.logicalPort g l = some port then d.moveLane g l t else d
  | none => d

/-- An Ethernet port's link state changes (R374, R385): an edge on its source. -/
def Dev.ethLink (d : Dev) (p : Nat) (up : Bool) : Dev :=
  if bit (d.reg (R.ethStatus p)) 63 = up then d
  else (((d.setRf (R.ethStatus p) 63 63 up.toNat).setRf (R.ethStatus p) 62 62 up.toNat)).edge (0x40 + p)

/-- A port goes out of service for a lane fault (R372): its link goes down and the lane is tested. -/
def Dev.portFault (d : Dev) (l : Nat) : Dev :=
  let d1 := match d.portOf (d.lanePort l) with
    | some (f, _, 1, _) => if (d.link f).lock then d.linkDown f else d
    | some (f, _, 2, _) => d.ethLink f false
    | _ => d
  d1.setLane l 4

/-- A requested move has been refused (R370, R373): the port is handled by R372. -/
def Dev.askRefused (d : Dev) (g : Nat) : Dev :=
  match (d.spare g).ask with
  | none => d
  | some (l, test) =>
    let d1 := ((d.setSpare g { d.spare g with ask := none }).setRf (spareReg g) 51 48 7).setRf (spareReg g) 63 63 0
    if test then d1.portFault (d1.carrier g l) else d1

/-- The lanes of a port train again (R372). -/
def Dev.retrain (d : Dev) (p : Nat) : Dev := (d.portLanes p).foldl (fun d l => d.setLane l 1) d

/-- The outcome of the self-test of a lane (R371, R372). A passing lane becomes the spare in reserve when a move freed it, else its
port trains again; a failing one is retired. -/
def Dev.laneTested (d : Dev) (l : Nat) (pass : Bool) : Dev :=
  let g := l / 17
  if Tab.get (fun _ => false) d.lane.freed l then
    let d1 : Dev := { d with lane := { d.lane with freed := Tab.set (fun _ => false) d.lane.freed l false } }
    if pass then
      ((((d1.setLane l 3).setSpare g { d1.spare g with lane := l % 17 }).setRf (spareReg g) 62 60 2)).setRf (spareReg g) 11 8 0
    else d1.setLane l 5
  else
    let port := d.lanePort l
    let d1 := d.setLane l (if pass then 1 else 5)
    match d1.portOf port with
    | some (f, _, 1, _) => d1.retrain f
    | some (f, _, 2, _) => if pass then d1.retrain f else d1.setRf (R.ethStatus f) 61 61 1
    | _ => d1

/-- Lanes at start (R366, R369): those of ports with a role train, the spares held in reserve train at their group's weir
mode; `retired` tells the lanes the start record retires, `saved` the settings from which those lanes begin that have valid ones (R368). -/
def Dev.lanesStart (d : Dev) (retired : Nat → Bool) (saved : Nat → Option (Word × Nat)) : Dev :=
  (List.range 136).foldl (fun d l =>
    if !(d.part.order.lane l) then d
    else
      let g := l / 17
      let i := l % 17
      let d0 := match saved l, retired l with
        | some (eq, rx), false =>
          let d1 := (d.setRf (R.laneStatus l) 1 1 1).setReg (R.laneEq l) eq
          { d1 with lane := { d1.lane with rx := Tab.set (fun _ => 0) d1.lane.rx l rx } }
        | _, _ => d
      if i = 16 then
        if sparePolicy d.felt.cfg g = 0 then
          let rate := ((List.range 16).findSome? (fun j => match d.portOf (16 * g + j) with
            | some (_, _, 1, sp) => some (1 + sp)
            | _ => none)).getD 0
          (((d0.laneUse l 0xFF 0xF rate).setLane l (if retired l then 5 else 1)).setRf (spareReg g) 62 60 (if retired l then 4 else 1)).setSpare
            g SpareSt.off
        else d
      else match d.portOf (16 * g + i) with
        | some (f, _, role, sp) =>
          if role = 1 ∨ role = 2 then ((d0.laneUse l f i (rateOf role sp)).setLane l (if retired l then 5 else 1)) else d
        | none => d) d

end Sys2Proof.Machine
end

