-- ==== Sys2Proof/Machine/Pep.lean ====
section
/-! DEFINITION. The host endpoint's functions, configuration space, writes to the host, MSI-X and dirty logging (14). Places of
fields that the PCI Express Base Specification fixes are taken from it (PRESUMED, log entry 15). -/

namespace Sys2Proof.Machine

/-- The dwords of configuration space that PF0 and the VFs have alike, from the PCI Express capability on (R387, R389): device and
link capabilities, MSI-X with its table and PBA in BAR0. -/
def cfgShared (o : Nat) : Nat :=
  match o with
  | 0x08 => 0x0B400000 | 0x50 => 0x0002A010 | 0x54 => 0x10008022 | 0x58 => 0x2010 | 0x5C => 0x00400105 | 0x74 => 0x30000
  | 0x7C => 0x3E | 0xA0 => 0x00400011 | 0xA4 => 0x2000 | 0xA8 => 0x3000
  | _ => 0

/-- Device ID of PF0, and Subsystem ID (R388). -/
def Order.deviceId (o : Order) : Nat := if o = .axj192ix then 0x0192 else 0x0256
def Order.subsystem (o : Order) : Nat := match o with
  | .axj256ix => 1 | .axj256cx => 2 | .axj192ix => 3

/-- Configuration space at reset by (4096 * function + dword offset): the header and capabilities of R388, R389 and R392, and the
values that the PCI Express specification gives the writable fields. -/
def cfgReset (p : Part) (k : Nat) : Nat :=
  let o := k % 4096
  if k < 4096 then
    match o with
    | 0x00 => 0x1E5A + 65536 * p.order.deviceId | 0x04 => 0x100000 | 0x08 => 0x0B400000 + (if p.b0 then 0x10 else 0)
    | 0x10 => 4 | 0x18 => 0xC | 0x2C => 0x1E5A + 65536 * p.order.subsystem | 0x34 => 0x40
    | 0x40 => 0x00035001 | 0x44 => 8 | 0x80 => 5
    | 0x100 => 0x14820001 | 0x10C => 0x00462030 | 0x114 => 0x2000 | 0x118 => 0xA0
    | 0x148 => 0x1501000E | 0x150 => 0x19010010 | 0x15C => 0x00800080 | 0x164 => 0x00010001 | 0x168 => 0x02570000
    | 0x16C => 1 | 0x170 => 1 | 0x174 => 4 | 0x17C => 0xC
    | 0x190 => 0x1A01000D | 0x194 => 0xC | 0x1A0 => 0x1B010003 | 0x1A4 => p.uid % 2 ^ 32 | 0x1A8 => p.uid / 2 ^ 32
    | 0x1B0 => 0x0001000B | 0x1B4 => 0x01010001
    | _ => cfgShared o
  else
    match o with
    | 0x00 => 0xFFFFFFFF | 0x04 => 0x100000 | 0x08 => 0x0B400000 + (if p.b0 then 0x10 else 0)
    | 0x2C => 0x1E5A + 65536 * p.order.subsystem | 0x34 => 0x50 | 0x58 => 0
    | 0x100 => 0x1101000E | 0x110 => 0x1201000D | 0x114 => 0xC | 0x120 => 0x0001000B | 0x124 => 0x01010001
    | _ => cfgShared o

/-- The writable bits of a configuration space dword (R388, R389, R392): of PF0, where the VF BAR2 has the size in effect, and of a
VF. -/
def cfgMask (b2log f o : Nat) : Nat :=
  if f = 0 then
    match o with
    | 0x04 => 0x146 | 0x10 => 0xFE000000 | 0x14 => 0xFFFFFFFF | 0x1C => 0xFFFFFFF0 | 0x30 => 0xFFF00001
    | 0x44 => 0x3 | 0x58 => 0x71FF | 0x60 => 0xC8 | 0x78 => 0x1000 | 0x80 => 0xF | 0xA0 => 0xC0000000
    | 0x108 => 0x01FFF030 | 0x10C => 0x01FFF030 | 0x114 => 0xF1C1 | 0x118 => 0x140
    | 0x158 => 0x19 | 0x160 => 0xFFFF | 0x174 => 0xFFFF0000 | 0x178 => 0xFFFFFFFF
    | 0x17C => 2 ^ 32 - 2 ^ min b2log 32 | 0x180 => 0xFFFFFFFF | 0x194 => 0xC0000
    | _ => 0
  else
    match o with
    | 0x04 => 0x4 | 0xA0 => 0xC0000000 | 0x114 => 0xC0000
    | _ => 0

def Dev.cfg (d : Dev) (f o : Nat) : Nat := Tab.get (cfgReset d.part) d.pep.cfg (4096 * f + o)
def Dev.setCfg (d : Dev) (f o v : Nat) : Dev :=
  { d with pep := { d.pep with cfg := Tab.set (cfgReset d.part) d.pep.cfg (4096 * f + o) v } }

/-- VF Enable and NumVFs (R391). -/
def Dev.vfEnable (d : Dev) : Bool := (d.cfg 0 0x158).testBit 0
def Dev.numVfs (d : Dev) : Nat := d.cfg 0 0x160 % 65536
/-- Whether a function exists (R391). -/
def Dev.fnExists (d : Dev) (f : Nat) : Bool := decide (f = 0) || (d.vfEnable && decide (f ≤ d.numVfs) && decide (f ≤ 128))
/-- PF0 in D3hot (R390). -/
def Dev.d3hot (d : Dev) : Bool := decide (d.cfg 0 0x44 % 4 = 3)
def Dev.bme (d : Dev) (f : Nat) : Bool := d.fnExists f && (d.cfg f 4).testBit 2 && !(decide (f = 0) && d.d3hot)
def Dev.mse (d : Dev) (f : Nat) : Bool :=
  d.fnExists f && (if f = 0 then (d.cfg 0 4).testBit 1 && !d.d3hot else (d.cfg 0 0x158).testBit 3)
def Dev.flrBusy (d : Dev) (f : Nat) : Bool := Tab.get (fun _ => false) d.pep.flr f
/-- PEP.STATUS.LINK. -/
def Dev.pcieLink (d : Dev) : Bool := bit (d.reg R.pepStatus) 63
/-- Max_Payload_Size, at most 512 bytes, and Max_Read_Request_Size (R389). -/
def Dev.mps (d : Dev) : Nat := min 512 (128 * 2 ^ (d.cfg 0 0x58 / 32 % 8))
def Dev.mrrs (d : Dev) : Nat := 128 * 2 ^ min 5 (d.cfg 0 0x58 / 4096 % 8)
/-- Whether a function may send (R398, R414, R415). -/
def Dev.mayBus (d : Dev) (f : Nat) : Bool := d.bme f && !(d.flrBusy f) && d.pcieLink

/-- The read-only fields of PEP.FNf.FNCFG follow the function's state (R391, FNCFG). -/
def Dev.fnShow (d : Dev) (f : Nat) : Dev :=
  let w := d.reg (R.pepFncfg f)
  let own := fnOwner d.felt.cfg f
  let w1 := setFld (setFld (setFld w 63 63 own.isSome.toNat) 62 62 ((own.map (·.2)).getD false).toNat) 61 57 ((own.map (·.1)).getD 0)
  d.setReg (R.pepFncfg f) (setFld (setFld (setFld w1 56 56 (d.bme f).toNat) 55 55 (d.mse f).toNat) 54 54 (d.flrBusy f).toNat)

/-- The same for every function. -/
def Dev.fnShowAll (d : Dev) : Dev := (List.range 129).foldl (fun d f => d.fnShow f) d

/-- Registers of BAR0 by function and offset; an MSI-X vector's mask bit is set at reset. -/
def hregReset (k : Nat) : Word :=
  let o := k % 2 ^ 25
  if 0x2000 ≤ o ∧ o < 0x2410 ∧ o % 16 = 8 then 0x100000000#64 else 0
def hkey (f o : Nat) : Nat := f * 2 ^ 25 + o
def Dev.hreg (d : Dev) (f o : Nat) : Word := Tab.get hregReset d.hregs (hkey f o)
def Dev.setHreg (d : Dev) (f o : Nat) (v : Word) : Dev := { d with hregs := Tab.set hregReset d.hregs (hkey f o) v }
def Dev.hf (d : Dev) (f o hi lo : Nat) : Nat := fld (d.hreg f o) hi lo
def Dev.setHf (d : Dev) (f o hi lo v : Nat) : Dev := d.setHreg f o (setFld (d.hreg f o) hi lo v)

/-- The last failure of a function's outbound requests (R398, R400). -/
def Dev.outBad (d : Dev) (f status off : Nat) : Dev :=
  if 128 < f then d else (d.setRf (R.pepOutfail f) 63 60 status).setRf (R.pepOutfail f) 43 0 off

/-- The parts of a transfer: they end at multiples of `size` and never cross 4 KiB (R399). -/
def splitAt4k (size : Nat) : Nat → Nat → Nat → List (Nat × Nat)
  | 0, _, _ => []
  | n + 1, a, len =>
    if len = 0 then []
    else
      let k := min len (min (size - a % size) (4096 - a % 4096))
      (a, k) :: splitAt4k size n (a + k) (len - k)

/-- The dirty-log registers of a VF (R412). -/
def dlCtl (v : Nat) : Nat := 0x20000 + 32 * v

/-- A tag that is neither outstanding nor held, while fewer than 768 requests are outstanding (R387, R400). -/
def Dev.pcieTag (d : Dev) : Option Nat :=
  if 768 ≤ d.pep.reads.length then none
  else (List.range 1024).find? (fun t => !(d.pep.reads.any (fun r => decide (r.tag = t))) && !(d.pep.squash.any (fun s => decide (s.1 = t))))

/-- Send a read to the host; false when no tag is free. -/
def Dev.sendRead (d : Dev) (f addr len : Nat) (use : ReadFor) : Bool × Dev :=
  match d.pcieTag with
  | none => (false, d)
  | some t => (true, { d with pep := { d.pep with
      reads := d.pep.reads ++ [{ tag := t, fn := f, addr := addr, len := len, got := [], use := use }] } })

/-- Put memory writes on the link; the last 256 are kept. (DEDUCED, log entry 172.) -/
def Dev.putTlp (d : Dev) (f : Nat) (parts : List (Nat × List Byte)) (relaxed : Bool) : Dev :=
  let all := d.pep.sent ++ parts.map (fun p => { fn := f, addr := p.1, data := p.2, relaxed := relaxed })
  { d with pep := { d.pep with sent := all.drop (all.length - 256) } }

/-- Whether a read of a dirty map word is outstanding (R412: updates of one word are serialised). -/
def Dev.dirtyAsked (d : Dev) (v sel w : Nat) : Bool :=
  d.pep.reads.any (fun r => match r.use with
    | .dirty v' s' w' => decide (v' = v) && decide (s' = sel) && decide (w' = w)
    | _ => false)

/-- Host address of a word of a VF's dirty map. -/
def Dev.mapWord (d : Dev) (v sel w : Nat) : Nat := (d.hreg 0 (dlCtl v + 16 + 8 * sel)).toNat / 8 * 8 + 8 * w

/-- Start the read of every dirty map word that waits for it. -/
def Dev.dirtyPump (d : Dev) : Dev :=
  d.pep.dirty.foldl (fun d e =>
    if d.dirtyAsked e.1 e.2.1 (e.2.2 / 64) then d
    else (d.sendRead e.1 (d.mapWord e.1 e.2.1 (e.2.2 / 64)) 8 (.dirty e.1 e.2.1 (e.2.2 / 64))).2) d

/-- Log the pages a write touches (R412). -/
def Dev.dirtyLog (d : Dev) (v addr len : Nat) : Dev :=
  let c := d.hreg 0 (dlCtl v)
  if v = 0 ∨ !(bit c 63) ∨ len = 0 then d
  else
    let base := (d.hreg 0 (dlCtl v + 8)).toNat / 4096 * 4096
    let pages := fld c 24 0
    let sel := (bit c 62).toNat
    let ps := (List.range ((addr + len - 1) / 4096 - addr / 4096 + 1)).map (fun i => addr / 4096 + i)
    let d1 := ps.foldl (fun d p =>
      if base ≤ 4096 * p ∧ 4096 * p < base + 4096 * pages then
        let e := (v, sel, p - base / 4096)
        if d.pep.dirty.contains e then d else { d with pep := { d.pep with dirty := d.pep.dirty ++ [e] } }
      else d.setHf 0 (dlCtl v) 59 59 1) d
    d1.dirtyPump

/-- Send a memory write in a function's name (R399, R412). -/
def Dev.sendWrite (d : Dev) (f addr : Nat) (data : List Byte) (relaxed : Bool) : Dev :=
  let parts := (splitAt4k d.mps (data.length + 1) addr data.length).map (fun p => (p.1, (data.drop (p.1 - addr)).take p.2))
  (d.putTlp f parts relaxed).dirtyLog f addr data.length

/-- Accesses of the outbound window that an agent has waiting or under way, of one function. -/
def ExtAcc.ofFn (e : ExtAcc) (f : Nat) : Bool := !e.weir && decide ((e.pa - 0x500000000000) / 2 ^ 36 = f)

/-- An access leaves the list when a core's posted write, else keeps its outcome for its agent (R216, R338, R398). -/
def Dev.finishHost (d : Dev) (e : ExtAcc) (status : Nat) (data : List Byte) : Dev :=
  if e.write ∧ e.agent < 0x200 ∧ !e.strict then { d with ext := d.ext.erase e }
  else { d with ext := d.ext.map (fun x => if x = e then { x with st := .finished, status := status, data := data } else x) }

/-- Send an accepted write (R399): a data write of a DMA channel carries Relaxed Ordering where its function enables it. -/
def Dev.sendOut (d : Dev) (f : Nat) (e : ExtAcc) : Dev :=
  (d.sendWrite f e.host e.data (decide (0x200 ≤ e.agent) && (d.cfg 0 0x58).testBit 4)).finishHost e 0 e.data

/-- The accepted writes of a function are sent before a CQ entry or an MSI-X message of it (R406). (DEDUCED, log entry 261.) -/
def Dev.sendAhead (d : Dev) (f : Nat) : Dev :=
  (d.ext.filter (fun e => e.ofFn f && decide (e.st = .accepted) && e.write)).foldl (fun d e => d.sendOut f e) d

/-- Send an MSI-X vector, or leave it pending while it is masked or its function may not send (R410); with MSI-X Enable = 0 nothing
is sent. -/
def Dev.msix (d : Dev) (f v : Nat) : Dev :=
  let c := d.cfg f 0xA0
  if 64 < v ∨ !(c.testBit 31) then d
  else if c.testBit 30 || bit (d.hreg f (0x2000 + 16 * v + 8)) 32 || !(d.mayBus f) then
    { d with pep := { d.pep with msix := Tab.set (fun _ => false) d.pep.msix (65 * f + v) true } }
  else
    let d1 : Dev := (({ d with pep := { d.pep with msix := Tab.set (fun _ => false) d.pep.msix (65 * f + v) false } } : Dev)).sendAhead f
    d1.sendWrite f (d1.hreg f (0x2000 + 16 * v)).toNat (bytesLE 4 (d1.hf f (0x2000 + 16 * v + 8) 31 0)) false

/-- Send the pending vectors of a function that may go. -/
def Dev.msixFlush (d : Dev) (f : Nat) : Dev :=
  (List.range 65).foldl (fun d v => if Tab.get (fun _ => false) d.pep.msix (65 * f + v) then d.msix f v else d) d

/-- Set a bit of FNEVENT: its change from 0 to 1 sends vector 0. -/
def Dev.fnEvent (d : Dev) (f b : Nat) : Dev :=
  if bit (d.hreg f 8) b then d else (d.setHf f 8 b b 1).msix f 0

/-- An AER uncorrectable error of PF0's log (R389): the first one that is not masked is pointed at, and its packet's header is logged. -/
def Dev.aer (d : Dev) (b : Nat) : Dev :=
  let mask := d.cfg 0 0x108
  let first := !(mask.testBit b) && decide (d.cfg 0 0x104 &&& (2 ^ 32 - 1 - mask &&& (2 ^ 32 - 1)) = 0)
  let d1 := d.setCfg 0 0x104 (d.cfg 0 0x104 ||| 2 ^ b)
  if !first then d1
  else
    let h := (Config.tlpHeader d.pep.errs).toNat
    let d2 := (List.range 4).foldl (fun d i => d.setCfg 0 (0x11C + 4 * i) (h / 2 ^ (32 * i) % 2 ^ 32))
      (d1.setCfg 0 0x118 (d1.cfg 0 0x118 / 32 * 32 + b))
    { d2 with pep := { d2.pep with errs := d2.pep.errs + 1 } }

/-- A queue pair. -/
def Dev.qp (d : Dev) (f q : Nat) : QPair := Tab.get (fun _ => QPair.off) d.pep.qps (64 * f + q)
def Dev.setQp (d : Dev) (f q : Nat) (x : QPair) : Dev :=
  { d with pep := { d.pep with qps := Tab.set (fun _ => QPair.off) d.pep.qps (64 * f + q) x } }
/-- A function's limit of queue pairs. -/
def Dev.qlimit (d : Dev) (f : Nat) : Nat := d.rf (R.pepFncfg f) 45 39
/-- QCTLq, SQBASEq and CQBASEq of a function. -/
def qCtl (q : Nat) : Nat := 0x110 + 32 * q
/-- Whether a queue pair runs (R402). -/
def Dev.qact (d : Dev) (f q : Nat) : Bool := decide (q < d.qlimit f) && (d.qp f q).on && bit (d.hreg f (qCtl q)) 63
/-- Entries of an SQ and a CQ, of a job ring and a completion ring: 4 to 12 bits. -/
def qSize (k : Nat) : Nat := 2 ^ (max 4 (min 12 k))
def Dev.sqSize (d : Dev) (f q : Nat) : Nat := qSize (d.hf f (qCtl q) 43 40)
def Dev.cqSize (d : Dev) (f q : Nat) : Nat := qSize (d.hf f (qCtl q) 47 44)
def QPair.jrSize (x : QPair) : Nat := qSize (fld (x.ctx.getD 1 0) 3 0)
def QPair.crSize (x : QPair) : Nat := qSize (fld (x.ctx.getD 4 0) 3 0)

/-- Fetch SQ entries from where fetching stands up to the tail (R404). (DEDUCED, log entry 170.) -/
def Dev.sqFetch (d : Dev) (f q : Nat) : Dev :=
  let n := d.sqSize f q
  (List.range n).foldl (fun d _ =>
    let x := d.qp f q
    if x.asked = x.sqtail ∨ !(d.qact f q) ∨ !(d.mayBus f) then d
    else
      let r := d.sendRead f ((d.hreg f (0x100 + 32 * q)).toNat / 64 * 64 + 64 * x.asked) 64 (.entry q x.asked)
      if r.1 then r.2.setQp f q { x with asked := (x.asked + 1) % n } else d) d

/-- Whether the CQ has room (R405). -/
def Dev.cqRoom (d : Dev) (f q : Nat) : Bool :=
  decide ((d.hf f (qCtl q) 11 0 + 1) % d.cqSize f q ≠ (d.qp f q).cqhead)

/-- Write a CQ entry (R405). -/
def Dev.cqEntry (d : Dev) (f q cid stat : Nat) (result : Word) : Dev :=
  let x := d.qp f q
  let tl := d.hf f (qCtl q) 11 0
  let w0 : Word := setFld (setFld (setFld (setFld 0 63 63 x.phase.toNat) 35 32 stat) 31 16 (d.hf f (qCtl q) 27 16)) 15 0 cid
  let d1 := (d.sendAhead f).sendWrite f ((d.hreg f (0x108 + 32 * q)).toNat / 64 * 64 + 16 * tl) (bytesLE 8 w0.toNat ++ bytesLE 8 result.toNat) false
  let wrap := decide (tl + 1 = d.cqSize f q)
  (d1.setHf f (qCtl q) 11 0 (if wrap then 0 else tl + 1)).setQp f q { x with phase := if wrap then !x.phase else x.phase }

/-- Raise a function's host doorbell: a sluice event of kind 4 for a context, or source 0x200 + f (R403, R407). -/
def Dev.hostBell (d : Dev) (f : Nat) (ev : Option (Nat × Nat)) : Dev :=
  match ev with
  | some (c, x) =>
    (d.sluiceEvent { kind := 4, src := f, angle := d.reg R.atbNow, cluster := c, slot := x
                     pond := ((fnOwner d.felt.cfg f).map (·.1)).getD 32 }).2
  | none => d.edge (0x200 + f)

/-- The requester of a function (R391). -/
def Dev.fnReq (d : Dev) (f : Nat) : Req :=
  match fnOwner d.felt.cfg f with
  | some (p, sec) => { pond := p, secure := sec, dev := false, dbg := false }
  | none => { pond := 32, secure := false, dev := false, dbg := false }

/-- A function starts no new request: its accesses not yet sent complete with ABORTED (R414, R415). `posted`: writes already
accepted are sent all the same. -/
def Dev.abortFn (d : Dev) (f : Nat) (posted : Bool) : Dev :=
  (d.ext.filter (fun e => e.ofFn f && decide (e.st = .accepted))).foldl (fun d e =>
    if e.write && posted then d.sendOut f e
    else (d.outBad f 5 ((e.pa - 0x500000000000) % 2 ^ 44)).finishHost e 5 []) d

/-- An FLR begins (R415, R416): of PF0 also every VF's. -/
def Dev.flrBegin (d : Dev) (f : Nat) : Dev :=
  let fs := if f = 0 then (List.range 129).filter (fun g => d.fnExists g) else [f]
  fs.foldl (fun d g =>
    if d.flrBusy g then d
    else
      let d1 := d.abortFn g true
      ({ d1 with pep := { d1.pep with flr := Tab.set (fun _ => false) d1.pep.flr g true } } : Dev).fnShow g) d

/-- The function's state after step 4 of R415: configuration space, queue state, MSI-X table and BAR0 registers at reset. -/
def Dev.fnReset (d : Dev) (f : Nat) : Dev :=
  { d with
    hregs := d.hregs.filter (fun e => decide (e.1 / 2 ^ 25 ≠ f))
    pep := { d.pep with
      cfg := d.pep.cfg.filter (fun e => decide (e.1 / 4096 ≠ f))
      qps := d.pep.qps.filter (fun e => decide (e.1 / 64 ≠ f))
      msix := d.pep.msix.filter (fun e => decide (e.1 / 65 ≠ f))
      qcmd := d.pep.qcmd
      dirty := if f = 0 then [] else d.pep.dirty.filter (fun e => decide (e.1 ≠ f)) } }

/-- PEP.QCMDSTAT of a pond. -/
def Dev.qcmdStat (d : Dev) (p f q st : Nat) : Dev :=
  d.setReg (R.pepQcmdstat p) (setFld (setFld (setFld 0 39 32 f) 29 24 q) 3 0 st)

/-- The check of a write to PEP (R7, R49): QCMD and QDB act only for the owner of FN. -/
def Dev.pepWriteOk (d : Dev) (rq : Req) (o : Nat) (new : Word) : Bool :=
  if o = 0x10 ∨ o = 0x18 then
    decide (fld new 39 32 ≤ 128) && ownerAdmits (fnOwner d.felt.cfg (fld new 39 32)) rq
  else if o = 0x20 then decide (22 ≤ fld new 4 0)
  else if 0x1000 ≤ o ∧ (o - 0x1000) % 64 = 0 then decide (fld new 52 46 ≤ 64)
  else if 0x1000 ≤ o ∧ (o - 0x1000) % 64 = 0x20 then decide (fld new 47 32 ≤ 32768) && decide (fld new 24 0 ≤ 16777216)
  else true

/-- A change of VFCFG.B2LOG takes effect only while VF Enable = 0 (R392). -/
def Dev.takeB2log (d : Dev) : Dev :=
  if d.vfEnable then d else { d with pep := { d.pep with b2log := d.rf R.pepVfcfg 4 0 } }

/-- The bytes of BAR2 of a function (R388, R392). -/
def Dev.bar2Size (d : Dev) (f : Nat) : Nat := if f = 0 then 0x1000000000 else 2 ^ d.pep.b2log

/-- Dwords of configuration space as the host reads them: those the device fills in follow its state (R389, R393, R415): Transactions
Pending, the link's speed and width, FNSTAT in the VSEC. -/
def Dev.cfgValue (d : Dev) (fnstat : Nat → Word) (f o : Nat) : Nat :=
  let v := d.cfg f o
  let vsec := if f = 0 then 0x1B8 else 0x128
  let pending := d.flrBusy f || d.pep.reads.any (fun r => decide (r.fn = f))
  if o = 0x58 then v + pending.toNat * 2 ^ 21
  else if o = 0x60 ∧ f = 0 then v + d.rf R.pepStatus 62 60 * 2 ^ 16 + d.rf R.pepStatus 59 55 * 2 ^ 20
  else if o = vsec then (fnstat f).toNat % 2 ^ 32
  else if o = vsec + 4 then (fnstat f).toNat / 2 ^ 32
  else v

/-- The action of a write to PEP: a QCMD or QDB write waits for the endpoint, and a command not listed is refused at once
(R525); a write of the upper half of QCMD alone acts with CMD and LIMIT as last written. (DESIGN CHOICE, log entry 236.) -/
def Dev.pepPost (d : Dev) (o : Nat) (new : Word) : Dev :=
  let f := fld new 39 32
  let q := fld new 29 24
  if o = 0x10 then
    let c := fld new 19 16
    let p := ((fnOwner d.felt.cfg f).map (·.1)).getD 0
    if 1 ≤ c ∧ c ≤ 3 then { d with pep := { d.pep with qcmd := d.pep.qcmd ++ [(f, q, c, fld new 6 0)] } }
    else d.qcmdStat p f q 3
  else if o = 0x18 then { d with pep := { d.pep with qdb := d.pep.qdb ++ [(f, q, (bit new 16).toNat, fld new 11 0)] } }
  else if o = 0x20 then d.takeB2log
  else d

end Sys2Proof.Machine
end

