-- ==== Sys2Proof/Machine/Blocking.lean ====
section
/-! DEFINITION. What blocking loads into the registers from the configuration (02 R48; 03 R68, R69, R82; 13 R374; 15 R432;
16 R453, R475; 17 R482; 19 R512, R513). -/

namespace Sys2Proof.Machine

/-- The bound in force of a setting for a pond (R49). -/
def Dev.bound (d : Dev) (code pond : Nat) : Nat × Nat :=
  boundOf d.felt.cfg code pond (dfltBound d.felt.cfg d.part.tdp code pond)

/-- A register field returns to the nearer end of a bound that has been narrowed so that it lies outside; the owning block records
a refused write (R50). `was`: the bound before. -/
def Dev.clampReg (d : Dev) (b : Blk) (i o hi lo : Nat) (was bnd : Nat × Nat) : Dev :=
  let off := b.base + i * b.stride + o
  let v := d.rf off hi lo
  if (bnd.1 ≤ was.1 ∧ was.2 ≤ bnd.2) ∨ (bnd.1 ≤ v ∧ v ≤ bnd.2) then d
  else (d.setRf off hi lo (if v < bnd.1 then bnd.1 else bnd.2)).refuse b i o

/-- Clamp every register that a setting's bound governs (R50), `old` being the configuration before: a register of a pond's
instance by the bound of that pond, a device-wide one by the bound of all ponds. -/
def Dev.clampAll (d : Dev) (old : List Rec) (code : Nat) : Dev :=
  let clusters := (List.range 32).filterMap (fun c => (clusterOwner d.felt.cfg c).map (fun p => (c, p)))
  let was (pond : Nat) : Nat × Nat := boundOf old code pond (dfltBound old d.part.tdp code pond)
  let wide (b : Blk) (o : Nat) : Dev := d.clampReg b 0 o 15 0 (was 0xFF) (d.bound code 0xFF)
  match code with
  | 1 => wide .atb 0x28
  | 2 => wide .atb 0x30
  | 3 => wide .atb 0x38
  | 4 => wide .atb 0x40
  | 5 => wide .pwr (R.pwrCap - Blk.pwr.base)
  | 6 => clusters.foldl (fun d x => d.clampReg .clu x.1 0x60 15 0 (was x.2) (d.bound 6 x.2)) d
  | 7 => ((List.range 16).filter d.part.order.channel).foldl (fun d ch => (ponds d.felt.cfg).foldl (fun d p =>
      d.clampReg .dmc ch (R.dmcShare 0 p - R.dmcStatus 0) 6 0 (was p) (d.bound 7 p)) d) d
  | 8 => (List.range 129).foldl (fun d f => match fnOwner d.felt.cfg f with
      | some (p, _) => d.clampReg .pep 0 (R.pepCpltimeout f - R.pepStatus) 15 0 (was p) (d.bound 8 p)
      | none => d) d
  | 9 => clusters.foldl (fun d x => d.clampReg .clu x.1 0x10 3 0 (was x.2) (d.bound 9 x.2)) d
  | _ => d

/-- The interrupt source fields of an IRQ record (IC.SRCCFG): the target set is the pond's first. -/
def srcCfgOf (pond world flags : Nat) : Word :=
  setFld (setFld (setFld (setFld (setFld (setFld 0 58 54 pond) 53 53 world) 52 52 (flags % 2)) 51 51 (flags / 2 % 2)) 50 50 1)
    7 0 (8 * pond)

/-- The hold fields of a domain's DOMCTL; without a hold LOWEST is 3 (R440, PWR.DOMCTL). -/
def Dev.loadHold (d : Dev) (dom : Nat) : Dev :=
  let (l, w, p) := match holdOf d.felt.cfg dom with
    | some (l, w, p) => (l, w, p)
    | none => (3, false, 0)
  let r := R.pwrDomctl dom
  ((((d.setRf r 52 51 l).setRf r 50 50 w.toNat).setRf r 49 49 (decide (p = 0xFF)).toNat)).setRf r 48 44 (if p = 0xFF then 0 else p)

/-- The registers a cluster takes from its pond (R49, CLU.PRIOMAX, CLU.FREQREQ). -/
def Dev.loadCluster (d : Dev) (c pond : Nat) : Dev :=
  (d.setRf (R.cluPriomax c) 3 0 (d.bound 9 pond).2).setRf (R.cluFreqreq c) 15 0 (d.bound 6 pond).2

/-- A pin's configuration and its level from blocking on (R512, R513): outputs low, board enables high. -/
def Dev.loadPin (d : Dev) (n pond world func : Nat) : Dev :=
  let d1 := d.setReg (R.pinCfg n) (setFld (setFld (setFld (setFld 0 63 63 1) 62 62 world) 61 57 pond) 56 55 func)
  if func = 1 then d1.drivePin n false else if func = 2 then d1.drivePin n true else d1

/-- A source's kind, and reason 7 for one that is permanently invalid (R69, ATB.SRCSTAT). (DEDUCED, log entry 89.) -/
def Dev.loadSource (d : Dev) (p kind inst : Nat) : Dev :=
  d.setReg (R.atbSrcstat p) (setFld (setFld 0 30 28 kind) 27 24 (if d.srcDead kind inst then 7 else 0))

/-- What blocking loads for one record. -/
def Dev.loadRec (d : Dev) (r : Rec) : Dev :=
  match r with
  | .pond p _ _ m _ _ s =>
    let d1 := (setBits m 32).foldl (fun d c => if d.part.order.cluster c then d.loadCluster c p else d) d
    let d2 := (List.range 16).foldl (fun d ch => if d.part.order.channel ch then d.setRf (R.dmcShare ch p) 6 0 s else d) d1
    match (setBits (pondAffinity d.felt.cfg p) 32).head? with
    | some c => d2.setRf (R.errMctgt p) 7 0 (8 * c)
    | none => d2
  | .debug p e => (d.setRf (R.secDbgen p) 3 0 e).dbgenShow p
  | .hold dom _ _ _ => d.loadHold dom
  | .irq f n p w fl => (List.range n).foldl (fun d i => d.setReg (R.icSrccfg (f + i)) (srcCfgOf p w fl)) d
  | .pin n p w f => d.loadPin n p w f
  | .mark sc n mo ac p an pe t => d.loadMark sc n mo ac p an pe t
  | .atbSource p k i _ _ => d.loadSource p k i
  | _ => d

/-- The Ethernet ports in ascending number: those with an Ethernet PORT record (R374). -/
def Dev.ethPorts (d : Dev) : List Nat := (List.range 128).filter (fun p => (ethOwner d.felt.cfg p).isSome && d.part.order.port p &&
  (match portRec d.felt.cfg p with
   | some (f, _) => decide (f = p)
   | none => false))

/-- MAC numbers from 0 upward in ascending port number (R374). -/
def Dev.loadMacs (d : Dev) : Dev :=
  (d.ethPorts.foldl (fun (x : Dev × Nat) p => (x.1.setRf (R.ethStatus p) 52 48 x.2, x.2 + 1)) (d, 0)).1

/-- What blocking loads into the registers (R48). (DEDUCED, log entry 122.) -/
def Dev.loadCfg (d : Dev) : Dev :=
  let d1 := d.felt.cfg.foldl (fun d r => d.loadRec r) d
  let d2 := d1.setRf R.pwrCap 15 0 ((capOf d.felt.cfg).getD d.part.tdp)
  let d3 := (d2.loadMacs).fnShowAll
  d3.setRf R.wxStatus 3 0 (if (roleOf d.felt.cfg).1 = 0 then 0 else 1)

/-- The nominal frequency takes effect at blocking (R68). -/
def Dev.loadNominal (d : Dev) : Dev :=
  let n := atbNominal d.felt.cfg
  ({ d with atb := { d.atb with fest := n, mean := n } }).setReg R.atbFreq (word n)

end Sys2Proof.Machine
end

