-- ==== Sys2Proof/Machine/Nv.lean ====
section
/-! DEFINITION. Writes that reach the record store (02 R59; 18 R510). -/

namespace Sys2Proof.Machine

/-- Perform a write to bytes of the record store: an image slot written erases the amendment log (R59); a 64-byte record
write is counted (R510); a whole line written is no longer uncorrectable (R255). (DEDUCED, log entry 121.) -/
def State.nvWrite (s : State) (pa : Nat) (bs : List Byte) : State :=
  let s1 := s.onMem (fun m => (List.range ((pa % 64 + bs.length) / 64 + 1)).foldl (fun m i =>
    let l := pa / 64 + i
    if pa ≤ l * 64 ∧ l * 64 + 64 ≤ pa + bs.length ∧ m.dramPois l then m.setPoison l false else m) (m.put pa bs))
  let s2 := if pa - nvBase < 0x800000 then
      s1.onMem (fun m => { m with img := m.img.filter (fun e =>
        decide (e.1 < nvBase + 0x800000) || decide (nvBase + 0x900000 ≤ e.1)) })
    else s1
  if bs.length = 64 ∧ pa % 64 = 0 then s2.onDev (fun d => d.wrapAdd R.nvsWrcnt 63 0 1) else s2

end Sys2Proof.Machine
end

