-- ==== Sys2Proof/Machine/HkDmc.lean ====
section
/-! DEFINITION. The DRAM channels: their registers, page policy, error handling, sparing (11). -/

namespace Sys2Proof.Machine

def Dev.chan (d : Dev) (ch : Nat) : Chan := Tab.get (fun _ => Chan.off) d.chans ch
def Dev.setChan (d : Dev) (ch : Nat) (c : Chan) : Dev := { d with chans := Tab.set (fun _ => Chan.off) d.chans ch c }
def Dev.modChan (d : Dev) (ch : Nat) (f : Chan → Chan) : Dev := d.setChan ch (f (d.chan ch))

/-- The key of a histogram count (R302). -/
def histKey (pond cls k : Nat) : Nat := (pond * 4 + cls) * 8 + k

/-- The bucket of a latency (R302). -/
def histBucket (ns : Nat) : Nat :=
  if ns ≤ 100 then 0 else if ns ≤ 200 then 1 else if ns ≤ 400 then 2 else if ns ≤ 800 then 3
  else if ns ≤ 1600 then 4 else if ns ≤ 3200 then 5 else if ns ≤ 6400 then 6 else 7

/-- Count a request in the histogram (R302). -/
def Dev.histCount (d : Dev) (ch pond cls ns : Nat) : Dev :=
  d.modChan ch (fun c =>
    let k := histKey (pond % 32) (cls % 4) (histBucket ns)
    { c with hist := Tab.set (fun _ => 0) c.hist k (satAdd 0xFFFFFFFF (Tab.get (fun _ => 0) c.hist k) 1) })

/-- A DMC register as it is read: HIST shows the selection, to its pond or the secure world (R302). -/
def Dev.dmcValue (d : Dev) (rq : Req) (ch o : Nat) (v : Word) : Word :=
  if 0x208 ≤ o ∧ o < 0x248 then
    let sel := d.reg (R.dmcHsel ch)
    if fld sel 6 2 ≠ rq.pond ∧ !rq.secure then 0
    else word (Tab.get (fun _ => 0) (d.chan ch).hist (histKey (fld sel 6 2) (fld sel 1 0) ((o - 0x208) / 8)))
  else v

/-- HSEL.CLR is accepted only under the condition of R302; SCRUB.HOURS lies from 1 to 720. (DEDUCED, log entry 133.) -/
def Dev.dmcWriteOk (rq : Req) (o : Nat) (new : Word) : Bool :=
  if o = 0x200 ∧ bit new 63 then rq.secure || decide (fld new 6 2 = rq.pond)
  else if o = 0x48 then decide (1 ≤ fld new 15 0) && decide (fld new 15 0 ≤ 720)
  else true

/-- What follows a write of HSEL: the counts of the selection are cleared. -/
def Dev.dmcPost (d : Dev) (ch o : Nat) (new : Word) : Dev :=
  if o = 0x200 ∧ bit new 63 then
    (d.modChan ch (fun c => { c with hist := c.hist.filter (fun e =>
      decide (e.1 / 8 ≠ fld new 6 2 * 4 + fld new 1 0)) })).setRf (R.dmcHsel ch) 63 63 0
  else d

/-- The state of a rank as RANKSPARE shows it. -/
def Chan.rankState (c : Chan) (r : Nat) : Nat :=
  if !(c.ranks.testBit r) then 0
  else if c.retired.testBit r then 4
  else if c.spare = some r then (if c.used then 3 else 2)
  else if c.failed.testBit r then 5 else 1

/-- RANKSPARE shows the ranks; `mig` is its MIG field. -/
def Dev.showRanks (d : Dev) (ch mig frm tgt : Nat) : Dev :=
  let c := d.chan ch
  let v : Word := setFld (setFld (setFld (setFld (setFld (setFld (setFld 0 25 24 mig) 23 22 frm) 21 20 tgt)
    14 12 (c.rankState 3)) 10 8 (c.rankState 2)) 6 4 (c.rankState 1)) 2 0 (c.rankState 0)
  d.setReg (R.dmcRankspare ch) v

/-- RANKSPARE after a change of a rank's state, its migration fields kept. -/
def Dev.refreshRanks (d : Dev) (ch : Nat) : Dev :=
  d.showRanks ch (d.rf (R.dmcRankspare ch) 25 24) (d.rf (R.dmcRankspare ch) 23 22) (d.rf (R.dmcRankspare ch) 21 20)

/-- Set a DMC.EVENT bit for an error whose own record is sent beside it. -/
def Dev.dmcBit (d : Dev) (ch b : Nat) : Dev := d.setReg (R.dmcEvent ch) (setBit (d.reg (R.dmcEvent ch)) b true)

/-- The record of a DRAM error at an address (R478, R479, R484): rank and coordinates in DETAIL. -/
def Dev.dramReport (d : Dev) (ch rank la : Nat) (pa : Option Nat) (sev : Nat) (mc : Bool) : Dev :=
  let x := dramCoord (d.chan ch).rbits la
  let own := pa.bind (fun a => (rangeOf d.felt.cfg a).map (·.1))
  let sec := match pa, own with
    | some a, some p => securePart d.felt.cfg p a
    | _, _ => false
  d.reportTest (ch / 4) 5 1 (4 * ch + rank) sev (own.getD 0xFF) ((if sec then 1 else 0) + (if pa.isSome then 2 else 0))
    (pa.getD 0) mc ([BitVec.ofNat 8 rank, BitVec.ofNat 8 x.bg, BitVec.ofNat 8 x.bank] ++ bytesLE 3 x.row ++ bytesLE 2 x.col)

/-- Start the migration of a rank to the spare (R313). -/
def Dev.startMig (d : Dev) (ch rank tgt : Nat) (cmd : Bool) : Dev :=
  (((d.modChan ch (fun c => { c with mig := some (rank, tgt), cmdFail := cmd })).setReg (R.dmcMigptr ch) 0).showRanks
    ch 1 rank tgt).dmcEvent ch 4

/-- The spare to which a rank may migrate: held, not in use, no migration under way, the rank in service (R313). -/
def Chan.spareFor (c : Chan) (rank : Nat) : Option Nat :=
  if c.mig.isNone && !c.used && c.pos.contains rank then c.spare else none

/-- An uncorrectable error or a command failure on a rank (R313, R315, R316). -/
def Dev.rankError (d : Dev) (ch rank : Nat) (cmd : Bool) : Dev :=
  let c := d.chan ch
  let fail : Dev :=
    if c.failed.testBit rank then d
    else (((d.modChan ch (fun c => { c with failed := c.failed ||| 2 ^ rank })).refreshRanks ch).dmcBit ch 6).report (ch / 4) 5 5
      (4 * ch + rank) 2 0 0xFF 8 0 []
  match c.mig with
  | some (frm, tgt) =>
    if rank = frm then d.modChan ch (fun c => { c with cmdFail := c.cmdFail || cmd })
    else if rank = tgt then d
    else if c.pos.contains rank then fail else d
  | none =>
    match c.spareFor rank with
    | some t => d.startMig ch rank t cmd
    | none => if c.pos.contains rank then fail else d

/-- The rank that serves a channel-local address: during a migration, the spare below the pointer (R314). -/
def Dev.rankAt (d : Dev) (ch la : Nat) : Nat :=
  let c := d.chan ch
  let r := c.pos.getD (la / c.rankSize) 0
  match c.mig with
  | some (frm, tgt) => if r = frm ∧ la % c.rankSize < d.rf (R.dmcMigptr ch) 36 6 * 64 then tgt else r
  | none => r

/-- The physical address of a channel-local one: the inverse of R293. -/
def dramUnmap (cfg : List Rec) (ch la : Nat) : Option Nat :=
  (dramRanges cfg).findSome? (fun r =>
    if !(r.2.1.testBit ch) then none
    else
      let chs := setBits r.2.1 16
      let k := chs.length
      let cb := chbase cfg r.2.2.1 ch
      if la < cb then none
      else
        let o := ((la - cb) / 256 * k + chs.idxOf ch) * 256 + la % 256
        if o < r.2.2.2 then some (r.2.2.1 + o) else none)

/-- The page policy after an access (R303): the predictor learns from what it decided the time before, and the row stays open or
is closed by a queued request, by MODE, or by the predictor. -/
def Chan.access (c : Chan) (mode : Nat) (x : DramCoord) (others : List DramCoord) : Chan :=
  let p := Tab.get (fun _ => 3) c.pred x.key
  let p1 := match Tab.find c.rows x.key with
    | some r => if !r.pred then p else if r.row = x.row then min 3 (p + 1) else p - 1
    | none => p
  let queued := others.filter (fun y => decide (y.key = x.key))
  let row (o byPred : Bool) : RowSt := { row := x.row, isOpen := o, pred := byPred }
  let st := if mode = 1 then row true false else if mode = 2 then row false false
    else if queued.any (fun y => decide (y.row = x.row)) then row true false
    else if !queued.isEmpty then row false false
    else row (decide (2 ≤ p1)) true
  { c with pred := Tab.set (fun _ => 3) c.pred x.key p1, rows := Tab.ins c.rows x.key st }

/-- The lines of a channel's queued requests that are to reach DRAM. -/
def Chan.lines (c : Chan) : List Nat :=
  (c.rq.filter (fun r => !r.wait)).map (·.req.line) ++ c.wq.map (·.line)

/-- The coordinates of a line on its channel (R293, R294). -/
def Dev.lineAt (d : Dev) (ch line : Nat) : Option DramCoord :=
  (dramMap d.felt.cfg (line * 64)).map (fun x => dramCoord (d.chan ch).rbits x.2)

/-- An access of a channel reaches DRAM: the page policy acts. -/
def Dev.dramAccess (d : Dev) (ch la : Nat) : Dev :=
  d.modChan ch (fun c => c.access (d.rf (R.dmcPagectl ch) 1 0) (dramCoord c.rbits la) (c.lines.filterMap (d.lineAt ch)))

/-! ### The choice of a command slot (R299, R300) -/

/-- Whether a request finds its row open. -/
def Chan.rowHit (c : Chan) (x : DramCoord) : Bool :=
  match Tab.find c.rows x.key with
  | some r => r.isOpen && decide (r.row = x.row)
  | none => false

/-- Of requests oldest first, the one a group serves (R299 item 4): a row hit before a row miss, unless 16 row hits in a row have
already passed the oldest request to that bank; otherwise the oldest. -/
def Chan.best (c : Chan) (all group : List (ChanReq × DramCoord)) : Option (ChanReq × DramCoord) :=
  let free (x : ChanReq × DramCoord) : Bool := c.rowHit x.2 &&
    (decide (Tab.get (fun _ => 0) c.passed x.2.key < 16) || decide (all.find? (fun y => decide (y.2.key = x.2.key)) = some x))
  match group.find? free with
  | some x => some x
  | none => group.head?

/-- The pond whose turn it is (R300): of those waiting with turns left, the first after the pond served last; with no turns left
a new round begins, by the shares as they now stand. -/
def Chan.wrr (c : Chan) (share : Nat → Nat) (waiting : List Nat) : Option Nat × Chan :=
  let left (t : Tab Nat) : List Nat := ((List.range 32).map (fun i => (c.turn + 1 + i) % 32)).filter
    (fun p => waiting.contains p && decide (Tab.get (fun _ => 0) t p ≠ 0))
  let serve (t : Tab Nat) (p : Nat) : Option Nat × Chan :=
    (some p, { c with turns := Tab.set (fun _ => 0) t p (Tab.get (fun _ => 0) t p - 1), turn := p })
  match left c.turns with
  | p :: _ => serve c.turns p
  | [] =>
    let t := (List.range 32).foldl (fun t p => Tab.set (fun _ => 0) t p (share p)) []
    match left t with
    | p :: _ => serve t p
    | [] => (none, c)

/-- A request put in order of arrival. -/
def insertReq (r : ChanReq) : List ChanReq → List ChanReq
  | [] => [r]
  | x :: t => if r.arr ≤ x.arr then r :: x :: t else x :: insertReq r t

/-- The request a command slot serves (R299): one that has waited longer than AGEMAX, an angle-critical one, one of the pond
whose turn it is; one of a pond with share 0 where no other waits. -/
def Chan.choose (c : Chan) (age : Nat) (share : Nat → Nat) (xs : List (ChanReq × DramCoord)) :
    Option (ChanReq × DramCoord) × Chan :=
  let old := xs.filter (fun x => decide (age < c.time - x.1.arr))
  let crit := xs.filter (fun x => decide (x.1.qos % 4 = 0))
  let (pick, c1) :=
    if old ≠ [] then (c.best xs old, c)
    else if crit ≠ [] then (c.best xs crit, c)
    else match c.wrr share (xs.map (·.1.pond)) with
      | (some p, c1) => (c1.best xs (xs.filter (fun x => decide (x.1.pond = p))), c1)
      | (none, c1) => (c1.best xs xs, c1)
  match pick with
  | none => (none, c1)
  | some x =>
    let passes := c.rowHit x.2 && decide (xs.find? (fun y => decide (y.2.key = x.2.key)) ≠ some x)
    let n := if passes then Tab.get (fun _ => 0) c1.passed x.2.key + 1 else 0
    (some x, { c1 with passed := Tab.set (fun _ => 0) c1.passed x.2.key n })

/-- Whether a queued request goes before the bulk work of share 0 (R300, R312, R314): one older than AGEMAX, an angle-critical one,
or one of a pond with a share; of the writes, where enough wait for a burst to run. -/
def Dev.demand (d : Dev) (ch : Nat) : Bool :=
  let c := d.chan ch
  (c.rq.map (·.req) ++ (if 16 < c.wq.length then c.wq.flatMap (·.reqs) else [])).any (fun r =>
    decide (d.rf (R.dmcAgemax ch) 15 0 < c.time - r.arr) || decide (r.qos % 4 = 0) || decide (d.rf (R.dmcShare ch r.pond) 6 0 ≠ 0))

end Sys2Proof.Machine
end

