-- ==== Sys2Proof/Machine/StartRec.lean ====
section
/-! DEFINITION. The start record in the record store: standing blocks and the step log (17 R488, R491, R492). -/

namespace Sys2Proof.Machine

/-- First address of a copy of a standing block (R488). -/
def blockAddr (b copy : Nat) : Nat := nvBase + 0xA00000 + 128 * b + 64 * copy

/-- Whether a copy's CRC is good (R491). -/
def copyOk (bs : List Byte) : Bool := decide (leAt bs 0x3C 4 = crc32 (bs.take 0x3C))

/-- The default of a standing block (R491). -/
def blockDefault (b : Nat) : List Byte :=
  if b = 0 then lePut (List.replicate 64 0#8) 0x12 1 1 else List.replicate 64 0#8

/-- The copy of a standing block that reads (R491), and its bytes: a good CRC and the later generation; none when both
fail. -/
def State.blockCopy (s : State) (b : Nat) : Option Nat × List Byte :=
  let x := s.mem.bytes (blockAddr b 0) 64
  let y := s.mem.bytes (blockAddr b 1) 64
  let later := decide ((leAt y 0x38 4 + 2 ^ 32 - leAt x 0x38 4) % 2 ^ 32 < 2 ^ 31) && decide (leAt y 0x38 4 ≠ leAt x 0x38 4)
  match copyOk x, copyOk y with
  | true, true => if later then (some 1, y) else (some 0, x)
  | true, false => (some 0, x)
  | false, true => (some 1, y)
  | false, false => (none, blockDefault b)

/-- A standing block's content. -/
def State.block (s : State) (b : Nat) : List Byte := (s.blockCopy b).2

/-- Write a 64-byte record of the record store as a device agent: refused below the NV write floor (R467), else counted
(R510). -/
def State.nvRecord (s : State) (pa : Nat) (bs : List Byte) : State :=
  if s.dev.belowFloor then
    s.onDev (fun d => (((d.satInc R.nvsStatus 47 32).setRf R.nvsStatus 3 0 4)).nvsEvent 0)
  else s.nvWrite pa bs

/-- Write a standing block: to the copy that does not read, with the generation plus one (R491). -/
def State.setBlock (s : State) (b : Nat) (bs : List Byte) : State :=
  let c := s.blockCopy b
  let gen := match c.1 with
    | some _ => leAt c.2 0x38 4 + 1
    | none => 1
  let body := lePut (bs.take 0x38) 0x38 4 gen
  let full := body ++ bytesLE 4 (crc32 body)
  s.nvRecord (blockAddr b (match c.1 with
    | some 0 => 1
    | _ => 0)) full

/-- Change fields of a standing block. -/
def State.modBlock (s : State) (b : Nat) (f : List Byte → List Byte) : State := s.setBlock b (f (s.block b))

/-- A field of a standing block. -/
def State.blockF (s : State) (b off n : Nat) : Nat := leAt (s.block b) off n

/-- Bit `i` of a bit array that begins at an offset of a block. -/
def State.blockBit (s : State) (b off i : Nat) : Bool := (leAt (s.block b) (off + i / 8) 1).testBit (i % 8)

/-- Set a bit of a bit array in a byte string. -/
def putBit (bs : List Byte) (off i : Nat) (v : Bool) : List Byte :=
  let o := off + i / 8
  let x := leAt bs o 1
  lePut bs o 1 (if v then x ||| 2 ^ (i % 8) else x &&& (255 - 2 ^ (i % 8)))

/-- A nibble of an array in a byte string: the even ones are low. -/
def nibble (bs : List Byte) (off i : Nat) : Nat := leAt bs (off + i / 2) 1 / 16 ^ (i % 2) % 16

/-- Set a nibble. -/
def putNibble (bs : List Byte) (off i v : Nat) : List Byte :=
  let x := leAt bs (off + i / 2) 1
  lePut bs (off + i / 2) 1 (if i % 2 = 0 then x / 16 * 16 + v % 16 else x % 16 + 16 * (v % 16))

/-- Whether a core is retired, or its L1I is (block 2, block 3). -/
def State.retiredCore (s : State) (k : Nat) : Bool := s.blockBit 2 0 k
def State.retiredL1i (s : State) (k : Nat) : Bool := s.blockBit 3 0 k

/-- The part of the start number, as BS01 read and incremented it. -/
def State.startNo (s : State) : Nat := s.dev.rf R.errStartstat 63 32

/-- The address of an entry of the step log, a ring of 960 (R488). -/
def stepLogAddr (i : Nat) : Nat := nvBase + 0xA01000 + 64 * (i % 960)

/-! The saved settings belong to the service-core firmware (R489): this layout is the model's own (DESIGN CHOICE, log entry 22). -/

/-- Addresses of a channel's DIMM identities, of its predictor counters, of its trained parameters and phases, of a rail's
record, and of a lane's settings. -/
def savedIds (ch : Nat) : Nat := nvBase + 0xA10000 + 512 * ch
def savedPred (ch : Nat) : Nat := nvBase + 0xA10080 + 512 * ch
def savedTrain (ch : Nat) : Nat := nvBase + 0xA100C0 + 512 * ch
def savedRail (q : Nat) : Nat := nvBase + 0xA12000 + 64 * q
def savedLane (l : Nat) : Nat := nvBase + 0xA13000 + 64 * l

/-- Write a lane's settings (R368): LANE.EQ with its transmit taps, the other receive settings in 48 bytes, the far end's unique
ID. -/
def State.saveLaneRec (s : State) (l : Nat) (eq : Word) (rx : Nat) (uid : Word) : State :=
  s.nvRecord (savedLane l) (bytesLE 8 eq.toNat ++ bytesLE 48 rx ++ bytesLE 8 uid.toNat)

/-- What is kept of a lane: LANE.EQ, the other receive settings, the far end's unique ID. -/
def State.keptLane (s : State) (l : Nat) : Word × Nat × Word :=
  let bs := s.mem.bytes (savedLane l) 64
  (word (leAt bs 0 8), leAt bs 8 48, word (leAt bs 56 8))

/-- Write the identities of a channel's two DIMM slots, each in a record. -/
def State.saveIds (s : State) (ch : Nat) (ids : List Nat) : State :=
  (s.nvRecord (savedIds ch) (bytesLE 64 (ids.getD 0 0))).nvRecord (savedIds ch + 64) (bytesLE 64 (ids.getD 1 0))

/-- The identities kept of a channel. -/
def State.keptIds (s : State) (ch : Nat) : List Nat :=
  let bs := s.mem.bytes (savedIds ch) 128
  [leAt bs 0 64, leAt bs 64 64]

/-- Write a channel's trained interface parameters, in one record, and its read-centring phases, in two (R305). -/
def State.saveTrain (s : State) (ch train phase : Nat) : State :=
  ((s.nvRecord (savedTrain ch) (bytesLE 64 train)).nvRecord (savedTrain ch + 64) (bytesLE 64 phase)).nvRecord (savedTrain ch + 128)
    (bytesLE 64 (phase / 2 ^ 512))

/-- The interface parameters kept of a channel, and its phases. -/
def State.keptTrain (s : State) (ch : Nat) : Nat := leAt (s.mem.bytes (savedTrain ch) 64) 0 64
def State.keptPhase (s : State) (ch : Nat) : Nat := leAt (s.mem.bytes (savedTrain ch + 64) 128) 0 128

/-- Write a channel's page predictors: 256 counters of two bits. -/
def State.savePred (s : State) (ch : Nat) (pred : Tab Nat) : State :=
  let c (i : Nat) : Nat := Tab.get (fun _ => 3) pred i % 4
  s.nvRecord (savedPred ch) ((List.range 64).map (fun j =>
    BitVec.ofNat 8 (c (4 * j) + 4 * c (4 * j + 1) + 16 * c (4 * j + 2) + 64 * c (4 * j + 3))))

/-- The page predictors kept of a channel. -/
def State.keptPred (s : State) (ch : Nat) : Tab Nat :=
  let bs := s.mem.bytes (savedPred ch) 64
  (List.range 256).foldl (fun t i => Tab.set (fun _ => 3) t i (leAt bs (i / 4) 1 / 4 ^ (i % 4) % 4)) []

end Sys2Proof.Machine
end

