-- ==== Sys2Proof/Machine/HkErr.lean ====
section
/-! DEFINITION. What is particular to the registers of the ERR and FELT blocks (17 R481, R486, R499; 02 R57, R58, R62). -/

namespace Sys2Proof.Machine

/-- An ERR register as it is read: PONDREC hides a record of the secure world from the normal world. -/
def Dev.errValue (d : Dev) (rq : Req) (o : Nat) (v : Word) : Word :=
  if 0x1000 ≤ o ∧ !rq.secure ∧ !rq.dev ∧ bit (d.reg (R.errPondrec ((o - 0x1000) / 64) 1)) 40 then 0 else v

/-- The checks of an ERR write: MCTGT names a core of the pond, LEAKSEC is 1 or more. -/
def Dev.errWriteOk (d : Dev) (o : Nat) (new : Word) : Bool :=
  if 0x100 ≤ o ∧ o < 0x128 then decide (1 ≤ fld new 31 0)
  else if 0x400 ≤ o ∧ o < 0x500 then
    d.part.order.core (fld new 7 0) && decide (clusterOwner d.felt.cfg (fld new 7 0 / 8) = some ((o - 0x400) / 8))
  else true

/-- The checks of a FELT write: FLOOR never falls (R62); CMD keeps its value while a command is in progress (R58);
the staging buffer takes writes at any time. (DESIGN CHOICE, log entry 240.) -/
def Dev.feltPre (d : Dev) (o : Nat) (old new : Word) : Option Word :=
  if o = 0x28 then (if fld new 31 0 < fld old 31 0 then none else some new)
  else if o = 0x18 ∧ bit (d.reg R.feltCmdstat) 31 then some old
  else some new

/-- A FELT command completes: BUSY and GO clear, STAT and DETAIL are set, with an edge on source 0x142 (R266). -/
def Dev.feltDone (d : Dev) (st detail : Nat) : Dev :=
  ((d.setRf R.feltCmd 31 31 0).setReg R.feltCmdstat (setFld (setFld 0 15 8 detail) 3 0 st)).edge 0x142

/-- What follows a write of a FELT register: a command starts, or is refused while another is in progress (R58) or as unlisted;
SLOTSEL and FLOOR are kept in the start record (R491). -/
def State.feltPost (s : State) (o : Nat) (act : Word) : State :=
  if o = 0x18 ∧ bit act 31 then
    s.onDev (fun d =>
      if bit (d.reg R.feltCmdstat) 31 then d.setRf R.feltCmdstat 3 0 2
      else
        let n := d.rf R.feltCmd 3 0
        if 1 ≤ n ∧ n ≤ 3 then d.setReg R.feltCmdstat (setBit 0 31 true) else d.feltDone 3 0)
  else if o = 0x10 then s.modBlock 0 (fun bs => lePut bs 0x18 1 (s.dev.rf R.feltSlotsel 0 0))
  else if o = 0x28 then s.modBlock 0 (fun bs => lePut bs 0x1C 4 (s.dev.rf R.feltFloor 31 0))
  else s

end Sys2Proof.Machine
end

