-- ==== Sys2Proof/Machine/HkEth.lean ====
section
/-! DEFINITION. Actions of writes to Ethernet and lane registers (13 R384, R386). -/

namespace Sys2Proof.Machine

/-- A write to an ETH register: RXCTLr.RESTART resumes a stopped ring (R384). -/
def Dev.ethPost (d : Dev) (p o : Nat) (act : Word) : Dev :=
  if 0x2800 ≤ o ∧ o < 0x2A00 ∧ o % 0x80 = 8 ∧ bit act 63 then
    let r := (o - 0x2800) / 0x80
    (d.setRf (R.ethRxctl p r) 63 63 0).setRf (R.ethStatus p) r r 0
  else d

/-- A write of LANE.TEST with a mode that R386 does not list completes at once, refused (R525). -/
def Dev.lanePost (d : Dev) (l o : Nat) (act : Word) : Dev :=
  if o = 8 ∧ bit act 63 then
    let m := d.rf (R.laneTest l) 62 60
    if m = 0 ∨ 3 < m then (d.setRf (R.laneTest l) 43 40 3).setRf (R.laneTest l) 63 63 0 else d
  else d

end Sys2Proof.Machine
end

