-- ==== Sys2Proof/Machine/Hooks.lean ====
section
/-! DEFINITION. What is particular to single registers: owners, presence, computed values, checks before a write and
actions after it. -/

namespace Sys2Proof.Machine

/-- Whether an instance exists on the part (R2, R506): an absent one reads as zero and ignores writes. -/
def Dev.present (d : Dev) (b : Blk) (i o : Nat) : Bool :=
  match b with
  | .clu | .llc => d.part.order.cluster i
  | .dbg => d.part.order.core i
  | .dmc => d.part.order.channel i
  | .wpt =>
    if 0x8000 ≤ o then
      (if 0x8300 ≤ o ∧ o < 0x8340 then d.part.order.group ((o - 0x8300) / 8)
       else if 0xA000 ≤ o ∧ o < 0xB000 then decide ((o - 0xA000) / 16 < (exports d.felt.cfg).length)
       else true)
    else d.part.order.port i && (decide (o < 0x2000) || (ethOwner d.felt.cfg i).isSome)
  | .lane => d.part.order.lane i
  | .pwr => if 0x100 ≤ o ∧ o < 0x2A8 then d.part.order.domain ((o - 0x100) / 8) else true
  | _ => true

/-- The owner of a register's instance in column O. -/
def Dev.regOwner (d : Dev) (b : Blk) (i o : Nat) : Option (Nat × Bool) :=
  let pond (p : Nat) : Option (Nat × Bool) := some (p, pondSecure d.felt.cfg p)
  match b with
  | .atb => if 0x1000 ≤ o then (markPond d.felt.cfg 0xFF ((o - 0x1000) / 0x20)).bind pond else none
  | .err => if 0x400 ≤ o ∧ o < 0x500 then pond ((o - 0x400) / 8) else if 0x1000 ≤ o then pond ((o - 0x1000) / 64) else none
  | .pin => if 0x1000 ≤ o then (pinOwner d.felt.cfg ((o - 0x1000) / 8)).map (fun x => (x.1, x.2.1)) else none
  | .ic =>
    if 0x4000 ≤ o then (irqOwner d.felt.cfg ((o - 0x4000) / 8)).map (fun x => (x.1, x.2.1))
    else if 0x2000 ≤ o then pond ((o - 0x2000) / 32 / 8) else none
  | .dma => dmaOwner d.felt.cfg (o / 64)
  | .clu =>
    if 0x8000 ≤ o then (markPond d.felt.cfg i ((o - 0x8000) / 0x20)).bind pond
    else (clusterOwner d.felt.cfg i).bind pond
  | .dmc => if 0x100 ≤ o ∧ o < 0x200 then pond ((o - 0x100) / 8) else none
  | .wpt =>
    if o < 0x8000 then ethOwner d.felt.cfg i
    else if 0x8100 ≤ o ∧ o < 0x8300 then pond ((o - 0x8100) / 16)
    else if 0x9000 ≤ o ∧ o < 0xA000 then (clusterOwner d.felt.cfg ((o - 0x9000) / 16 / 8)).bind pond
    else if 0xA000 ≤ o ∧ o < 0xB000 then ((exports d.felt.cfg)[(o - 0xA000) / 16]?).map (fun x => (x.1, x.2.1))
    else if 0xB000 ≤ o ∧ o < 0xF800 then
      let c := d.reg (R.wxTsctl ((o - 0xB000) / 0x120))
      if bit c 63 then some (fld c 61 57, bit c 62) else none
    else none
  | .pep =>
    if 0x1000 ≤ o then fnOwner d.felt.cfg ((o - 0x1000) / 64)
    else if 0x100 ≤ o ∧ o < 0x200 then pond ((o - 0x100) / 8) else none
  | _ => none

/-- The registers whose bits belong to several owners (R6). -/
def bitArray (b : Blk) (o : Nat) : Bool :=
  match b with
  | .ic => decide (0x100 ≤ o) && decide (o < 0x700)
  | .pin => decide (0x100 ≤ o) && decide (o < 0x400)
  | _ => false

/-- The owner of bit `k` of such a register. -/
def Dev.bitOwner (d : Dev) (b : Blk) (o k : Nat) : Option (Nat × Bool) :=
  match b with
  | .ic => (irqOwner d.felt.cfg (o % 0x100 / 8 * 64 + k)).map (fun x => (x.1, x.2.1))
  | .pin => (pinOwner d.felt.cfg (o % 0x100 / 8 * 64 + k)).map (fun x => (x.1, x.2.1))
  | _ => none

/-- The bits of a bit array that a write may act on at all: OUTSET and OUTCLR act on output pins only (19). -/
def Dev.actBits (d : Dev) (b : Blk) (o : Nat) : Word :=
  match b with
  | .pin => if 0x200 ≤ o then d.outPins (o % 0x100 / 8) else maskOf 63 0
  | _ => maskOf 63 0

/-- Record a write that carries a 1 to bits of other owners: one refusal (R6). IC.STATUS also names the source. -/
def Dev.refuseBits (d : Dev) (b : Blk) (i o : Nat) (bits : Word) : Dev :=
  let d1 := d.refuse b i o
  match b with
  | .ic => d1.setRf R.icStatus 26 16 (o % 0x100 / 8 * 64 + ((setBits bits.toNat 64).headD 0))
  | _ => d1

/-- Act on the set bits of a bit-array write. -/
def State.bitsWrite (s : State) (b : Blk) (o : Nat) (bits : Word) : State :=
  match b with
  | .ic => s.onDev (fun d => d.icBits o bits)
  | .pin => s.onDev (fun d => d.pinBits o bits)
  | _ => s

/-- The value of a register as its stop shows it: windows and second views of one state are computed. -/
def State.regValue (s : State) (rq : Req) (b : Blk) (i o : Nat) : Word :=
  let v := s.dev.reg (b.base + i * b.stride + o)
  match b with
  | .clu => if 0x8000 ≤ o ∧ o % 32 = 24 then s.dev.mkstatValue (0x01000000 + i * 0x10000 + o) v else s.dev.cluValue rq i o v
  | .ic => s.dev.icValue o v
  | .dbg => s.dbgValue i o v
  | .atb => if 0x1000 ≤ o ∧ o % 32 = 24 then s.dev.mkstatValue (0x00100000 + o) v else v
  | .pin => s.dev.pinValue o v
  | .dmc => s.dev.dmcValue rq i o v
  | .wpt => s.dev.wptValue i o v
  | .sec => s.secValue o v
  | .err => s.dev.errValue rq o v
  | _ => v

/-- Clear the read-clear fields that a read returned. -/
def Dev.clearRc (d : Dev) (b : Blk) (i o : Nat) (rc : Word) : Dev :=
  let off := b.base + i * b.stride + o
  match b with
  | .clu => if o = 0x80 then d.setCd (d.selHolder i) 0 (d.cd (d.selHolder i) 0 &&& ~~~rc) else d.setReg off (d.reg off &&& ~~~rc)
  | _ => d.setReg off (d.reg off &&& ~~~rc)

/-- The command registers whose GO field, 1 while a command is in progress, holds off a further write with GO = 1: nothing of
it is stored and STAT stays (R525). A write with GO = 0 sets the other fields (R4). DESIGN CHOICE (log entry 8): the spec does
not say what a second GO does. (DEDUCED, log entry 34.) -/
def goBit (b : Blk) (o : Nat) : Option Nat :=
  match b with
  | .clu => if o = 0x48 then some 63 else none
  | .pwr => if o = 0x10 then some 63 else none
  | .sec => if o = 0x18 ∨ o = 0x320 then some 63 else none
  | .dmc => if o = 0x20 then some 63 else none
  | .lane => if o = 8 ∨ o = 0x20 then some 63 else none
  | _ => none

/-- The checks of one block. -/
def State.preBlk (s : State) (rq : Req) (b : Blk) (i o : Nat) (old new : Word) : Option Word :=
  let ok (c : Bool) : Option Word := if c then some new else none
  let inB (code pond v : Nat) : Option Word :=
    ok (inBound s.dev.felt.cfg (s.dev.rf R.gidPower 15 0) code pond rq.dev v)
  let all (code v : Nat) : Option Word := inB code rq.pond v
  match b with
  | .clu =>
    if 0x80 ≤ o ∧ o < 0xC0 then ok (s.dev.ctxWriteOk rq i ((o - 0x80) / 8) new)
    else if o = 0x10 then inB 9 ((clusterOwner s.dev.felt.cfg i).getD 0xFF) (fld new 3 0)
    else if o = 0x60 then inB 6 ((clusterOwner s.dev.felt.cfg i).getD 0xFF) (fld new 15 0)
    else some new
  | .ic => if 0x4000 ≤ o then ok (s.dev.srccfgOk ((o - 0x4000) / 8) new) else some new
  | .dbg => ok (s.dbgWriteOk rq i o old new)
  | .atb =>
    if o = 0x28 then all 1 (fld new 15 0) else if o = 0x30 then all 2 (fld new 15 0)
    else if o = 0x38 then all 3 (fld new 15 0) else if o = 0x40 then all 4 (fld new 15 0) else some new
  | .pwr => if o = 0x18 then all 5 (fld new 15 0) else s.dev.pwrPre rq o old new
  | .sec => ok (s.dev.secWriteOk o new)
  | .err => ok (s.dev.errWriteOk o new)
  | .felt => s.dev.feltPre o old new
  | .dmc => if 0x100 ≤ o ∧ o < 0x200 then inB 7 ((o - 0x100) / 8) (fld new 6 0) else ok (Dev.dmcWriteOk rq o new)
  | .wpt => if 0x8000 ≤ o then ok (wxWriteOk o new) else some new
  | .pep =>
    if 0x1000 ≤ o ∧ (o - 0x1000) % 64 = 0x28 then
      inB 8 (((fnOwner s.dev.felt.cfg ((o - 0x1000) / 64)).map (·.1)).getD 0xFF) (fld new 15 0)
    else ok (s.dev.pepWriteOk rq o new)
  | _ => some new

/-- The check of a write before it acts: none refuses it under R7; some is the value to store. -/
def State.preWrite (s : State) (rq : Req) (b : Blk) (i o : Nat) (old new act : Word) : Option Word :=
  match goBit b o with
  | some g => if bit old g && bit act g then some old else s.preBlk rq b i o old new
  | none => s.preBlk rq b i o old new

/-- Store a register's value. -/
def State.storeReg (s : State) (b : Blk) (i o : Nat) (v : Word) : State :=
  s.onDev (fun d =>
    if b = .clu ∧ 0x80 ≤ o ∧ o < 0xC0 then d.ctxStore i ((o - 0x80) / 8) v
    else d.setReg (b.base + i * b.stride + o) v)

/-- The action of a register write. `act` holds the written bits that act, `m` the bits reached. -/
def State.postWrite (s : State) (rq : Req) (b : Blk) (i o : Nat) (old new act _m : Word) : State :=
  match b with
  | .clu => if 0x8000 ≤ o then s.onDev (fun d => d.markPost (0x01000000 + i * 0x10000 + o) old) else s.cluPost i o act
  | .atb => if 0x1000 ≤ o then s.onDev (fun d => d.markPost (0x00100000 + o) old) else s
  | .pin => if 0x1000 ≤ o then s.onDev (fun d => d.pinCfgPost ((o - 0x1000) / 8) old new) else s
  | .ic => if o = 8 then s.onDev (fun d => d.eoiWrite rq (fld act 10 0))
    -- a new binding is offered afresh (R273)
    else if 0x4000 ≤ o then s.onDev (fun d => { d with ic := { d.ic with refused := Tab.set (fun _ => false) d.ic.refused ((o - 0x4000) / 8) false } })
    else s
  | .dbg => s.dbgPost i o new act
  | .dmc => s.onDev (fun d => d.dmcPost i o new)
  | .wpt => if 0x8000 ≤ o then s.onDev (fun d => d.wxPost o old act) else s.onDev (fun d => d.ethPost i o act)
  | .lane => s.onDev (fun d => d.lanePost i o act)
  | .sec => s.secPost o act
  | .felt => s.feltPost o act
  | .pwr => s.onDev (fun d => d.pwrPost rq o old act)
  | .pep => s.onDev (fun d => d.pepPost o new)
  | .dma => if o % 64 = 0 ∧ bit act 60 then s.onDev (fun d =>
      (d.setRf (R.dmaCtl (o / 64)) 61 61 0).setRf (R.dmaCtl (o / 64)) 60 60 0) else s
  | _ => s

end Sys2Proof.Machine
end

