-- ==== Sys2Proof/Machine/RegAccess.lean ====
section
/-! DEFINITION. Accesses to control-space registers (00 R4 to R8, R525; 15 R424, R425; 18 R504 to R507). -/

namespace Sys2Proof.Machine

/-- Whether a field's world column admits a requester (R5, R6). -/
def Dev.fieldAdmits (d : Dev) (rq : Req) (b : Blk) (i o : Nat) (f : Fld) : Bool :=
  match f.w with
  | .n => true
  | .s => rq.secure
  | .o =>
    if b = .wpt ∧ 0xB000 ≤ o ∧ o < 0xF800 ∧ (d.regOwner b i o).isNone then rq.secure || rq.dev
    else ownerAdmits (d.regOwner b i o) rq

/-- Whether a write of a field is admitted: D0.WORLD is a field of the secure world, but a normal-world write of D0 is judged
whole, by R274 (10 "CTXDATA"); DMC.SHARE accepts a write of its pond and of the secure world, whatever its tag (R301). -/
def Dev.fieldWrites (d : Dev) (rq : Req) (b : Blk) (i o : Nat) (f : Fld) : Bool :=
  if b = .clu ∧ o = 0x80 then ownerAdmits (d.regOwner b i o) rq
  else if b = .dmc ∧ f.w = .o then rq.secure || ownerAdmits (d.regOwner b i o) rq
  else d.fieldAdmits rq b i o f

/-- The bits of a doubleword that an access of 4 or 8 bytes at an offset reaches (R505). -/
def reachMask (off size : Nat) : Word :=
  if size = 8 then maskOf 63 0 else if off % 8 = 4 then maskOf 63 32 else maskOf 31 0

/-- Whether a field has a bit in a mask. -/
def Fld.inMask (f : Fld) (m : Word) : Bool := decide (maskOf f.hi f.lo &&& m ≠ 0)

/-- The part of a bit array that a requester owns: bits of other owners read as zero and ignore writes (R6). -/
def Dev.ownBits (d : Dev) (rq : Req) (b : Blk) (o : Nat) : Word :=
  if rq.dev then maskOf 63 0
  else (List.range 64).foldl (fun w k => if ownerAdmits (d.bitOwner b o k) rq then setBit w k true else w) 0

/-- A read of a register (R4, R6, R505, R506): the value and the state after, read-clear fields cleared; a read of one half of a
read-clear field clears all of it. (DESIGN CHOICE, log entry 235.) -/
def State.regRead (s : State) (rq : Req) (off size : Nat) : Word × State :=
  match regAt (off / 8 * 8) with
  | none => (0, s)
  | some (b, i, o, r) =>
    if !(s.dev.present b i o) then (0, s)
    else
      let m := reachMask off size
      let v := s.regValue rq b i o
      if bitArray b o then
        let w := v &&& s.dev.ownBits rq b o &&& m
        (if off % 8 = 4 then w >>> 32 else w, s)
      else
        let fs := r.fields.filter (fun f => f.inMask m)
        let ok := fs.filter (fun f => s.dev.fieldAdmits rq b i o f && decide (f.ty ≠ .wo))
        let seen := ok.foldl (fun w f => w ||| maskOf f.hi f.lo) 0
        let rc := (ok.filter (fun f => decide (f.ty = .rc))).foldl (fun w f => w ||| maskOf f.hi f.lo) 0
        let w := v &&& seen &&& m
        let s1 := if rc = 0 then s else s.onDev (fun d => d.clearRc b i o rc)
        let s2 := if fs.any (fun f => !(s.dev.fieldAdmits rq b i o f)) then s1.onDev (fun d => d.refuse b i o) else s1
        (if off % 8 = 4 then w >>> 32 else w, s2)

/-- The stored value after the fields that a write reaches and that admits it have acted (R4). -/
def applyFields (old v m : Word) (fs : List Fld) : Word :=
  fs.foldl (fun w f =>
    let fm := maskOf f.hi f.lo &&& m
    match f.ty with
    | .rw | .wo => (w &&& ~~~fm) ||| (v &&& fm)
    | .sc | .w1s => w ||| (v &&& fm)
    | .w1c => w &&& ~~~(v &&& fm)
    | .ro | .rc => w) old

/-- A write of a register (R4, R6, R7, R505, R506, R525): refused fields have no effect and one refusal is recorded; the
register's own action follows. -/
def State.regWriteNow (s : State) (rq : Req) (off size : Nat) (val : Word) : State :=
  match regAt (off / 8 * 8) with
  | none => s
  | some (b, i, o, r) =>
    if !(s.dev.present b i o) then s
    else
      let m := reachMask off size
      let v := (if off % 8 = 4 then val <<< 32 else val) &&& m
      if bitArray b o then
        let own := s.dev.ownBits rq b o &&& s.dev.actBits b o
        let s1 := if v &&& ~~~own ≠ 0 then s.onDev (fun d => d.refuseBits b i o (v &&& ~~~own)) else s
        s1.bitsWrite b o (v &&& own)
      else
        let fs := r.fields.filter (fun f => f.inMask m)
        if fs = [] then s
        else
          let ok := fs.filter (fun f => s.dev.fieldWrites rq b i o f)
          let s1 := if ok.length < fs.length then s.onDev (fun d => d.refuse b i o) else s
          if ok = [] then s1
          else
            let old := s1.regValue rq b i o
            let new := applyFields old v m ok
            let act := (ok.filter (fun f => decide (f.ty ≠ .ro) && decide (f.ty ≠ .rc))).foldl
              (fun w f => w ||| (v &&& maskOf f.hi f.lo)) 0
            match s1.preWrite rq b i o old new act with
            | none => s1.onDev (fun d => d.refuse b i o)
            | some new' => (s1.storeReg b i o new').postWrite rq b i o old new' act m

/-- A write reaches a register: at once, but a write to a mark that is due in this tick waits until the mark has fired with its
old values (R85). -/
def State.regWrite (s : State) (rq : Req) (off size : Nat) (val : Word) : State :=
  if (markReg off).any s.dev.markDue then
    s.onDev (fun d => { d with atb := { d.atb with held := d.atb.held ++ [{ rq := rq, off := off, size := size, val := val }] } })
  else s.regWriteNow rq off size val

end Sys2Proof.Machine
end

