-- ==== Sys2Proof/Machine/Access.lean ====
section
/-! DEFINITION. Physical accesses and what their targets answer: the address map (01 R28, R29), owner checks (R26, R45,
R295, R427, R489), lost held domains (R443), and the paths that leave the device (R398, R221). -/

namespace Sys2Proof.Machine

/-- First address of control space (R28). -/
def ctlBase : Nat := 0x400000000000
/-- First address of the outbound host window (R28). -/
def hostBase : Nat := 0x500000000000

/-- The ranges of R28; `hole` is every reserved address (R29). -/
inductive PRange where
  | dram | ctl | nv | host | weir | hole
deriving DecidableEq, Repr

/-- The range a physical address lies in (R28, R29). -/
def prange (pa : Nat) : PRange :=
  if pa < 0x40000000000 then .dram
  else if ctlBase ≤ pa ∧ pa < nvBase then (match blockOf (pa - ctlBase) with | some _ => .ctl | none => .hole)
  else if nvBase ≤ pa ∧ pa < nvBase + nvSize then .nv
  else if hostBase ≤ pa ∧ pa < 0x600000000000 then .host
  else if 2 ^ 51 ≤ pa ∧ pa < 2 ^ 52 then .weir
  else .hole

/-- What a target answers an access: done with the bytes read, a status other than DONE, a lost held domain (R443), or not
yet. -/
inductive Ans where
  | ok (bs : List Byte)
  | bad (status : Nat)
  | lost
  | wait
deriving DecidableEq, Repr

/-- The pond tag and world of a core's accesses (R23, R425): a service core or SEC0 issues device-agent requests. (DEDUCED, log entry 38.) -/
def Dev.coreReq (d : Dev) (agent : Nat) (secure : Bool) : Req :=
  if isSvc agent then { pond := 0, secure := true, dev := true, dbg := false }
  else { pond := (clusterOwner d.felt.cfg (agent / 8)).getD 32, secure := secure, dev := false, dbg := false }

/-- Whether a DRAM address exists (R295): it lies in a DRAM_RANGE, on a channel in use, below the channel's capacity. -/
def Dev.dramExists (d : Dev) (pa : Nat) : Bool :=
  match dramMap d.felt.cfg pa with
  | none => false
  | some (ch, la) =>
    let c := Tab.get (fun _ => Chan.off) d.chans ch
    d.part.order.channel ch && !c.leftOut && decide (la < c.capacity)

/-- Whether a DRAM home admits one byte (R427). -/
def Dev.dramByte (d : Dev) (rq : Req) (pa : Nat) : Bool :=
  match rangeOf d.felt.cfg pa with
  | none => false
  | some (p, _) => rq.dev || (decide (p = rq.pond) && (rq.secure || !(securePart d.felt.cfg p pa)))

/-- The first byte of every 256-byte granule that an access of `n` bytes reaches, from its own first byte on (R293). -/
def granules (pa n : Nat) : List Nat := pa :: (List.range ((pa + n - 1) / 256 - pa / 256)).map (fun i => (pa / 256 + 1 + i) * 256)

/-- Whether a DRAM access of `n` bytes is admitted (R29, R295, R427): no part of it may be refused. -/
def Dev.dramAdmit (d : Dev) (rq : Req) (pa n : Nat) : Bool :=
  (granules pa n).all (fun a => d.dramExists a && d.dramByte rq a) && d.dramExists (pa + n - 1) && d.dramByte rq (pa + n - 1)

/-- Whether the record store admits an access at a window offset (R45, R488, R489). (DEDUCED, log entry 76.) -/
def Dev.nvByte (d : Dev) (rq : Req) (wr : Bool) (o : Nat) : Bool :=
  if o < 0x800000 then
    !(wr && d.felt.felted && decide (d.felt.slot = o / 0x400000 + 1)) && (rq.secure || rq.dev)
  else if o < 0x900000 then rq.secure || rq.dev
  else if o < 0xA00000 then rq.secure || rq.dev
  else if o < 0xC00000 then rq.dev || (!wr && rq.secure)
  else if o < 0x1000000 then
    rq.dev ||
    (if wr then (decide (rq.pond = (o - 0xC00000) / 0x20000) && rq.secure) || (rq.dbg && !d.felt.felted)
     else decide (rq.pond = (o - 0xC00000) / 0x20000))
  else rq.secure || rq.dev

/-- The same for an access of `n` bytes. -/
def Dev.nvAdmit (d : Dev) (rq : Req) (wr : Bool) (o n : Nat) : Bool :=
  decide (o + n ≤ nvSize) && d.nvByte rq wr (o + n - 1) && (List.range (n / 512 + 1)).all (fun i => d.nvByte rq wr (o + min (512 * i) (n - 1)))

/-- The power domain of a cluster's cores (R449). -/
def clusterDom (c : Nat) : Nat := 21 + c

/-- The power domain of a register (R30, R449). The device-wide WX registers do not go off with lane group G0 (log entry 24). -/
def blkDom (b : Blk) (i o : Nat) : Nat :=
  match b with
  | .clu => if 0x800 ≤ o ∧ o < 0x1000 then clusterDom i else 5 + i / 8
  | .dbg => clusterDom (i / 8)
  | .llc => 5 + i / 8
  | .dmc => 9 + i / 4
  | .wpt => if i = 0 ∧ 0x8000 ≤ o then 0 else 13 + i / 16
  | .lane => 13 + i / 17
  | .pep => 4
  | .nvs => 2
  | .atb | .pin => 1
  | .sec => 3
  | .gid | .felt => 7
  | .ic | .dma | .pwr | .err => 5

/-- The power domain of an access's target (R443, R449, R455). -/
def Dev.targetDom (d : Dev) (pa : Nat) : Nat :=
  match prange pa with
  | .dram => match dramMap d.felt.cfg pa with
    | some (ch, _) => 9 + ch / 4
    | none => 0
  | .ctl => match blockOf (pa - ctlBase) with
    | some (b, i, o) => blkDom b i o
    | none => 0
  | .nv => 2
  | .host => 4
  | .weir | .hole => 0

/-- Whether a domain is a lost held domain for a requester (R443): its HOLDLOST bit is 1 and the requester is the holder's
pond and world. -/
def Dev.domLost (d : Dev) (dom : Nat) (rq : Req) : Bool :=
  bit (d.reg R.secHoldlost) dom && !rq.dev &&
  (match holdOf d.felt.cfg dom with
   | some (_, sec, p) => decide (sec = rq.secure) && (decide (p = 0xFF) || decide (p = rq.pond))
   | none => false)

/-- An access reaches a domain that is below on: it waits at the domain's edge and wakes it (R455). -/
def Dev.wake (d : Dev) (dom : Nat) : Dev := { d with wakes := Tab.set (fun _ => false) d.wakes dom true }

/-- The outcome of the checks before a target performs an access: it goes on, or is answered here. (DEDUCED, log entry 36.) -/
def State.gate (s : State) (rq : Req) (pa n : Nat) (wr : Bool) : Option Ans × State :=
  let dom := s.dev.targetDom pa
  if s.dev.domLost dom rq then (some .lost, s)
  else
    match prange pa with
    | .hole => (some (.bad 3), s)
    | .dram => if s.dev.dramAdmit rq pa n then
        -- the home slice's uncore and the DRAM group are both reached
        (let up := 5 + quadOf (s.dev.home pa)
         if s.dev.domState up ≠ 0 then (some .wait, s.onDev (fun d => d.wake up))
         else if s.dev.domState dom = 0 then (none, s) else (some .wait, s.onDev (fun d => d.wake dom)))
        else (some (.bad 3), s)
    | .nv =>
      if s.dev.nvAdmit rq wr (pa - nvBase) n then
        if wr && s.dev.belowFloor then
          (some (.bad 4), s.onDev (fun d =>
            (((d.satInc R.nvsStatus 47 32).setRf R.nvsStatus 3 0 4)).nvsEvent 0))
        else if s.dev.domState dom = 0 then (none, s) else (some .wait, s.onDev (fun d => d.wake dom))
      else (some (.bad 3), s.onDev (fun d =>
        let d1 := d.satInc R.nvsStatus 63 48
        if wr then d1.setRf R.nvsStatus 3 0 3 else d1))
    | .ctl =>
      if (n = 4 ∨ n = 8) ∧ pa % n = 0 then
        (if s.dev.domState dom = 0 then (none, s) else (some .wait, s.onDev (fun d => d.wake dom)))
      else (some (.bad 3), s)
    | .host | .weir => (none, s)

/-- What a reading agent sees of coherent bytes: the image, with the older bytes of a write that is not yet performed with
respect to it (R208, R209). -/
def State.seenBytes (s : State) (agent pa n : Nat) : List Byte :=
  (List.range n).map (fun i =>
    let a := pa + i
    let lagging := s.cores.findSome? (fun e =>
      e.2.sbuf.findSome? (fun st => match st.lag with
        | some obs =>
          if obs.contains agent ∧ st.pa ≤ a ∧ a < st.pa + st.bytes.length then st.old[a - st.pa]? else none
        | none => none))
    lagging.getD (Tab.get memDefault s.mem.img a))

/-- A write to bytes becomes performed: an earlier write to any of them is then visible to every observer (R208). -/
def State.endLag (s : State) (pa n : Nat) : State :=
  { s with cores := s.cores.map (fun e => (e.1, { e.2 with sbuf := e.2.sbuf.filter (fun st =>
      decide (st.lag = none) || decide (st.pa + st.bytes.length ≤ pa) || decide (pa + n ≤ st.pa)) })) }

/-- Whether any line of an access is poisoned. -/
def State.anyPoison (s : State) (pa n : Nat) : Bool := (linesOf pa n).any (fun l => s.mem.poisoned l)

/-- Whether an access to the outbound host window is accepted (R398), else its status. -/
def Dev.hostGate (d : Dev) (rq : Req) (pa : Nat) : Option Nat :=
  let f := (pa - hostBase) / 2 ^ 36
  let h := (pa - hostBase) % 2 ^ 36
  if 128 < f ∨ !(d.fnExists f) ∨ d.rf (R.pepSizes f) 24 0 * 4096 ≤ h then some 3
  else match fnOwner d.felt.cfg f with
    | none => some 3
    | some (p, sec) =>
      if !rq.dev ∧ (rq.pond ≠ p ∨ rq.secure ≠ sec) then some 3
      else if !(d.mayBus f) then some 5
      else none

/-- Record a refused access of the outbound window (R398). -/
def State.hostBad (s : State) (pa st : Nat) : State := s.onDev (fun d => d.outBad ((pa - hostBase) / 2 ^ 36) st ((pa - hostBase) % 2 ^ 44))

/-- The host address that an access of the outbound window becomes (R398). -/
def Dev.hostAddr (d : Dev) (pa : Nat) : Nat :=
  (d.reg (R.pepOutbase ((pa - hostBase) / 2 ^ 36))).toNat / 4096 * 4096 + (pa - hostBase) % 2 ^ 36

/-- Whether the record of an outbound access stands for the same access. -/
def ExtAcc.same (e : ExtAcc) (agent pa n : Nat) (wr : Bool) : Bool :=
  decide (e.agent = agent) && decide (e.pa = pa) && decide (e.size = n) && (e.write == wr)

/-- The ordering tag of an agent's access that leaves the device: an application core's exchange-window accesses have one of their own
(R333). -/
def extTag (weir : Bool) (agent : Nat) (strict : Bool) : Nat :=
  if weir && decide (agent < 0x100) then 24 + agent % 8 else deviceTag agent strict

/-- Hand an outbound access to its path. -/
def Dev.post (d : Dev) (e : ExtAcc) : Dev := { d with ext := d.ext ++ [e] }

/-- A read of the outbound window or an exchange window: the first attempt hands it to its path, and it is answered when
its response has returned (R221, R398). -/
def State.extRead (s : State) (agent qos attr : Nat) (rq : Req) (weir : Bool) (pa n : Nat) : Ans × State :=
  match s.dev.ext.find? (fun e => e.same agent pa n false) with
  | some e =>
    if e.st = .finished then
      let s1 := s.onDev (fun d => { d with ext := d.ext.erase e })
      if e.status = 0 then (.ok e.data, s1) else (.bad e.status, s1)
    else (.wait, s)
  | none =>
    match (if weir then none else s.dev.hostGate rq pa) with
    | some st => (.bad st, s.hostBad pa st)
    | none => (.wait, s.onDev (fun d => d.post
        { agent := agent, weir := weir, pond := rq.pond, secure := rq.secure, qos := qos, otag := extTag weir agent (decide (attr = 3))
          strict := decide (attr = 3), pa := pa, host := s.dev.hostAddr pa, write := false
          size := n, data := [], st := .accepted, status := 0, tag := 0, timed := none, detail := 0 }))

/-- The release angle and doorbell word of an application core's exchange-window writes, while WX.TCTL.EN = 1 (R343). -/
def Dev.timedOf (d : Dev) (agent : Nat) : Option (Word × Word) :=
  if isSvc agent then none
  else
    let c := d.reg (R.wxTctl agent)
    if bit c 63 then some (d.reg (R.wxTrel agent), setFld (setFld (setBit 0 63 (bit c 62)) 14 10 (fld c 14 10)) 9 0 (fld c 9 0))
    else none

/-- A write of the outbound window or an exchange window is posted (R221, R223); a device-strict one is performed when its target's
response has returned (R216). (DEDUCED, log entry 152.) -/
def State.extWrite (s : State) (agent qos attr : Nat) (rq : Req) (weir : Bool) (pa : Nat) (bs : List Byte) : Ans × State :=
  let strict := decide (attr = 3)
  match (if strict then s.dev.ext.find? (fun e => e.same agent pa bs.length true && e.strict && decide (e.data = bs)) else none) with
  | some e =>
    if e.st = .finished then (if e.status = 0 then .ok [] else .bad e.status, s.onDev (fun d => { d with ext := d.ext.erase e }))
    else (.wait, s)
  | none =>
  match (if weir then none else s.dev.hostGate rq pa) with
  | some st => (.bad st, s.hostBad pa st)
  | none => (if strict then .wait else .ok [], s.onDev (fun d => d.post
      { agent := agent, weir := weir, pond := rq.pond, secure := rq.secure, qos := qos, otag := extTag weir agent strict
        strict := strict, pa := pa, host := s.dev.hostAddr pa, write := true
        size := bs.length, data := bs, st := .accepted, status := 0, tag := 0, detail := 0
        timed := if weir then d.timedOf agent else none }))

/-- Writes of other cores that a core has just read and that are not yet visible (R213). -/
def State.noteSeen (s : State) (k pa n : Nat) : State :=
  if s.cores.any (fun e => decide (e.1 ≠ k) && e.2.sbuf.any (fun st => decide (st.lag ≠ none) && st.hits pa n)) then
    s.modCore k (fun c => { c with seen := (pa, n) :: c.seen })
  else s

/-- A core performs an access to some bytes: reads it made early of them no longer count (R208). -/
def State.newer (s : State) (k pa n : Nat) : State :=
  if (s.core k).early = [] then s else s.modCore k (fun c => c.dropEarly pa n)

/-- A read of `n` bytes within one line by an agent with an effective attribute, performed now: normal write-back and write-through
reads fill the agent's caches; otherwise the home takes a snapshot (R234). -/
def State.pread (s : State) (agent qos : Nat) (rq : Req) (attr : Nat) (pa n : Nat) : Ans × State :=
  match s.gate rq pa n false with
  | (some a, s1) => (a, s1)
  | (none, s1) =>
    match prange pa with
    | .dram =>
      let l := pa / 64
      let s1 := s1.newer agent pa n
      let s2 := if attr ≤ 1 then (s1.fillRead agent l (decide (attr = 1))).l1Fill agent l false
        else s1.serve l { Txn.plain .peek agent with qos := qos }
      if (if attr ≤ 1 then s2.mem.poisonedFor agent l else s2.mem.poisoned l) then (.bad 6, s2) else (.ok (s2.seenBytes agent pa n), s2.noteSeen agent pa n)
    | .nv => if s1.anyPoison pa n then (.bad 6, s1) else (.ok (s1.mem.bytes pa n), s1)
    | .ctl => let (v, s2) := s1.regRead rq (pa - ctlBase) n; (.ok (bytesLE n v.toNat), s2)
    | .host => s1.extRead agent qos attr rq false pa n
    | .weir => s1.extRead agent qos attr rq true pa n
    | .hole => (.bad 3, s1)

/-- A write of bytes within one line by an agent with an effective attribute, performed now: write-back in the agent's own cache,
write-through keeping its copy, else at the home (R234). -/
def State.pwrite (s : State) (agent qos : Nat) (rq : Req) (attr : Nat) (pa : Nat) (bs : List Byte) : Ans × State :=
  match s.gate rq pa bs.length true with
  | (some a, s1) => (a, s1)
  | (none, s1) =>
    match prange pa with
    | .dram =>
      let s2 := (s1.newer agent pa bs.length).endLag pa bs.length
      if attr = 0 then (.ok [], (s2.fillWrite agent (pa / 64)).onMem (fun m => m.put pa bs))
      else (.ok [], s2.putBytes pa bs none (if attr = 1 then some agent else none) false qos)
    | .nv => (.ok [], s1.nvWrite pa bs)
    | .ctl => (.ok [], s1.regWrite rq (pa - ctlBase) bs.length (word (ofBytesLE bs)))
    | .host => s1.extWrite agent qos attr rq false pa bs
    | .weir => s1.extWrite agent qos attr rq true pa bs
    | .hole => (.bad 3, s1)

/-- Whether a named core's L2 accepts a stash of a line (R251): the core is present, in the writer's pond, neither retired nor
under test, its domain is on, and it need not evict a line held in M. `room`: its 16 stash fills are not all in use. (DEDUCED, log entry 73.) -/
def State.stashOk (s : State) (rq : Req) (k line : Nat) (room : Bool) : Bool :=
  room && s.stashRoom k line && s.dev.part.order.core k && decide (clusterOwner s.dev.felt.cfg (k / 8) = some rq.pond) &&
  decide (s.dev.domState (clusterDom (k / 8)) = 0) &&
  (match (s.core k).run with
   | .retired | .selfTest => false
   | _ => true)

/-- The stash target of a write of one line (R251): none is offered for less than a whole line; an offer is counted as made or
declined. -/
def State.stashFor (s : State) (rq : Req) (line len : Nat) (stash : Option Nat) (room : Bool) : Option Nat × State :=
  match stash with
  | none => (none, s)
  | some k =>
    if len ≠ 64 then (none, s)
    else
      let h := s.dev.home (line * 64)
      if s.stashOk rq k line room then (some k, s.onDev (fun d => d.wrapAdd (R.llcStashok h) 63 0 1))
      else (none, s.onDev (fun d => d.wrapAdd (R.llcStashdecl h) 63 0 1))

/-- A coherent write of an agent without a cache, line by line, each with an optional stash (R250, R251); its stash fills are placed at
once. -/
def State.putLines (s : State) (rq : Req) (pa : Nat) (bs : List Byte) (stash : Option Nat) (qos : Nat) : State :=
  (linesOf pa bs.length).foldl (fun s l =>
    let lo := max pa (l * 64)
    let hi := min (pa + bs.length) (l * 64 + 64)
    let r := s.stashFor rq l (hi - lo) stash true
    r.2.serve l { Txn.write (lo - l * 64) ((bs.drop (lo - pa)).take (hi - lo)) r.1 none true with
      qos := qos, decl := stash.isSome && decide (hi - lo = 64) && r.1.isNone }) s

/-- A write by an agent without a cache to DRAM or the record store (DMA, weir inbound, Ethernet receive, the endpoint,
service firmware), of a QoS class (R20): admitted, it is performed line by line, each line with an optional stash target (R251); the status. -/
def State.agentWrite (s : State) (rq : Req) (pa : Nat) (bs : List Byte) (stash : Option Nat) (qos : Nat := 1) : Nat × State :=
  if bs.length = 0 then (0, s)
  else
    match s.gate rq pa bs.length true with
    | (some (.bad st), s1) => (st, s1)
    | (some .lost, s1) => (3, s1)
    | (_, s1) =>
      match prange pa with
      | .dram => (0, (s1.endLag pa bs.length).putLines rq pa bs stash qos)
      | .nv => (0, s1.nvWrite pa bs)
      | _ => (3, s1)

/-- A read by an agent without a cache (R252): the home's snapshot; the status and the bytes. -/
def State.agentRead (s : State) (rq : Req) (pa n : Nat) : Nat × List Byte :=
  if n = 0 then (0, [])
  else
    match s.gate rq pa n false with
    | (some (.bad st), _) => (st, [])
    | (some .lost, _) => (3, [])
    | _ =>
      match prange pa with
      | .dram | .nv => if s.anyPoison pa n then (6, []) else (0, s.mem.bytes pa n)
      | _ => (3, [])

/-- What such a read of a QoS class leaves behind: a sleeping target is woken (R455), one that the record store refuses is counted
(R510), and one that a home admits is a PeekLine of each line (R252). (DEDUCED, log entry 234.) -/
def State.readNote (s : State) (rq : Req) (pa n : Nat) (qos : Nat := 1) : State :=
  if n = 0 then s
  else
    match s.gate rq pa n false with
    | (none, s1) =>
      if prange pa = .dram then (linesOf pa n).foldl (fun s l => s.serve l { Txn.plain .peek 0x200 with io := true, qos := qos }) s1
      else s1
    | (_, s1) => s1

end Sys2Proof.Machine
end

