-- ==== Sys2Proof/Machine/Ops.lean ====
section
/-! DEFINITION. The operations every Krele instruction uses: banks and worlds, the store buffer, save areas (R257 to R261),
taking an exception (R114, R116, R117, R120), bank nesting errors (R262 to R264) and the return from an exception (R118). -/

namespace Sys2Proof.Machine

/-- An exception on its way (R114): its vector, whether the saved PC is the next instruction, EADDR, ESYN's DETAIL, SEG,
SIZE (log2), KIND and PIECE, and its target mode and world when that is not the current supervisor. -/
structure Trap where
  vec    : Nat
  next   : Bool
  eaddr  : Word
  detail : Nat
  seg    : Nat
  size   : Nat
  kind   : Nat
  piece  : Nat
  tgt    : Option (Nat × Bool)
deriving DecidableEq, Repr

/-- An exception with no address and no detail, saved at the faulting instruction. -/
def Trap.plain (vec : Nat) : Trap :=
  { vec := vec, next := false, eaddr := 0, detail := 0, seg := 0, size := 0, kind := 0, piece := 0, tgt := none }

/-- Illegal instruction (vector 2). -/
def Trap.illegal : Trap := Trap.plain 2
/-- Privilege (vector 3). -/
def Trap.privilege : Trap := Trap.plain 3

/-- A synchronous machine check (R528): status and cause in DETAIL, the physical address in EADDR. -/
def Trap.check (status cause pa : Nat) : Trap :=
  { Trap.plain 1 with eaddr := word pa, detail := status + 256 * cause }

/-- The error record of a refused or poisoned access of a core's own instruction, or one under a lost hold (R480, R481). -/
def State.reportCheck (s : State) (k : Nat) (t : Trap) : State :=
  let c := s.core k
  let pond := if isSvc k then 0xFF else (clusterOwner s.dev.felt.cfg (k / 8)).getD 0xFF
  let cause := t.detail / 256 % 16
  let st := t.detail % 16
  let kind := if cause = 4 then 8 else if cause = 5 then 12 else if st = 6 then 7 else 6
  let unit := if isSvc k then 13 else 1
  s.onDev (fun d => d.report (if isSvc k then k % 4 else quadOf (k / 8)) unit kind (if isSvc k then k % 4 else k) 2 st pond
    ((if c.secure then 1 else 0) + (if t.eaddr = 0 then 0 else 2) + 8) t.eaddr.toNat [])

/-- A store of a completed instruction that its target poisons is not performed (R230): its record, and a machine check at the core's
next boundary. (DEDUCED, log entry 250.) -/
def State.storeBad (s : State) (k : Nat) (st : Store) : State :=
  let t := Trap.check 6 1 st.pa
  (s.reportCheck k t).modCore k (fun c => { c with mcPend := c.mcPend ++ [{ secure := c.secure, seq := t.detail, addr := st.pa }] })

/-- A store of the buffer is performed (R206, R208): with respect to every observer, or to all but those in `lag`. A write-through store
also makes its core's L1I copy of the line invalid (R237). -/
def State.performStore (s : State) (k : Nat) (st : Store) (lag : List Nat) : State :=
  let line := st.pa / 64
  let s0 := s.modCore k (fun c => { c with sbuf := (c.sbuf.erase st).map (fun x =>
    if x.grp = st.grp then { x with must := true } else x) })
  if s0.mem.poisonedFor k line then s0.storeBad k st
  else
    let old := s.mem.bytes st.pa st.bytes.length
    let s1 := s0.endLag st.pa st.bytes.length
    let s2 := if st.wb then (s1.fillWrite k line).onMem (fun m => m.put st.pa st.bytes)
      else (s1.putBytes st.pa st.bytes none (some k) false (s.dev.coreQos k)).onMem (fun m => { m with l1i := setKeyed m.l1i k line false })
    if lag = [] then s2
    else s2.modCore k (fun c => { c with sbuf := c.sbuf ++ [{ st with lag := some lag, old := old }] })

/-- Perform, oldest first, the buffered stores of a core that `p` selects. -/
def State.performWhere (s : State) (k : Nat) (p : Store → Bool) : State :=
  (((s.core k).sbuf.filter (fun st => decide (st.lag = none) && p st))).foldl (fun s st => s.performStore k st []) s

/-- The core's own buffered stores to some bytes are performed before it accesses them otherwise. -/
def State.settleOwn (s : State) (k pa n : Nat) : State := s.performWhere k (fun st => st.hits pa n)

/-- Every store of the core becomes visible (R230 "drains"). -/
def State.drainStores (s : State) (k : Nat) : State :=
  (s.performWhere k (fun _ => true)).modCore k (fun c => { c with sbuf := [] })

/-- The lower-half payload of a save area (R257). -/
def lowerWords (b : Bank) (pc ms esyn eaddr : Word) : List Word :=
  [b.a, b.x, b.y, b.sp, pc, b.fl] ++ b.ls ++ b.le ++ b.lc ++ [ms, esyn, eaddr, 0]

/-- The bytes of a list of doublewords. -/
def wordBytes (ws : List Word) : List Byte := ws.flatMap (fun w => bytesLE 8 w.toNat)

/-- The doublewords of a byte string. -/
def wordsOf (n : Nat) (bs : List Byte) : List Word := (List.range n).map (fun i => word (leAt bs (8 * i) 8))

/-- An area address as the device reads it (R257). -/
def areaAddr (w : Word) : Nat := w.toNat % 2 ^ 52 / 64 * 64

/-- The outcome of an access to a save area: done with its bytes, or the failed status. -/
inductive AreaRes where
  | ok (bs : List Byte) (s : State)
  | bad (status : Nat)

/-- Read a save area in the chain's world (R257): a core's normal write-back access to DRAM. (DEDUCED, log entry 41.) -/
def State.areaRead (s : State) (k : Nat) (secure : Bool) (area : Nat) : AreaRes :=
  if prange area = .dram ∧ s.dev.dramAdmit (s.dev.coreReq k secure) area 192 then
    let s1 := (s.settleOwn k area 192).newer k area 192
    let s2 := (linesOf area 192).foldl (fun s l => (s.fillRead k l false).l1Fill k l false) s1
    if (linesOf area 192).any (fun l => s2.mem.poisonedFor k l) then .bad 6 else .ok (s2.seenBytes k area 192) (s2.noteSeen k area 192)
  else .bad 3

/-- Write a save area's bytes from its start (R257). -/
def State.areaWrite (s : State) (k : Nat) (secure : Bool) (area : Nat) (bs : List Byte) : AreaRes :=
  if prange area = .dram ∧ s.dev.dramAdmit (s.dev.coreReq k secure) area 192 then
    let s1 := ((s.settleOwn k area bs.length).newer k area bs.length).endLag area bs.length
    let s2 := (linesOf area bs.length).foldl (fun s l => s.fillWrite k l) s1
    .ok [] (s2.onMem (fun m => m.put area bs))
  else .bad 3

/-- The outcome of taking an area from a free list and filling it (R116, R259). -/
inductive SaveRes where
  | exhausted
  | failed (status : Nat)
  | saved (area : Nat) (link : Nat) (s : State)

/-- Take the area at CFL of a world, write a half into it and link it at `head` (R116, R259). -/
def State.saveArea (s : State) (k : Nat) (secure : Bool) (head : Word) (hdr : Word) (ws : List Word) : SaveRes :=
  let w := (s.core k).wr secure
  if w.cfc = 0 ∨ w.cfl = 0 then .exhausted
  else
    let area := areaAddr w.cfl
    match s.areaRead k secure area with
    | .bad st => .failed st
    | .ok old s1 =>
      match s1.areaWrite k secure area (wordBytes (head :: hdr :: ws)) with
      | .bad st => .failed st
      | .ok _ s2 => .saved area (areaAddr (word (leAt old 0 8))) s2

/-- HDR of a lower-half area: KIND, WORLD and SRC (R257). -/
def lowerHdr (secure sluice : Bool) : Word := setBit (setBit (setFld 0 63 62 1) 61 secure) 60 sluice

/-- The links after an area has been filled: CSH names it, CFL its old LINK, CFC is one lower (R116). -/
def Core.linkArea (c : Core) (secure : Bool) (area link : Nat) : Core :=
  let w := c.wr secure
  c.setWr secure { w with csh := word area, cfl := word link, cfc := setFld w.cfc 15 0 (fld w.cfc 15 0 - 1) }

/-- Return an area to the free list: CSH takes its LINK, its LINK takes CFL, CFL names it, CFC is one higher (R118, R260). -/
def State.freeArea (s : State) (k : Nat) (secure : Bool) (area : Nat) (link : Word) : State :=
  let w := (s.core k).wr secure
  let s1 := match s.areaWrite k secure area (bytesLE 8 w.cfl.toNat) with
    | .ok _ s1 => s1
    | .bad _ => s
  s1.modCore k (fun c => c.setWr secure { c.wr secure with
    csh := word (areaAddr link), cfl := word area, cfc := setFld w.cfc 15 0 (fld w.cfc 15 0 + 1) })

/-- A change of world clears the recorded failure of LOPSTAT; PREC is kept (R170). -/
def Core.crossWorld (c : Core) (secure : Bool) : Core :=
  if c.secure = secure then c else { c with lopstat := c.lopstat &&& 0x8000000000000000#64 }

/-- The bank a core nests on (R262): code 1 writes B1, the others the running bank. -/
def State.bankNest (s : State) (k cause vec : Nat) (evSecure : Bool) : State :=
  let c := s.core k
  let b := c.bank
  let w := c.cw
  let rc : Word := setFld (setBit (setBit (setBit (setFld (setBit 0 63 true) 21 16 vec) 10 evSecure) 9 c.secure) 8 c.inB1)
    7 0 cause
  let x := s.dev.cslu k
  let ctx : Word := match x.ctx with
    | some key => setFld (setFld (setBit 0 15 true) 14 10 ((s.dev.ctx key).home / 1024)) 9 0 ((s.dev.ctx key).home % 1024)
    | none => 0
  let esyn := w.esyn
  let ws := [rc, s.dev.reg R.atbNow] ++ (lowerWords b b.pc b.ms esyn w.eaddr).take 21 ++
    [w.csh, w.cfl, w.cfc, if c.inB1 then c.b0.pc else 0, ctx]
  let cl := k / 8
  let pond := (clusterOwner s.dev.felt.cfg cl).getD 0xFF
  let fl := 8 + (if c.secure then 1 else 0)
  let s1 := s.modCore k (fun c => { c with run := .stopped, lops := [], early := [], wpHit := none, pfx := none, ssPend := false })
  if isSvc k then
    s1.onDev (fun d => d.report (k % 4) 13 9 (k % 4) 2 0 0xFF fl 0 (bytesLE 8 rc.toNat))
  else
    let d0 := s1.dev
    let d1 := if bit (d0.reg (R.cluRescue cl (k % 8) 0)) 63 then
        d0.setReg (R.cluRescue cl (k % 8) 0) (setBit (d0.reg (R.cluRescue cl (k % 8) 0)) 62 true)
      else (ws.zip (List.range 28)).foldl (fun d e => d.setReg (R.cluRescue cl (k % 8) e.2) e.1) d0
    let d2 := ((d1.dropCore k).setReg (R.cluCorectl cl (k % 8)) 1).alarm cl 4
    { s1 with dev := d2.report (quadOf cl) 1 9 k 2 0 pond fl 0 (bytesLE 8 rc.toNat) }

/-- ESYN for an exception raised in the core's present mode and bank. -/
def esynOf (c : Core) (t : Trap) : Word :=
  setFld (setFld (setBit (setFld (setBit (setBit (setFld (setFld 0 63 32 t.detail) 15 13 t.size) 16 (decide (t.piece = 1)))
    12 (decide (c.mode = 0))) 10 8 t.seg) 11 c.inB1) 7 6 t.kind) 5 0 t.vec

/-- One entry (R116): the save, the target mode's SP, MS, PC and syndrome; the walk guard is cleared (R196). -/
def State.enter (s : State) (k : Nat) (t : Trap) (tmode : Nat) (tsec : Bool) (pc : Word) : State × Bool :=
  let c := s.core k
  let es := esynOf c t
  match s.saveArea k tsec (c.wr tsec).csh (lowerHdr tsec false) (lowerWords c.bank pc c.bank.ms es t.eaddr) with
  | .exhausted => (s.bankNest k 2 t.vec tsec, false)
  | .failed _ => (s.bankNest k 3 t.vec tsec, false)
  | .saved area link s1 =>
    let low := decide (fld (c.wr tsec).cfc 15 0 = 3)
    (s1.modCore k (fun c =>
      let c0 := (c.crossWorld tsec).linkArea tsec area link
      let w := c0.wr tsec
      let c1 := c0.setWr tsec { w with esyn := es, eaddr := t.eaddr }
      let ms := setBit (setBit (setBit (setFld c1.bank.ms 1 0 tmode) 2 tsec) 3 false) 7 false
      let base := if tmode = 3 then c1.mvbase else w.vbase
      let c2 := c1.modBank (fun b => { (b.setLdepth 0) with
        sp := if tmode = 3 then c1.msp else w.ssp, ms := ms, pc := base + word (16 * t.vec) })
      { c2 with guard := false, tlbOut := none, early := [], wpHit := none, pfx := none, ssPend := false, run := .running }), low)

/-- The target of an exception (R114): the current supervisor, or monitor in monitor mode. -/
def Core.excTarget (c : Core) (t : Trap) : Nat × Bool :=
  t.tgt.getD (if c.mode = 3 then 3 else 1, c.secure)

/-- Taking an exception (R114, R116, R117): one entry, and save chain low before the first handler instruction when the
entry moved CFC from 3 to 2. (DEDUCED, log entry 51.) -/
def State.takeException (s : State) (k : Nat) (t : Trap) (pc : Word) : State :=
  let tg := (s.core k).excTarget t
  let r := s.enter k t tg.1 tg.2 pc
  if r.2 then
    let t13 := { Trap.plain 13 with detail := 1, next := true, tgt := some tg }
    (r.1.enter k t13 tg.1 tg.2 ((r.1.core k).bank.pc)).1
  else r.1

/-- Save chain low after SVL, SVU (R117). (DEDUCED, log entry 40.) -/
def State.chainLow (s : State) (k : Nat) (pc : Word) : State :=
  s.takeException k { Trap.plain 13 with detail := 1, next := true } pc

/-- Taking the exception of an instruction: a machine check also writes its error record. -/
def State.raise (s : State) (k : Nat) (t : Trap) (pc : Word) : State :=
  (if t.vec = 1 then s.reportCheck k t else s).takeException k t pc

/-- The lower half and MS as an area's words restore them (R118, R282): reserved bits of FL stay zero, MODE, SS, FE and IE
come from the area, SIE only when the restoring world is secure (R93), BANK and DEG stay. (DEDUCED, log entry 43.) -/
def Bank.restore (b : Bank) (ws : List Word) (secure full : Bool) : Bank :=
  let g (i : Nat) : Word := ws.getD i 0
  let b1 : Bank := { b with a := g 0, x := g 1, y := g 2, sp := g 3, fl := g 5 &&& flMask
                            ls := (ws.drop 6).take 4, le := (ws.drop 10).take 4, lc := (ws.drop 14).take 4 }
  if full then
    let m := g 18
    let keep : Word := if secure then 0x8F#64 ||| 0x20#64 else 0x8F#64
    let fe : Word := if bit b.ms 6 then 0 else 0x10#64
    { b1 with pc := g 4 &&& ~~~1#64, ms := (b.ms &&& ~~~(keep ||| 0x10#64)) ||| (m &&& (keep ||| fe)) }
  else b1

/-- The words of an area's payload. -/
def areaWords (bs : List Byte) : List Word := (wordsOf 24 bs).drop 2

/-- The HDR of an area. -/
def areaHdr (bs : List Byte) : Word := word (leAt bs 8 8)

/-- Whether a saved MS may be restored from a mode and world (R118): neither its mode nor its world lies above. Monitor
exists only in the secure world, mode 0b10 does not exist, and a service core and SEC0 run in the secure world only (R122). -/
def msAdmits (c : Core) (svc : Bool) (m : Word) : Bool :=
  let mode := fld m 1 0
  let sec := bit m 2
  (sec || !svc) && (c.secure || !sec) && (decide (c.mode = 3) || decide (mode ≠ 3)) && decide (mode ≠ 2) && (sec || decide (mode ≠ 3))

/-- ERET (R118, R261): the state after the return, or the exception it raises instead. -/
def State.eret (s : State) (k : Nat) : Except Trap State :=
  let c := s.core k
  let w := c.cw
  let area := areaAddr w.csh
  if w.csh = 0 then .error Trap.illegal
  else
    match s.areaRead k c.secure area with
    | .bad st => .error (Trap.check st 2 area)
    | .ok bs s1 =>
      let ws := areaWords bs
      let m := ws.getD 18 0
      if fld (areaHdr bs) 63 62 ≠ 1 then .error Trap.illegal
      else if !(msAdmits c (isSvc k) m) then .error Trap.privilege
      else
        let s2 := s1.freeArea k c.secure area (word (leAt bs 0 8))
        .ok (s2.modCore k (fun c =>
          let c1 := c.crossWorld (bit m 2)
          { (c1.modBank (fun b => b.restore ws c.secure true)) with early := [] }))

/-- FRET (R110): back to B0 at the instruction after the last one that completed there. -/
def Core.fret (c : Core) : Option Core :=
  if c.inB1 then some { (c.crossWorld (bit c.b0.ms 2)) with inB1 := false, early := [] } else none

/-- A fast interrupt's entry into B1 (R109). -/
def Core.fastEntry (c : Core) (secure : Bool) : Core :=
  let c1 := c.crossWorld secure
  let ms : Word := setBit (setBit (setBit (setBit (setBit (setFld c.b0.ms 1 0 1) 2 secure) 3 false) 4 false) 6 true) 7 false
  { c1 with inB1 := true, early := [], guard := false, tlbOut := none, run := .running
            b1 := { c.b1 with fl := 0, ms := ms, pc := (c.wr secure).vbase + 336#64 } }

end Sys2Proof.Machine
end

