-- ==== Sys2Proof/Machine/Operands.lean ====
section
/-! DEFINITION. Memory operands: the segment check (R99, R181, R182), translation (R96, R183 to R190), accesses in pieces
(R225 to R227), loads and stores through the store buffer (R208 to R217), addressing modes (R102, R129, R130) and fences
(R212, R213, R222). -/

namespace Sys2Proof.Machine

/-- The result of a part of an instruction: a value with the state, an exception, a wait for something outside the core, a
state in which the instruction has ended or waits on its own terms, or a wait for the outstanding long operations (R155, R165). -/
inductive M (α : Type) where
  | ok (a : α) (s : State)
  | trap (t : Trap) (s : State)
  | wait (s : State)
  | stop (s : State)
  | drain

/-- Continue with a value. -/
def M.bind {α β : Type} (m : M α) (f : α → State → M β) : M β :=
  match m with
  | .ok a s => f a s
  | .trap t s => .trap t s
  | .wait s => .wait s
  | .stop s => .stop s
  | .drain => .drain

/-- The kinds of access of ESYN.KIND. -/
inductive AKind where
  | read | write | fetch | rmw
deriving DecidableEq, Repr

def AKind.code : AKind → Nat
  | .read => 0 | .write => 1 | .fetch => 2 | .rmw => 3
def AKind.reads : AKind → Bool
  | .read | .rmw => true
  | _ => false
def AKind.writes : AKind → Bool
  | .write | .rmw => true
  | _ => false

/-- log2 of an access size. -/
def sizeLog (n : Nat) : Nat := if n = 1 then 0 else if n = 2 then 1 else if n = 4 then 2 else 3

/-- A segment register of the current world. -/
def Core.seg (c : Core) (n : Nat) : Seg := c.cw.segs.getD n Seg.reset

/-- The bytes of an access that lie before the next aligned 8-byte boundary (R225). -/
def firstLen (lin n : Nat) : Nat := min n (8 - lin % 8)

/-- An exception of an access. -/
def accTrap (vec detail : Nat) (eaddr : Word) (seg n : Nat) (kind : AKind) (piece : Nat) : Trap :=
  { vec := vec, next := false, eaddr := eaddr, detail := detail, seg := seg, size := sizeLog n, kind := kind.code
    piece := piece, tgt := none }

/-- The lowest failing cause of the rights check of a segment (R99, R205). -/
def segRights (g : Seg) (kind : AKind) (user : Bool) : Option Nat :=
  if !(bit g.rgt 4) then some 1
  else if kind.reads && !(bit g.rgt 0) then some 2
  else if kind.writes && !(bit g.rgt 1) then some 3
  else if decide (kind = .fetch) && !(bit g.rgt 2) then some 4
  else if user && !(bit g.rgt 3) then some 5
  else none

/-- Whether a linear address is canonical (R182). -/
def canonical (paging : Bool) (lin : Nat) : Bool :=
  if paging then decide (lin < 2 ^ 47) || decide (2 ^ 64 - 2 ^ 47 ≤ lin) else decide (lin < 2 ^ 47)

/-- The segment and canonical checks of an access (R99, R182, R205), in the order limit, rights, canonical; the linear
address. PIECE is set when only the second piece fails. -/
def Core.segCheck (c : Core) (seg : Nat) (off : Word) (n : Nat) (kind : AKind) : Except Trap Nat :=
  let g := c.seg seg
  let lin := (g.base + off).toNat
  let n1 := if kind = .fetch then n else firstLen lin n
  let last := off.toNat + n - 1
  let last1 := off.toNat + n1 - 1
  let pc (bad1 : Bool) : Nat := if bad1 || decide (n1 = n) then 0 else 1
  if g.lim.toNat < last1 ∧ last1 < 2 ^ 64 then .error (accTrap 4 1 off seg n kind 0)
  else if 2 ^ 64 ≤ last then .error (accTrap 4 2 off seg n kind (pc (decide (2 ^ 64 ≤ last1))))
  else if g.lim.toNat < last then .error (accTrap 4 1 off seg n kind (pc false))
  else
    match segRights g kind (decide (c.mode = 0)) with
    | some d => .error (accTrap 5 d off seg n kind 0)
    | none =>
      let pg := bit c.cw.wctl 0
      let end1 := (lin + n1 - 1) % 2 ^ 64
      let endA := (lin + n - 1) % 2 ^ 64
      if !(canonical pg lin && canonical pg end1) then .error (accTrap 4 3 off seg n kind 0)
      else if !(canonical pg endA) then .error (accTrap 4 3 off seg n kind (pc false))
      else .ok lin

/-- The control space and the record store window of R28, in their whole extent. -/
def inCtl (pa : Nat) : Bool := decide (ctlBase ≤ pa) && decide (pa < nvBase)
def inNv (pa : Nat) : Bool := decide (nvBase ≤ pa) && decide (pa < nvBase + 0x10000000)

/-- The effective attribute of an access (R189; R96 while PG = 0): 0 write-back, 1 write-through, 2 non-cacheable,
3 device-strict, 4 device-relaxed. It goes by the range of R28, also where nothing in it exists. -/
def effAttr (pg : Bool) (attr pa : Nat) : Nat :=
  let a := if attr ≥ 5 then 3 else attr
  if inCtl pa then 3
  else if inNv pa then (if pg then (if a ≤ 1 then 2 else a) else 2)
  else
    match prange pa with
    | .dram => if pg then a else 0
    | .host | .weir => if pg then (if a ≤ 1 then 2 else a) else 3
    | _ => if pg then a else 3

/-- Whether an entry matches (R184). -/
def TlbEntry.hit (e : TlbEntry) (secure : Bool) (asid lin : Nat) : Bool :=
  (e.secure == secure) && decide (e.lin ≤ lin) && decide (lin < e.lin + 2 ^ e.bits) && (e.global || decide (e.asid = asid))

/-- Whether R154 forbids a fetch: a device attribute, the control space, the outbound host window or an exchange window; one from a
reserved address is refused by its target instead (R29). -/
def fetchBad (attr pa : Nat) : Bool :=
  inCtl pa ||
  (match prange pa with
   | .host | .weir => true
   | .dram | .nv => decide (3 ≤ attr)
   | _ => inNv pa && decide (3 ≤ attr))

/-- The lowest failing cause of the page rights check (R190, R154). While PG = 0 there is no entry, and the U right is the segment's,
which has been checked. (DEDUCED, log entry 42.) -/
def pageRights (e : Option TlbEntry) (kind : AKind) (user atomic : Bool) (attr pa : Nat) : Option Nat :=
  let has (f : TlbEntry → Bool) : Bool := match e with
    | some x => f x
    | none => true
  if kind.reads && !(has (·.r)) then some 1
  else if kind.writes && !(has (·.w)) then some 2
  else if decide (kind = .fetch) && !(has (·.x)) then some 3
  else if user && !(has (·.u)) then some 4
  else if atomic && decide (attr ≠ 0) then some 5
  else if decide (kind = .fetch) && fetchBad attr pa then some 6
  else none

/-- The entry that an access finds (R184, R185): in its L1 TLB, else in the L2 TLB. -/
def Core.tlbFind (c : Core) (fetch : Bool) (lin : Nat) : Option TlbEntry :=
  let hit (e : TlbEntry) : Bool := e.hit c.secure (fld c.cw.asid 15 0) lin
  match (if fetch then c.itlb else c.dtlb).find? hit with
  | some e => some e
  | none => c.tlb.find? hit

/-- Entries of an L1 TLB (R183). -/
def l1TlbSize (k : Nat) : Nat := if isSvc k then 16 else 64

/-- An L1 TLB takes an entry; replacement removes the oldest, never one of the eight newest installed (R186). -/
def l1Put (k : Nat) (newest l : List TlbEntry) (e : TlbEntry) : List TlbEntry :=
  let l1 := e :: l.filter (fun f => decide (f ≠ e))
  if l1.length ≤ l1TlbSize k then l1
  else match l1.reverse.find? (fun f => !(newest.contains f)) with
    | some f => l1.erase f
    | none => l1.take (l1TlbSize k)

/-- An access that the L2 TLB served refills its L1 TLB (R185). -/
def Core.tlbRefill (c : Core) (k : Nat) (fetch : Bool) (lin : Nat) : Core :=
  match c.tlbFind fetch lin with
  | none => c
  | some e =>
    if fetch then (if c.itlb.contains e then c else { c with itlb := l1Put k (c.tlb.take 8) c.itlb e })
    else if c.dtlb.contains e then c else { c with dtlb := l1Put k (c.tlb.take 8) c.dtlb e }

/-- The refills of an access by its first and last byte. -/
def State.tlbUse (s : State) (k : Nat) (fetch : Bool) (lin n : Nat) : State :=
  if bit (s.core k).cw.wctl 0 then
    s.modCore k (fun c => (c.tlbRefill k fetch lin).tlbRefill k fetch ((lin + n - 1) % 2 ^ 64))
  else s

/-- Translate one piece (R96, R185, R190): its physical address and effective attribute. -/
def Core.xlate (c : Core) (seg n : Nat) (kind : AKind) (atomic : Bool) (piece lin : Nat) : Except Trap (Nat × Nat) :=
  let w := c.cw
  let user := decide (c.mode = 0)
  if bit w.wctl 0 then
    match c.tlbFind (decide (kind = .fetch)) lin with
    | none =>
      .error (accTrap (if kind = .fetch then 6 else 7) (fld w.asid 15 0 * 65536 + c.dropped.toNat) (word lin) seg n kind piece)
    | some e =>
      let pa := e.pa + (lin - e.lin)
      let attr := effAttr true e.attr pa
      match pageRights (some e) kind user atomic attr pa with
      | some d => .error (accTrap 8 (d + 16 * attr + 256 * e.size) (word lin) seg n kind piece)
      | none => .ok (pa, attr)
  else
    let attr := effAttr false 0 lin
    match pageRights none kind user atomic attr lin with
    | some d => .error (accTrap 8 (d + 16 * attr) (word lin) seg n kind piece)
    | none => .ok (lin, attr)

/-- A translated piece of an access. -/
structure Piece where
  pa   : Nat
  attr : Nat
  len  : Nat
deriving DecidableEq, Repr

/-- The translation of each piece of an access (R225, R226). -/
def Core.pieces (c : Core) (seg n : Nat) (kind : AKind) (atomic : Bool) (lin : Nat) : Except Trap (List Piece) :=
  let n1 := firstLen lin n
  match c.xlate seg n kind atomic 0 lin with
  | .error t => .error t
  | .ok (p1, a1) =>
    if n1 = n then .ok [⟨p1, a1, n⟩]
    else
      match c.xlate seg n kind atomic 1 ((lin + n1) % 2 ^ 64) with
      | .error t => .error t
      | .ok (p2, a2) => .ok [⟨p1, a1, n1⟩, ⟨p2, a2, n - n1⟩]

/-- The checks of an operand in the order of R119: segment, alignment of an atomic (`al` its DETAIL), translation of each
piece, alignment of a device access (R215). -/
def Core.resolve (c : Core) (seg : Nat) (off : Word) (n : Nat) (kind : AKind) (al : Option Nat) (atomic : Bool) :
    Except Trap (Nat × List Piece) :=
  match c.segCheck seg off n kind with
  | .error t => .error t
  | .ok lin =>
    if al.isSome ∧ lin % n ≠ 0 then .error (accTrap 11 (al.getD 0) (word lin) seg n kind 0)
    else
      match c.pieces seg n kind atomic lin with
      | .error t => .error t
      | .ok ps =>
        if ps.any (fun p => decide (3 ≤ p.attr)) && decide (lin % n ≠ 0) then .error (accTrap 11 2 (word lin) seg n kind 0)
        else .ok (lin, ps)

/-- The checks of an operand with the refill of the L1 data TLB that they make. -/
def State.operand (s : State) (k seg : Nat) (off : Word) (n : Nat) (kind : AKind) (al : Option Nat) (atomic : Bool) :
    Except Trap (Nat × List Piece × State) :=
  match (s.core k).resolve seg off n kind al atomic with
  | .error t => .error t
  | .ok (lin, ps) => .ok (lin, ps, s.tlbUse k false lin n)

/-- An operand of an instruction that has several. -/
structure Opd where
  seg  : Nat
  off  : Word
  n    : Nat
  kind : AKind
deriving DecidableEq, Repr

/-- The exception of several operands in the order of R119: every segment check in operand order, then every translation, then the
alignment of device accesses. -/
def Core.checkOps (c : Core) (l : List Opd) : Option Trap :=
  let err {α : Type} (x : Except Trap α) : Option Trap := match x with
    | .error t => some t
    | .ok _ => none
  match l.findSome? (fun o => err (c.segCheck o.seg o.off o.n o.kind)) with
  | some t => some t
  | none =>
    match l.findSome? (fun o => err (c.pieces o.seg o.n o.kind false ((c.seg o.seg).base + o.off).toNat)) with
    | some t => some t
    | none => l.findSome? (fun o => err (c.resolve o.seg o.off o.n o.kind none false))

/-- The exception of an answer other than done (R528). -/
def ansTrap (a : Ans) (pa : Nat) : Trap :=
  match a with
  | .bad st => Trap.check st 1 pa
  | _ => Trap.check 0 4 pa

/-- Overlay buffered bytes on those of memory: the core reads its own most recent writes (R208). -/
def overlay (sb : List Store) (pa : Nat) (bs : List Byte) : List Byte :=
  (bs.zip (List.range bs.length)).map (fun e =>
    sb.foldl (fun v st => if st.lag = none ∧ st.pa ≤ pa + e.2 ∧ pa + e.2 < st.pa + st.bytes.length then
      st.bytes.getD (pa + e.2 - st.pa) v else v) e.1)

/-- The operand buffer allocates an entry for an operand (R156), the oldest of 128 replaced. -/
def Core.opTouch (c : Core) (k pa n : Nat) : Core :=
  if isSvc k then c
  else
    let l := (c.opbuf.filter (fun e => decide (e ≠ { pa := pa, size := n }))) ++ [{ pa := pa, size := n }]
    { c with opbuf := l.drop (l.length - 128) }

/-- Read one piece (R208, R210): an early response for exactly these bytes is used up; otherwise memory is read now. `ob`:
the operand buffer allocates an entry. -/
def State.loadPiece (s : State) (k : Nat) (p : Piece) (ob : Bool) : M (List Byte) :=
  let c := s.core k
  let rq := s.dev.coreReq k c.secure
  if p.attr ≤ 1 ∧ prange p.pa = .dram then
    match c.early.find? (fun e => decide (e.pa = p.pa) && decide (e.bytes.length = p.len)) with
    | some e =>
      .ok (overlay c.sbuf p.pa e.bytes) (s.modCore k (fun c => { c with early := c.early.erase e }))
    | none =>
      match s.pread k (s.dev.coreQos k) rq p.attr p.pa p.len with
      | (.ok bs, s1) =>
        let s2 := if ob && decide (p.attr = 0) then s1.modCore k (fun c => c.opTouch k p.pa p.len) else s1
        .ok (overlay (s2.core k).sbuf p.pa bs) s2
      | (.wait, s1) => .wait s1
      | (a, s1) => .trap (ansTrap a p.pa) s1
  else if c.lops ≠ [] then .drain
  else
    match (s.settleOwn k p.pa p.len).pread k (s.dev.coreQos k) rq p.attr p.pa p.len with
    | (.ok bs, s1) => .ok bs s1
    | (.wait, s1) => .wait s1
    | (a, s1) => .trap (ansTrap a p.pa) s1

/-- Read pieces in ascending order. -/
def State.loadPieces (s : State) (k : Nat) (ob : Bool) : List Piece → M (List Byte)
  | [] => .ok [] s
  | p :: ps => (s.loadPiece k p ob).bind (fun bs s1 => (State.loadPieces s1 k ob ps).bind (fun r s2 => .ok (bs ++ r) s2))

/-- Whether a watchpoint of the core covers an operand (DBG.BPn kinds 1 to 3), with self-hosted debug (R433). -/
def State.watch (s : State) (k lin n : Nat) (kind : AKind) : Bool :=
  !(bit (s.dev.reg (R.dbgCtl k)) 60) && decide (k < 256) &&
  (List.range 4).any (fun i =>
    let b := s.dev.reg (R.dbgBp k i)
    let kd := fld b 61 60
    bit b 63 && (bit b 62 == (s.core k).secure) && ((kd.testBit 0 && kind.reads) || (kd.testBit 1 && kind.writes)) &&
    decide (fld b 47 0 / 8 * 8 ≤ (lin + n - 1) % 2 ^ 48) && decide (lin % 2 ^ 48 < fld b 47 0 / 8 * 8 + 8))

/-- An operand that a watchpoint covers is noted: its debug exception comes after every other exception of the instruction (R119). -/
def State.watched (s : State) (k lin n : Nat) (kind : AKind) : State :=
  if s.watch k lin n kind then s.modCore k (fun c => { c with wpHit := some (c.wpHit.getD lin) }) else s

/-- A load of `n` bytes: the number read (R132). -/
def State.load (s : State) (k seg : Nat) (off : Word) (n : Nat) (ob : Bool) : M Nat :=
  match s.operand k seg off n .read none false with
  | .error t => .trap t s
  | .ok (lin, ps, s0) => (s0.loadPieces k ob ps).bind (fun bs s1 => .ok (ofBytesLE bs) (s1.watched k lin n .read))

/-- Put a completed store into the store buffer; the oldest of 64 drains first (06 "Structure"). An early response for any
of its bytes is dropped. -/
def State.bufferStore (s : State) (k : Nat) (st : Store) : State :=
  let s1 := if 64 ≤ ((s.core k).sbuf.filter (fun x => decide (x.lag = none))).length then
      match (s.core k).sbuf.find? (fun x => decide (x.lag = none)) with
      | some x => s.performStore k x []
      | none => s
    else s
  s1.modCore k (fun c => { c with
    sbuf := c.sbuf ++ [st], early := (c.dropEarly st.pa st.bytes.length).early })

/-- The target's check of one piece of a store (R26, R227): write-back and write-through pieces wait in the buffer once
their home admits them; every other piece is performed now. A piece whose line is poisoned is not performed (R230). -/
def State.storePiece (s : State) (k : Nat) (p : Piece) (bs : List Byte) (ob : Bool) : M Unit :=
  let c := s.core k
  let rq := s.dev.coreReq k c.secure
  if p.attr ≤ 1 ∧ prange p.pa = .dram then
    match s.gate rq p.pa p.len true with
    | (some .wait, s1) => .wait s1
    | (some a, s1) => .trap (ansTrap a p.pa) s1
    | (none, s1) =>
      if s1.mem.poisonedFor k (p.pa / 64) then .trap (ansTrap (.bad 6) p.pa) s1 else
      let s2 := s1.bufferStore k { pa := p.pa, bytes := bs, wb := decide (p.attr = 0), lag := none, old := [], grp := c.sseq, must := false }
      .ok () (if ob then (if p.attr = 0 then s2.modCore k (fun c => c.opTouch k p.pa p.len) else s2) else s2.killOps k (p.pa / 64))
  else if c.lops ≠ [] then .drain
  else if prange p.pa = .dram ∧ s.dev.dramAdmit rq p.pa p.len ∧ s.mem.poisoned (p.pa / 64) then .trap (ansTrap (.bad 6) p.pa) s
  else
    match (s.settleOwn k p.pa p.len).pwrite k (s.dev.coreQos k) rq p.attr p.pa bs with
    | (.ok _, s1) => .ok () s1
    | (.wait, s1) => .wait s1
    | (a, s1) => .trap (ansTrap a p.pa) s1

/-- Write pieces in ascending order. -/
def State.storePieces (s : State) (k : Nat) (ob : Bool) : List Piece → List Byte → M Unit
  | [], _ => .ok () s
  | p :: ps, bs =>
    (s.storePiece k p (bs.take p.len) ob).bind (fun _ s1 => State.storePieces s1 k ob ps (bs.drop p.len))

/-- A store of the low `n` bytes of a value (R132, R226). (DEDUCED, log entry 58.) -/
def State.store (s : State) (k seg : Nat) (off : Word) (n : Nat) (v : Nat) (ob : Bool) : M Unit :=
  match s.operand k seg off n .write none false with
  | .error t => .trap t s
  | .ok (lin, ps, s0) =>
    ((s0.modCore k (fun c => { c with sseq := c.sseq + 1 })).storePieces k ob ps (bytesLE n v)).bind (fun _ s1 =>
      .ok () (s1.watched k lin n .write))

/-- The size of R132 in bytes. -/
def szBytes (sz : BitVec 2) : Nat := 2 ^ sz.toNat

/-- The loaded operand, zero-extended. -/
def zextM (m : Nat) : Word := word m
/-- The loaded operand of `n` bytes, sign-extended. -/
def sextM (m n : Nat) : Word := sextW (word m) (8 * n)

/-- Whether an M operand is allocated (R128, R129), by mode: `disp` zero for modes 3 to 7, seg zero without an override,
an override for mode 8; in the 16-bit form modes 0 to 7, double size, no override and no sixth displacement bit. -/
def memLegal (m : MemOp) (short : Bool) : Bool :=
  let md := m.mode.toNat
  if short then
    decide (md ≤ 7) && decide (m.size = 3#2) && !m.ov && decide (m.seg = 0#3) && decide (m.disp.toNat < 32) &&
    (decide (md ≤ 2) || decide (m.disp = 0#10))
  else
    decide (md ≤ 8) && (decide (md ≤ 2) || decide (md = 8) || decide (m.disp = 0#10)) &&
    (m.ov || decide (m.seg = 0#3)) && (decide (md ≠ 8) || m.ov)

/-- The displacement of an M operand: signed bytes, or 8 times d5 in the 16-bit form (R129). -/
def memDisp (m : MemOp) (short : Bool) : Word :=
  if short then word (8 * m.disp.toNat) else sextW (word m.disp.toNat) 10

/-- A formed operand address: segment, offset, and the index register it updates (R102, R104). -/
structure Ea where
  seg : Nat
  off : Word
  upX : Option Word
  upY : Option Word
deriving DecidableEq, Repr

/-- The address of an operand by mode (R102, R129); `d` its displacement, `abs` its absolute offset for mode 8. -/
def Bank.ea (b : Bank) (mode : Nat) (d abs : Word) (ov : Bool) (seg : Nat) (n : Nat) : Ea :=
  let s1 := if ov then seg else 1
  let s2 := if ov then seg else 2
  let w := word n
  match mode with
  | 0 => ⟨s1, b.x + d, none, none⟩
  | 1 => ⟨s1, b.y + d, none, none⟩
  | 2 => ⟨s2, b.sp + d, none, none⟩
  | 3 => ⟨s1, b.x + b.y, none, none⟩
  | 4 => ⟨s1, b.x, some (b.x + w), none⟩
  | 5 => ⟨s1, b.x - w, some (b.x - w), none⟩
  | 6 => ⟨s1, b.y, none, some (b.y + w)⟩
  | 7 => ⟨s1, b.y - w, none, some (b.y - w)⟩
  | _ => ⟨seg, abs, none, none⟩

/-- The address of an M operand, a PFX before it included (R130). -/
def Core.memEa (c : Core) (h : Hd) (m : MemOp) : Ea :=
  let abs := word ((c.pfx.getD 0) * 1024 + m.disp.toNat)
  c.bank.ea m.mode.toNat (memDisp m h.short) abs m.ov m.seg.toNat (szBytes m.size)

/-- The index update of a completed instruction (R104). -/
def Bank.upd (b : Bank) (e : Ea) : Bank := { b with x := e.upX.getD b.x, y := e.upY.getD b.y }

/-- FENCE.L's condition: every read of the model is performed when its instruction completes, so only responses that came
early for younger instructions are dropped (R212). -/
def Core.fenceReads (c : Core) : Core := { c with early := [] }

/-- The cumulative condition of R213: every write this core's reads have returned is visible. -/
def State.fenceSeen (s : State) (k : Nat) : State :=
  let sn := (s.core k).seen
  let s1 : State := { s with cores := s.cores.map (fun e => (e.1, { e.2 with sbuf := e.2.sbuf.filter (fun st =>
    decide (st.lag = none) || !(sn.any (fun r => st.hits r.1 r.2))) })) }
  s1.modCore k (fun c => { c with seen := [] })

/-- Whether an access of a core's instruction in progress is on its way outside the device: a read or a device-strict write (R215, R216). -/
def Dev.extBusy (d : Dev) (k : Nat) : Bool := d.ext.any (fun e => decide (e.agent = k) && (!e.write || e.strict))

/-- The accesses that a core's instruction had on their way go with it. -/
def Dev.dropExt (d : Dev) (k : Nat) : Dev := { d with ext := d.ext.filter (fun e => decide (e.agent ≠ k) || (e.write && !e.strict)) }

/-- Whether posted exchange-window writes of a core still wait for their completion (R222). -/
def Dev.postedOut (d : Dev) (k : Nat) : Bool :=
  d.ext.any (fun e => decide (e.agent = k) && e.weir && e.write && decide (e.st ≠ .finished))

end Sys2Proof.Machine
end

