-- ==== Sys2Proof/Machine/Flags.lean ====
section
/-! DEFINITION. Conditions (R97) and the flag computations of integer results (R133) and shifts (R137, R139). -/

namespace Sys2Proof.Machine

/-- FL bits. -/
def flZ : Nat := 0
def flN : Nat := 1
def flC : Nat := 2
def flV : Nat := 3
def flT : Nat := 4

/-- Whether a condition holds on FL (R97). -/
def condHolds (cond : BitVec 4) (fl : Word) : Bool :=
  let z := bit fl flZ
  let n := bit fl flN
  let c := bit fl flC
  let v := bit fl flV
  match cond.toNat with
  | 0 => true
  | 1 => z
  | 2 => !z
  | 3 => c
  | 4 => !c
  | 5 => n
  | 6 => !n
  | 7 => v
  | 8 => !v
  | 9 => c && !z
  | 10 => !c || z
  | 11 => n == v
  | 12 => n != v
  | 13 => !z && (n == v)
  | 14 => z || (n != v)
  | _ => bit fl flT

/-- Whether a condition can be written in an instruction's width (R127): AL, EQ, NE and TS in 16 bits. -/
def condLegal (h : Hd) : Bool := !h.short || [0, 1, 2, 15].contains h.cond.toNat

/-- FL with Z and N of a 64-bit result (R133). -/
def setZN (fl r : Word) : Word := setBit (setBit fl flZ (decide (r = 0))) flN r.msb

/-- FL with C and V. -/
def setCV (fl : Word) (c v : Bool) : Word := setBit (setBit fl flC c) flV v

/-- A sum with a carry in, and FL after it (R133). -/
def addFl (a b : Word) (cin : Bool) (fl : Word) : Word × Word :=
  let r := a + b + word cin.toNat
  let full := a.toNat + b.toNat + cin.toNat
  let i := a.toInt + b.toInt + cin.toNat
  (r, setCV (setZN fl r) (decide (2 ^ 64 ≤ full)) (decide (i ≠ r.toInt)))

/-- A difference with a borrow in, and FL after it: C = 1 when no borrow occurs (R133). -/
def subFl (a b : Word) (borrow : Bool) (fl : Word) : Word × Word :=
  let r := a - b - word borrow.toNat
  let i := a.toInt - b.toInt - borrow.toNat
  (r, setCV (setZN fl r) (decide (b.toNat + borrow.toNat ≤ a.toNat)) (decide (i ≠ r.toInt)))

/-- Z, N and V of a result of `8 * n` bits (INC and DEC). -/
def setZNVsz (fl : Word) (n : Nat) (r : Nat) (v : Bool) : Word :=
  setBit (setBit (setBit fl flZ (decide (r % 2 ^ (8 * n) = 0))) flN (r.testBit (8 * n - 1))) flV v

/-- Shift left: the result and FL; C is the last bit out and is unchanged for an amount of zero. -/
def shlFl (a : Word) (n : Nat) (fl : Word) : Word × Word :=
  let r := a <<< n
  (r, setZN (if n = 0 then fl else setBit fl flC (bit a (64 - n))) r)

/-- Logical shift right. -/
def shrFl (a : Word) (n : Nat) (fl : Word) : Word × Word :=
  let r := a >>> n
  (r, setZN (if n = 0 then fl else setBit fl flC (bit a (n - 1))) r)

/-- Arithmetic shift right. -/
def sarFl (a : Word) (n : Nat) (fl : Word) : Word × Word :=
  let r := a.sshiftRight n
  (r, setZN (if n = 0 then fl else setBit fl flC (bit a (n - 1))) r)

/-- Rotate left. -/
def rolW (a : Word) (n : Nat) : Word := a.rotateLeft n

/-- FL with T. -/
def setT (fl : Word) (t : Bool) : Word := setBit fl flT t

end Sys2Proof.Machine
end

