-- ==== Sys2Proof/Machine/Float.lean ====
section
/-! DEFINITION. Floating point (R90, R91, R134): binary32 and binary64 values are unpacked to an exact integer mantissa and
exponent, computed exactly, and rounded once. -/

namespace Sys2Proof.Machine

/-- A binary format: exponent bits and fraction bits. -/
structure Fmt where
  eb : Nat
  fb : Nat
deriving DecidableEq, Repr

def f64 : Fmt := ⟨11, 52⟩
def f32 : Fmt := ⟨8, 23⟩

def Fmt.bits (f : Fmt) : Nat := 1 + f.eb + f.fb
def Fmt.emax (f : Fmt) : Nat := 2 ^ f.eb - 1
def Fmt.bias (f : Fmt) : Nat := 2 ^ (f.eb - 1) - 1

/-- The exponent of the unit in the last place of the smallest numbers. -/
def Fmt.emin (f : Fmt) : Int := 1 - (f.bias : Int) - (f.fb : Int)

/-- A value: not a number (signalling or not), an infinity, or the number (-1)^neg * m * 2^e. -/
inductive FV where
  | nan (sig : Bool)
  | inf (neg : Bool)
  | num (neg : Bool) (m : Nat) (e : Int)
deriving DecidableEq, Repr

/-- The IEEE condition codes of R168. -/
def xIX : Nat := 1
def xUF : Nat := 2
def xOF : Nat := 4
def xDZ : Nat := 8
def xIV : Nat := 16

/-- The value of an encoding. -/
def unpack (f : Fmt) (w : Nat) : FV :=
  let fr := w % 2 ^ f.fb
  let ex := w / 2 ^ f.fb % 2 ^ f.eb
  let ng := w.testBit (f.bits - 1)
  if ex = f.emax then (if fr = 0 then .inf ng else .nan (!(fr.testBit (f.fb - 1))))
  else if ex = 0 then .num ng fr f.emin
  else .num ng (fr + 2 ^ f.fb) ((ex : Int) - (f.bias : Int) - (f.fb : Int))

/-- The default quiet NaN (R134). -/
def Fmt.qnan (f : Fmt) : Nat := f.emax * 2 ^ f.fb + 2 ^ (f.fb - 1)
/-- An infinity. -/
def Fmt.infinity (f : Fmt) (neg : Bool) : Nat := f.emax * 2 ^ f.fb + neg.toNat * 2 ^ (f.bits - 1)
/-- The largest finite number. -/
def Fmt.largest (f : Fmt) (neg : Bool) : Nat := f.emax * 2 ^ f.fb - 1 + neg.toNat * 2 ^ (f.bits - 1)

/-- Whether a magnitude whose lower part is `rem / den` of a unit rounds up (FL.RM: 0 nearest even, 1 toward zero, 2 toward
plus infinity, 3 toward minus infinity). -/
def roundUp (rm : Nat) (neg odd : Bool) (rem den : Nat) : Bool :=
  if rem = 0 then false
  else match rm with
    | 0 => decide (den < 2 * rem) || (decide (2 * rem = den) && odd)
    | 1 => false
    | 2 => !neg
    | _ => neg

/-- Number of bits of a number. -/
def bitLen (n : Nat) : Nat := if n = 0 then 0 else Nat.log2 n + 1

/-- Drop `k` low bits of `m` with `sticky` standing for a non-zero part below them, rounding: the quotient and whether it is
inexact. -/
def roundShift (rm : Nat) (neg : Bool) (m : Nat) (k : Int) (sticky : Bool) : Nat × Bool :=
  -- one extra bit keeps the sticky part strictly between zero and half a unit
  let m2 := 4 * m + sticky.toNat
  let k2 := k + 2
  if k2 ≤ 0 then (m2 * 2 ^ (-k2).toNat, false)
  else
    let den := 2 ^ k2.toNat
    let q := m2 / den
    let rem := m2 % den
    (if roundUp rm neg (q % 2 = 1) rem den then q + 1 else q, decide (rem ≠ 0))

/-- Round (-1)^neg * (m + sticky part) * 2^e to a format (R134): the encoding and the conditions. Tininess is detected after
rounding; underflow is signalled for a tiny and inexact result, or for every tiny non-zero result while TEUF = 1. -/
def pack (f : Fmt) (rm : Nat) (teuf neg : Bool) (m : Nat) (e : Int) (sticky : Bool) : Nat × Nat :=
  let sgn := neg.toNat * 2 ^ (f.bits - 1)
  if m = 0 ∧ !sticky then (sgn, 0)
  else
    let p := f.fb + 1
    -- exponent of the unit with p bits of precision, unbounded below
    let eu : Int := e + (bitLen m : Int) - (p : Int)
    let eq : Int := max eu f.emin
    let (q0, ix0) := roundShift rm neg m (eq - e) sticky
    let (q, ef) := if q0 = 2 ^ p then (2 ^ f.fb, eq + 1) else (q0, eq)
    -- tiny: the result rounded with unbounded exponent lies below the smallest normal number
    let (u0, _) := roundShift rm neg m (eu - e) sticky
    let tiny := decide (eu < f.emin) && !(decide (u0 = 2 ^ p) && decide (eu + 1 = f.emin))
    let uf := if tiny && (ix0 || teuf) then xUF else 0
    let ix := if ix0 then xIX else 0
    if q < 2 ^ f.fb then (sgn + q, uf + ix)
    else
      let ex := ef - f.emin + 1
      if (f.emax : Int) ≤ ex then
        let up := match rm with
          | 0 => true
          | 1 => false
          | 2 => !neg
          | _ => neg
        (if up then f.infinity neg else f.largest neg, xOF + xIX)
      else (sgn + ex.toNat * 2 ^ f.fb + (q - 2 ^ f.fb), uf + ix)

/-- Invalid operation when any operand is a signalling NaN. -/
def ivSig (l : List FV) : Nat := if l.any (fun v => v = .nan true) then xIV else 0

def FV.isNan : FV → Bool
  | .nan _ => true
  | _ => false

/-- The exact sum of two numbers as a signed integer at the lower exponent. -/
def exactSum (n1 : Bool) (m1 : Nat) (e1 : Int) (n2 : Bool) (m2 : Nat) (e2 : Int) : Int × Int :=
  let e := min e1 e2
  let v1 : Int := (m1 * 2 ^ (e1 - e).toNat : Nat)
  let v2 : Int := (m2 * 2 ^ (e2 - e).toNat : Nat)
  ((if n1 then -v1 else v1) + (if n2 then -v2 else v2), e)

/-- Round an exact sum: an exact zero takes the sign both operands share, else plus, or minus toward minus infinity. -/
def packSum (f : Fmt) (rm : Nat) (teuf n1 n2 : Bool) (s : Int × Int) : Nat × Nat :=
  if s.1 = 0 then
    let ng := if n1 = n2 then n1 else decide (rm = 3)
    (ng.toNat * 2 ^ (f.bits - 1), 0)
  else pack f rm teuf (decide (s.1 < 0)) s.1.natAbs s.2 false

/-- Addition. -/
def fpAdd (f : Fmt) (rm : Nat) (teuf : Bool) (a b : FV) : Nat × Nat :=
  match a, b with
  | .nan _, _ => (f.qnan, ivSig [a, b])
  | _, .nan _ => (f.qnan, ivSig [a, b])
  | .inf x, .inf y => if x = y then (f.infinity x, 0) else (f.qnan, xIV)
  | .inf x, _ => (f.infinity x, 0)
  | _, .inf y => (f.infinity y, 0)
  | .num n1 m1 e1, .num n2 m2 e2 => packSum f rm teuf n1 n2 (exactSum n1 m1 e1 n2 m2 e2)

/-- The value with its sign inverted. -/
def FV.neg : FV → FV
  | .nan s => .nan s
  | .inf x => .inf (!x)
  | .num n m e => .num (!n) m e

/-- Multiplication. -/
def fpMul (f : Fmt) (rm : Nat) (teuf : Bool) (a b : FV) : Nat × Nat :=
  match a, b with
  | .nan _, _ => (f.qnan, ivSig [a, b])
  | _, .nan _ => (f.qnan, ivSig [a, b])
  | .inf x, .inf y => (f.infinity (x != y), 0)
  | .inf x, .num n m _ => if m = 0 then (f.qnan, xIV) else (f.infinity (x != n), 0)
  | .num n m _, .inf x => if m = 0 then (f.qnan, xIV) else (f.infinity (x != n), 0)
  | .num n1 m1 e1, .num n2 m2 e2 => pack f rm teuf (n1 != n2) (m1 * m2) (e1 + e2) false

/-- Division: the quotient is taken to 128 extra bits, the remainder kept as the sticky part. -/
def fpDiv (f : Fmt) (rm : Nat) (teuf : Bool) (a b : FV) : Nat × Nat :=
  match a, b with
  | .nan _, _ => (f.qnan, ivSig [a, b])
  | _, .nan _ => (f.qnan, ivSig [a, b])
  | .inf _, .inf _ => (f.qnan, xIV)
  | .inf x, .num n _ _ => (f.infinity (x != n), 0)
  | .num n _ _, .inf x => ((n != x).toNat * 2 ^ (f.bits - 1), 0)
  | .num n1 m1 e1, .num n2 m2 e2 =>
    if m2 = 0 then (if m1 = 0 then (f.qnan, xIV) else (f.infinity (n1 != n2), xDZ))
    else
      let big := m1 * 2 ^ 128
      pack f rm teuf (n1 != n2) (big / m2) (e1 - e2 - 128) (decide (big % m2 ≠ 0))

/-- The integer square root by bits, from the top. -/
def isqrt (n : Nat) : Nat :=
  (List.range (bitLen n / 2 + 1)).foldr (fun i r => if (r + 2 ^ i) * (r + 2 ^ i) ≤ n then r + 2 ^ i else r) 0

/-- Square root. -/
def fpSqrt (f : Fmt) (rm : Nat) (teuf : Bool) (a : FV) : Nat × Nat :=
  match a with
  | .nan _ => (f.qnan, ivSig [a])
  | .inf x => if x then (f.qnan, xIV) else (f.infinity false, 0)
  | .num n m e =>
    if m = 0 then (n.toNat * 2 ^ (f.bits - 1), 0)
    else if n then (f.qnan, xIV)
    else
      let sh : Nat := if e % 2 = 0 then 128 else 129
      let m' := m * 2 ^ sh
      let r := isqrt m'
      pack f rm teuf false r ((e - (sh : Int)) / 2) (decide (r * r ≠ m'))

/-- Fused multiply-add a * b + c with one rounding; zero times infinity is invalid even when c is a quiet NaN (R134). -/
def fpFma (f : Fmt) (rm : Nat) (teuf : Bool) (a b c : FV) : Nat × Nat :=
  let zi := match a, b with
    | .inf _, .num _ m _ => decide (m = 0)
    | .num _ m _, .inf _ => decide (m = 0)
    | _, _ => false
  if zi then (f.qnan, xIV)
  else if a.isNan || b.isNan || c.isNan then (f.qnan, ivSig [a, b, c])
  else
    match a, b, c with
    | .num n1 m1 e1, .num n2 m2 e2, .num n3 m3 e3 =>
      packSum f rm teuf (n1 != n2) n3 (exactSum (n1 != n2) (m1 * m2) (e1 + e2) n3 m3 e3)
    | .num _ _ _, .num _ _ _, .inf z => (f.infinity z, 0)
    | x, y, z =>
      let sg (v : FV) : Bool := match v with
        | .inf n => n
        | .num n _ _ => n
        | .nan _ => false
      let p := sg x != sg y
      (match z with
       | .inf w => if p = w then (f.infinity p, 0) else (f.qnan, xIV)
       | _ => (f.infinity p, 0))

/-- A quiet compare (R91): Z, N, C, V and the conditions. -/
def fpCmp (a b : FV) : (Bool × Bool × Bool × Bool) × Nat :=
  let un : Bool × Bool × Bool × Bool := (false, false, true, true)
  let ord (i : Int) : Bool × Bool × Bool × Bool :=
    if i = 0 then (true, false, true, false) else if i < 0 then (false, true, false, false) else (false, false, true, false)
  let s (n : Bool) : Int := if n then -1 else 1
  match a, b with
  | .nan _, _ => (un, ivSig [a, b])
  | _, .nan _ => (un, ivSig [a, b])
  | .inf x, .inf y => (ord (s x - s y), 0)
  | .inf x, _ => (ord (s x), 0)
  | _, .inf y => (ord (-(s y)), 0)
  | .num n1 m1 e1, .num n2 m2 e2 => (ord (exactSum n1 m1 e1 (!n2) m2 e2).1, 0)

/-- Conversion to another format (FCVT.D.S, FCVT.S.D). -/
def fpConv (dst : Fmt) (rm : Nat) (teuf : Bool) (a : FV) : Nat × Nat :=
  match a with
  | .nan _ => (dst.qnan, ivSig [a])
  | .inf x => (dst.infinity x, 0)
  | .num n m e => pack dst rm teuf n m e false

/-- Conversion of a signed integer (FCVT.D.L, FCVT.S.L). -/
def fpOfInt (dst : Fmt) (rm : Nat) (i : Int) : Nat × Nat := pack dst rm false (decide (i < 0)) i.natAbs 0 false

/-- Conversion to a signed 64-bit integer (FCVT.L.D, FCVT.L.S, FCVTZ.L.D). -/
def fpToInt (rm : Nat) (a : FV) : Word × Nat :=
  let bad : Word × Nat := (0x8000000000000000#64, xIV)
  match a with
  | .nan _ | .inf _ => bad
  | .num n m e =>
    if e > 64 ∧ m ≠ 0 then bad
    else
      let (q, ix) := if 0 ≤ e then (m * 2 ^ (min e.toNat 64), false) else roundShift rm n m (-e) false
      let i : Int := if n then -(q : Int) else q
      if i < -(2 ^ 63) ∨ 2 ^ 63 ≤ i then bad else (wordOfInt i, if ix then xIX else 0)

/-- FL.RM. -/
def flRm (fl : Word) : Nat := fld fl 15 14
/-- FL.TEUF. -/
def flTeuf (fl : Word) : Bool := bit fl 17
/-- The trap enables as the codes of R168. -/
def flTraps (fl : Word) : Nat := fld fl 20 16
/-- The sticky bits of conditions at their place in FL: the codes of R168 lie in the order of FL bits 12:8. -/
def stickyBits (x : Nat) : Word := word (x % 32 * 256)
/-- The arithmetic exception of detected conditions: the codes whose trap enables are 1 (R90). -/
def fpTrap (fl : Word) (x : Nat) : Nat := x &&& flTraps fl

/-- An operand of a format from a register's low bits. -/
def fpArg (f : Fmt) (w : Word) : FV := unpack f (w.toNat % 2 ^ f.bits)

/-- The format named by a size field: 0b10 binary32, 0b11 binary64 (R132). -/
def fmtOf (sz : BitVec 2) : Fmt := if sz = 3#2 then f64 else f32

end Sys2Proof.Machine
end

