-- ==== Sys2Proof/Machine/Insn.lean ====
section
/-! DEFINITION. How a Krele instruction runs: fetch checks (R99, R100, R153, R154), the PFX pair (R130, R131), allocation and
privilege (R98, R119), the wait for long operations (R163 to R174), the condition, completion and the hardware loops (R106). -/

namespace Sys2Proof.Machine

/-- What an instruction reads or writes of the state a long operation may own (R164), as a mask; `tFL` is FL as a whole. -/
def tA : Nat := 1
def tX : Nat := 2
def tY : Nat := 4
def tZN : Nat := 8
def tV : Nat := 16
def tCT : Nat := 32
def tQ : Nat := 64
def tFL : Nat := 128
def tAll : Nat := 255

/-- The flags a condition reads (R165). -/
def condTouch (c : BitVec 4) : Nat :=
  match c.toNat with
  | 0 => 0
  | 1 | 2 | 5 | 6 => tZN
  | 3 | 4 | 15 => tCT
  | 7 | 8 => tV
  | 9 | 10 => tCT + tZN
  | _ => tZN + tV

/-- How an instruction completes: to the next instruction, or to another offset; or to the next instruction with a loop register
written (register 0 LS, 1 LE, 2 LC of a level), which takes effect after its own completion (R107). -/
inductive Out where
  | seq
  | jump (pc : Word)
  | loop (reg lvl : Nat) (v : Word)
deriving DecidableEq, Repr

/-- What the wrapper must know of an instruction: whether its encoding is allocated (R128), the exception its privilege
raises, what it touches (R165), whether it may complete beside a block instruction (R166), whether it is a 32-bit
instruction with mode 8 (R130), whether it is handed off (R167), and whether it may raise events. -/
structure Info where
  legal : Bool
  priv  : Core → Option Trap
  touch : Nat
  free  : Bool
  abs   : Bool
  long  : Bool
  ev    : Bool

/-- No privilege is needed. -/
def anyMode (_ : Core) : Option Trap := none
/-- Privilege in user mode (R135 code PR). -/
def supOnly (c : Core) : Option Trap := if c.mode = 0 then some Trap.privilege else none

/-- An instruction on registers alone. -/
def Info.reg (legal : Bool) (touch : Nat) : Info :=
  { legal := legal, priv := anyMode, touch := touch, free := false, abs := false, long := false, ev := false }

/-- Record a failure in LOPSTAT (R168): VALID, KIND, CAUSE, PC and RSM; MULT and PREC are kept as given. -/
def lopRecord (old : Word) (o : LongOp) (f : LopFail) (rsm mult : Bool) : Word :=
  setFld (setFld (setFld (setBit (setBit (setBit (setBit 0 63 (bit old 63)) 62 true) 61 mult) 60 rsm) 59 56 o.kind) 52 48 f.vec)
    47 1 (fld o.pc 47 1)

/-- What a long operation writes when it completes (R164); the sticky flags are merged (R165). -/
def Core.commit (c : Core) (o : LongOp) : Core :=
  let c1 := c.modBank (fun b =>
    let fl := match o.flags with
      | some (m, v) => (b.fl &&& ~~~m) ||| (v &&& m)
      | none => b.fl
    { b with a := o.a.getD b.a, x := o.x.getD b.x, y := o.y.getD b.y, fl := fl ||| o.sticky })
  { c1 with q := o.q.getD c1.q, sstat := o.sstat.getD c1.sstat }

/-- A failed operation sets its sticky flags and nothing else (R90, R168). -/
def Core.mergeSticky (c : Core) (o : LongOp) : Core := c.modBank (fun b => { b with fl := b.fl ||| o.sticky })

/-- The source and destination segments of a block instruction (R145). -/
def blkSrc (o : BlockOp) : Nat := if o.sov then o.sseg.toNat else 1
def blkDst (o : BlockOp) : Nat := if o.dov then o.dseg.toNat else 1

/-- FL with the end flags of a block instruction (R145). -/
def blkEnd (op : Nat) (fl : Word) : Word :=
  match op with
  | 2 => setT (setBit fl flZ true) true
  | 3 => setT (setBit fl flZ false) true
  | _ => setT fl true

/-- One element of a block instruction (R145, R146); true when it ends the instruction. Its operands are checked in the order of R119;
its stores kill the operand-buffer entries on their lines (R158). (DEDUCED, log entry 55.) -/
def State.blockStep (s : State) (k op : Nat) (o : BlockOp) : M Bool :=
  let b := (s.core k).bank
  let n := szBytes o.size
  let w := word n
  let x := if o.dir then b.x - w else b.x
  let y := if o.dir then b.y - w else b.y
  let x' := if o.dir then x else b.x + w
  let y' := if o.dir then y else b.y + w
  match op with
  | 0 =>
    match (s.core k).checkOps [⟨blkSrc o, x, n, .read⟩, ⟨blkDst o, y, n, .write⟩] with
    | some t => .trap t s
    | none =>
      (s.load k (blkSrc o) x n false).bind fun v s1 =>
      (s1.store k (blkDst o) y n v false).bind fun _ s2 =>
      .ok false (s2.modBank k (fun b => { b with a := b.a - 1, x := x', y := y' }))
  | 1 =>
    (s.store k (blkDst o) y n (b.x.toNat % 2 ^ (8 * n)) false).bind fun _ s2 =>
    .ok false (s2.modBank k (fun b => { b with a := b.a - 1, y := y' }))
  | 2 =>
    match (s.core k).checkOps [⟨blkSrc o, x, n, .read⟩, ⟨blkDst o, y, n, .read⟩] with
    | some t => .trap t s
    | none =>
    (s.load k (blkSrc o) x n false).bind fun v1 s1 =>
    (s1.load k (blkDst o) y n false).bind fun v2 s2 =>
    if v1 = v2 then .ok false (s2.modBank k (fun b => { b with a := b.a - 1, x := x', y := y' }))
    else .ok true (s2.modBank k (fun b => { b with x := x, y := y, fl := setT (subFl (word v1) (word v2) false b.fl).2 false }))
  | _ =>
    (s.load k (blkDst o) y n false).bind fun v s1 =>
    if v = b.x.toNat % 2 ^ (8 * n) then
      .ok true (s1.modBank k (fun b => { b with y := y, fl := setT (setBit b.fl flZ true) false }))
    else .ok false (s1.modBank k (fun b => { b with a := b.a - 1, y := y' }))

/-- The stores that an instruction or element in progress has put into the buffer are discarded (R168, R226, R230): those after number
`n`. -/
def State.unstore (s : State) (k n : Nat) : State :=
  s.modCore k (fun c => { c with sbuf := c.sbuf.filter (fun st => decide (st.grp ≤ n) || decide (st.lag ≠ none)), wpHit := none })

/-- An instruction or element that has to wait has no effect yet, but for what it has asked of targets outside the core: domains woken
(R455), and reads and device-strict writes on their way, each made once (R215, R216). -/
def State.held (s s1 : State) : State :=
  s.onDev (fun d => { d with wakes := s1.dev.wakes
                             ext := d.ext ++ s1.dev.ext.filter (fun e => (!e.write || e.strict) && !(d.ext.contains e)) })

/-- An element made whole: it waits or fails without effect, and a watchpoint on its operands comes after its other exceptions
(R119, R146, R168). -/
def State.blockElem (s : State) (k op : Nat) (o : BlockOp) : M Bool :=
  match s.blockStep k op o with
  | .ok done s1 =>
    match (s1.core k).wpHit with
    | some lin => .trap { Trap.plain 16 with eaddr := word lin } s
    | none => .ok done s1
  | .trap t s1 => .trap t (s1.unstore k (s.core k).sseq)
  | .wait s1 => .wait (s.held s1)
  | r => r

/-- The elements of a block instruction from its present position to its end. -/
def State.blockRun : Nat → State → Nat → Nat → BlockOp → M Unit
  | 0, s, k, op, _ => .ok () (s.modBank k (fun b => { b with fl := blkEnd op b.fl }))
  | n + 1, s, k, op, o =>
    if (s.core k).bank.a = 0 then .ok () (s.modBank k (fun b => { b with fl := blkEnd op b.fl }))
    else
      match s.blockElem k op o with
      | .ok true s1 => .ok () s1
      | .ok false s1 => State.blockRun n s1 k op o
      | .trap t s1 => .trap t s1
      | .wait s1 => .wait s1
      | .stop s1 => .stop s1
      | .drain => .drain

/-- A failure from the exception an element raised. -/
def Trap.toFail (t : Trap) : LopFail :=
  { vec := t.vec, eaddr := t.eaddr, detail := t.detail, seg := t.seg, size := t.size, kind := t.kind, piece := t.piece }

/-- The exception a failure raises as an ordinary instruction. -/
def LopFail.trap (f : LopFail) : Trap :=
  { vec := f.vec, next := false, eaddr := f.eaddr, detail := f.detail, seg := f.seg, size := f.size, kind := f.kind
    piece := f.piece, tgt := none }

/-- One long operation run to its end: done, failed, or waiting for something outside the core. -/
inductive OpRes where
  | done (s : State)
  | failed (f : LopFail) (s : State)
  | wait (s : State)

/-- Run the oldest outstanding operation to its end and take it off the queue. -/
def State.finishOp (s : State) (k : Nat) (o : LongOp) (rest : List LongOp) : OpRes :=
  let s0 := s.modCore k (fun c => { c with lops := [] })
  let back (s : State) (l : List LongOp) : State := s.modCore k (fun c => { c with lops := l })
  match o.block with
  | none =>
    match o.fail with
    | none => .done (back (s0.modCore k (fun c => c.commit o)) rest)
    | some f => .failed f (back (s0.modCore k (fun c => c.mergeSticky o)) rest)
  | some (op, bo) =>
    match s0.blockRun ((s.core k).bank.a.toNat + 1) k op bo with
    | .ok _ s1 => .done (back s1 rest)
    | .trap t s1 => .failed t.toFail (back s1 rest)
    | .wait s1 | .stop s1 => .wait (back s1 (o :: rest))
    | .drain => .wait s

/-- What draining the long operations gives: none is outstanding, an exception was taken, or one waits. -/
inductive DrainRes where
  | clear (s : State)
  | taken (s : State)
  | wait (s : State)

/-- The same before the exception of a failure is taken: the exception and its saved PC. -/
inductive RawDrain where
  | clear (s : State)
  | failed (s : State) (t : Trap) (pc : Word)
  | wait (s : State)

/-- The loops that a block instruction closed at its hand-off are open again when the PC goes back to it (R173): it closes them once,
when it completes. -/
def State.reopen (s : State) (k : Nat) (o : LongOp) : State :=
  match o.loops with
  | some (lc, d) => s.modBank k (fun b => { (b.setLdepth d) with lc := lc })
  | none => s

/-- The exception of a failed operation (R168): its own vector in precise state, and for the first element fault of a block
instruction that no younger instruction passed; vector 1 for a machine check; else vector 15. -/
def failTrap (prec : Bool) (o : LongOp) (f : LopFail) : Trap :=
  if prec then f.trap
  else if f.vec = 1 then { f.trap with next := true, detail := f.detail % 16 + 768 }
  else if o.block.isSome && !o.passed then f.trap
  else { f.trap with vec := 15, next := true, eaddr := 0 }

/-- Complete the outstanding operations in order. After a failure every other one still runs to its end, a further failure
sets MULT (R169); the exception is that of the first. -/
def State.drainOps : Nat → State → Nat → Option (LongOp × LopFail) → RawDrain
  | 0, s, _, _ => .clear s
  | n + 1, s, k, first =>
    let c := s.core k
    match c.lops with
    | [] =>
      match first with
      | none => .clear s
      | some (o, f) =>
        let prec := bit c.lopstat 63
        let t := failTrap prec o f
        -- a PFX pair in progress runs again from its PFX (R131)
        if t.next then .failed s t (if c.pfx.isSome then c.bank.pc - 4 else c.bank.pc) else .failed (s.reopen k o) t o.pc
    | o :: rest =>
      match s.finishOp k o rest with
      | .wait s1 => .wait s1
      | .done s1 => State.drainOps n s1 k first
      | .failed f s1 =>
        match first with
        | some _ =>
          State.drainOps n (s1.modCore k (fun c => { c with lopstat := setBit c.lopstat 61 true })) k first
        | none =>
          let prec := bit c.lopstat 63
          let t := failTrap prec o f
          State.drainOps n (s1.modCore k (fun c => { c with
            lopstat := lopRecord c.lopstat o f (o.block.isSome && decide (t.vec = 15)) false })) k (some (o, f))

/-- Drain every outstanding long operation of a core, its failure not yet taken. -/
def State.drainRaw (s : State) (k : Nat) : RawDrain :=
  if (s.core k).lops = [] then .clear s
  else
    match s.drainOps ((s.core k).lops.length + 1) k none with
    | .wait s1 =>
      -- an operation that waits after another has failed: only the wake it caused is kept, and all are run again
      if (s1.core k).lopstat = (s.core k).lopstat then .wait s1
      else .wait (s.onDev (fun d => { d with wakes := s1.dev.wakes }))
    | r => r

/-- Drain every outstanding long operation of a core; a failure's exception is taken. -/
def State.drainAll (s : State) (k : Nat) : DrainRes :=
  match s.drainRaw k with
  | .clear s1 => .clear s1
  | .wait s1 => .wait s1
  | .failed s1 t pc => .taken (s1.raise k t pc)

/-- Fetch of the instruction at an offset (R99, R100, R153, R154): the checks of both parcels and the targets' answers; a line from
cacheable DRAM goes into L2 and L1I (R237), one from non-cacheable DRAM is read at its home. The service cores and SEC0 fetch from
their boot ROM, which no target refuses. (DEDUCED, log entry 49.) -/
def State.fetch (s : State) (k : Nat) (pc : Word) (len : Nat) : M Unit :=
  let c := s.core k
  match c.segCheck 0 pc len .fetch with
  | .error t => .trap t s
  | .ok lin =>
    match c.xlate 0 len .fetch false 0 lin with
    | .error t => .trap t s
    | .ok (p1, a1) =>
      let second : Except Trap (Nat × Nat) :=
        if len = 4 ∧ lin % 4096 = 4094 then c.xlate 0 len .fetch false 1 ((lin + 2) % 2 ^ 64) else .ok (p1 + 2, a1)
      match second with
      | .error t => .trap t s
      | .ok (p2, a2) =>
        let rq := s.dev.coreReq k c.secure
        let one (s : State) (pa attr : Nat) : M Unit :=
          match s.gate rq pa 2 false with
          | (some .wait, s1) => .wait s1
          | (some a, s1) => .trap { ansTrap a pa with kind := 2 } s1
          | (none, s1) =>
            let l := pa / 64
            let s2 := if prange pa ≠ .dram then s1
              else if attr ≤ 1 then (s1.fillRead k l (decide (attr = 1))).l1Fill k l true
              else s1.serve l { Txn.plain .peek k with qos := s.dev.coreQos k }
            if (if attr ≤ 1 then s2.mem.poisonedFor k l else s2.mem.poisoned l) then .trap { Trap.check 6 1 pa with kind := 2 } s2
            else .ok () s2
        let s0 := s.tlbUse k true lin len
        if isSvc k then .ok () s0
        else if len = 2 then one s0 p1 a1
        else (one s0 p1 a1).bind (fun _ s1 => one s1 p2 a2)

/-- Whether a fetch breakpoint of the core matches (R433, DBG.BPn kind 0). (DEDUCED, log entry 44.) -/
def State.breakAt (s : State) (k : Nat) (pc : Word) : Bool :=
  decide (k < 256) && (List.range 4).any (fun i =>
    let b := s.dev.reg (R.dbgBp k i)
    bit b 63 && (bit b 62 == (s.core k).secure) && decide (fld b 61 60 = 0) &&
    decide (fld b 47 0 = ((((s.core k).seg 0).base + pc).toNat % 2 ^ 48)))

/-- The invasive debug enable of a core's pond for the world it runs (R431, R432). -/
def State.invasive (s : State) (k : Nat) : Bool := s.dbgEnable k 1 (s.core k).secure

/-- Closing the hardware loops whose LE is the completed instruction (R106): the next offset and the bank. -/
def closeLoops : Nat → Bank → Word → Word → Word × Bank
  | 0, b, _, next => (next, b)
  | n + 1, b, off, next =>
    let d := b.ldepth
    if d = 0 ∨ 4 < d then (next, b)
    else if b.le.getD (d - 1) 0 = off then
      let lc := b.lc.getD (d - 1) 0 - 1
      let b1 := { b with lc := b.lc.set (d - 1) lc }
      if lc ≠ 0 then (b.ls.getD (d - 1) 0 &&& ~~~1#64, b1)
      else closeLoops n (b1.setLdepth (d - 1)) off next
    else (next, b)

/-- Write LS (0), LE (1) or LC (2) of a level. -/
def Bank.setLoop (b : Bank) (reg lvl : Nat) (v : Word) : Bank :=
  match reg with
  | 0 => { b with ls := b.ls.set lvl v }
  | 1 => { b with le := b.le.set lvl v }
  | _ => { b with lc := b.lc.set lvl v }

/-- An instruction completes: PC moves on, loops close, a pending single step or debugger step is noted (R106, R108). A loop register
written by MTC takes effect for the next instruction; `old`: also for the closing of LS and LE that this MTC itself makes, which R107
leaves open. -/
def Core.complete (c : Core) (start : Word) (len : Nat) (out : Out) (ss old : Bool) : Core :=
  let (pc, b) := match out with
    | .seq => closeLoops 4 c.bank start (c.bank.pc + word len)
    | .jump t => (t &&& ~~~1#64, c.bank)
    | .loop reg lvl v =>
      if old then
        let (pc, b) := closeLoops 4 c.bank start (c.bank.pc + word len)
        (pc, b.setLoop reg lvl v)
      else closeLoops 4 (c.bank.setLoop reg lvl v) start (c.bank.pc + word len)
  { (c.setBank { b with pc := pc }) with pfx := none, ssPend := ss, lastPc := start, wpHit := none
                                         lops := c.lops.map (fun o => { o with passed := o.passed || decide (o.pc ≠ start) }) }

/-- The core after completion, halted again when the debugger stepped it. -/
def State.finishInsn (s : State) (k : Nat) (start : Word) (len : Nat) (out : Out) (ss : Bool) : State :=
  let old := match out with
    | .loop reg _ _ => decide (2 ≤ reg) || Config.loopOld s.free
    | _ => true
  let s0 : State := match out with
    | .loop _ _ _ => { s with free := s.free + 1 }
    | _ => s
  let s1 := s0.modCore k (fun c => c.complete start len out ss old)
  if (s.core k).stepHalt then s1.halt k 2 else s1

/-- Whether a core runs instructions: running, no single step pending, its domain on. -/
def State.runs (s : State) (k : Nat) : Bool :=
  decide ((s.core k).run = .running) && !(s.core k).ssPend &&
  (isSvc k || decide (s.dev.domState (clusterDom (k / 8)) = 0))

/-- An instruction's exception: every outstanding long operation completes first (R165, R168). -/
def State.insnTrap (s : State) (k : Nat) (t : Trap) (start next : Word) : State :=
  match s.drainAll k with
  | .clear s1 => s1.raise k t (if t.next then next else start)
  | .taken s1 => s1
  | .wait s1 => s1

/-- The answer of an instruction: events it raised are settled. -/
def insnDone (ev : Bool) (s : State) : Host.Outcome State Fault Refusal := .next (if ev then s.settle else s)

/-- The end of an instruction whose body started from `s`: it completes, unless a watchpoint covers an operand (R119); an exception
discards its stores (R230); a wait leaves it unmade. -/
def State.bodyEnd (s : State) (k : Nat) (start : Word) (len : Nat) (ev : Bool) (r : M Out) : Host.Outcome State Fault Refusal :=
  let next := (s.core k).bank.pc + word len
  match r with
  | .ok out s1 =>
    match (s1.core k).wpHit with
    | some lin => insnDone true (s.insnTrap k { Trap.plain 16 with eaddr := word lin } start next)
    | none => insnDone ev (s1.finishInsn k start len out (bit (s.core k).bank.ms 7))
  | .trap t s1 => insnDone true ((s1.unstore k (s.core k).sseq).insnTrap k t start next)
  | .wait s1 => insnDone true (s.held s1)
  | .stop s1 => insnDone true s1
  | .drain => .next s

/-- The body of an instruction, run and completed; one that needs the long operations done is run again after them. -/
def State.runBody (s : State) (k : Nat) (start : Word) (len : Nat) (i : Info) (body : State → M Out) :
    Host.Outcome State Fault Refusal :=
  match body s with
  | .drain =>
    match s.drainAll k with
    | .clear s1 => s1.bodyEnd k start len i.ev (body s1)
    | .taken s1 => insnDone true s1
    | .wait s1 => insnDone true s1
  | r => s.bodyEnd k start len i.ev r

/-- Entries leave a core's TLBs to make room (R186): none of the eight that its TLBWR instructions installed most recently. -/
def Core.tlbGone (c : Core) (l : List (Nat × Nat)) : Core :=
  let keep (t : Nat) (es : List TlbEntry) : List TlbEntry :=
    ((es.zip (List.range es.length)).filter (fun p => (c.tlb.take 8).contains p.1 || !(l.contains (t, p.2)))).map (·.1)
  { c with tlb := keep 0 c.tlb, itlb := keep 1 c.itlb, dtlb := keep 2 c.dtlb }

/-- The TLB entries that an instruction's head names leave before it (R186). -/
def State.shed (s : State) (h : Hd) : State := if h.gone = [] then s else s.modCore h.core (fun c => c.tlbGone h.gone)

/-- A Krele instruction (R98, R119, R131, R165 to R167): the checks before its body, in the order of R119, then its
condition, then its body. (DESIGN CHOICE, log entry 31.) -/
def State.runIns (s : State) (h : Hd) (i : Info) (body : State → M Out) : Host.Outcome State Fault Refusal :=
  let k := h.core
  let s := s.shed h
  if !(s.runs k) then .next s
  else
    let c := s.core k
    let len := h.len
    let pc := c.bank.pc
    let start := if c.pfx.isSome then pc - 4 else pc
    let trap (s : State) (t : Trap) : Host.Outcome State Fault Refusal :=
      insnDone true (s.insnTrap k t start (pc + word len))
    if !(isSvc k) && s.dev.domLost (clusterDom (k / 8)) (s.dev.coreReq k c.secure) then trap s (Trap.check 0 4 0)
    else if s.breakAt k pc && !(bit (s.dev.reg (R.dbgCtl k)) 60) then trap s (Trap.plain 16)
    else if s.breakAt k pc && s.invasive k then insnDone true (s.halt k 3)
    else
      match s.fetch k pc len with
      | .trap t s1 => trap s1 t
      | .wait s1 | .stop s1 => insnDone true s1
      | .drain => .next s
      | .ok _ s1 =>
        if (c.pfx.isSome && !i.abs) || !(h.spelt && i.legal && condLegal h) then trap s1 Trap.illegal
        else
          match i.priv c with
          | some t => trap s1 t
          | none =>
            let need := i.touch ||| condTouch h.cond
            let busy := c.lops.any (fun o => decide (o.own &&& need ≠ 0) || decide (need ≥ tFL) ||
              (o.block.isSome && (!(i.free && decide (h.cond = 0#4)) ||
                (List.range c.bank.ldepth).any (fun l => decide (c.bank.le.getD l 0 = start))))) ||
              (i.long && decide (4 ≤ c.lops.length))
            let go (s : State) : Host.Outcome State Fault Refusal :=
              if condHolds h.cond (s.core k).bank.fl then s.runBody k start len i body
              else .next (s.finishInsn k start len .seq (bit c.bank.ms 7))
            if busy then
              match s1.drainAll k with
              | .clear s2 => go s2
              | .taken s2 => insnDone true s2
              | .wait s2 => insnDone true s2
            else go s1

/-- Hand off a long operation (R163, R171): in precise state and on a service core it completes before the next instruction,
and a failure raises its own vector at the operation. -/
def State.handOff (s : State) (k : Nat) (o : LongOp) : M Out :=
  let b := (s.core k).bank
  let o := if o.block.isSome then { o with loops := some (b.lc, b.ldepth) } else o
  let s1 := s.modCore k (fun c => { c with lops := c.lops ++ [o] })
  if bit (s.core k).lopstat 63 || isSvc k then
    match s1.finishOp k o [] with
    | .done s2 => .ok .seq s2
    | .wait s2 => .stop (s2.modCore k (fun c => { c with lops := [] }))
    | .failed f s2 =>
      -- the exception is taken here: the elements that a block instruction has completed stay
      .stop ((s2.modCore k (fun c => { c with lopstat := lopRecord c.lopstat o f false false })).insnTrap k f.trap o.pc o.pc)
  else .ok .seq s1

/-- A long operation with no effect yet. -/
def LongOp.new (kind own : Nat) (pc : Word) : LongOp :=
  { kind := kind, own := own, pc := pc, len := 4, fail := none, a := none, flags := none, sticky := 0, q := none
    sstat := none, x := none, y := none, block := none, passed := false, loops := none }

/-- An arithmetic failure (R168). -/
def LopFail.arith (detail : Nat) : LopFail :=
  { vec := 14, eaddr := 0, detail := detail, seg := 0, size := 0, kind := 0, piece := 0 }

end Sys2Proof.Machine
end

