-- ==== Sys2Proof/Machine/MemOps.lean ====
section
/-! DEFINITION. The memory-operand instructions LD to FCMP, in their M and S0 forms (R136). -/

namespace Sys2Proof.Machine

/-- The index registers an addressing mode uses, as a mask of R164. -/
def modeTouch (mode : Nat) : Nat :=
  match mode with
  | 0 | 4 | 5 => tX
  | 1 | 6 | 7 => tY
  | 3 => tX + tY
  | _ => 0

/-- What the wrapper knows of an M instruction. -/
def memInfo (h : Hd) (m : MemOp) (extra : Bool) (touch : Nat) : Info :=
  { legal := memLegal m h.short && extra, priv := anyMode, touch := touch ||| modeTouch m.mode.toNat, free := false
    abs := !h.short && decide (m.mode = 8#4), long := false, ev := true }

/-- An M instruction that reads its operand: `f` gives the bank after, from the bank with its index update, the operand and
its size in bytes (R104: a result replaces an update). -/
def memRead (f : Bank → Nat → Nat → Bank) (h : Hd) (m : MemOp) (s : State) : M Out :=
  let k := h.core
  let n := szBytes m.size
  let e := (s.core k).memEa h m
  (s.load k e.seg e.off n true).bind fun v s1 =>
  .ok .seq (s1.modBank k (fun b => f (b.upd e) v n))

/-- An M instruction that stores a register of the bank. -/
def memStore (r : Bank → Word) (h : Hd) (m : MemOp) (s : State) : M Out :=
  let k := h.core
  let n := szBytes m.size
  let e := (s.core k).memEa h m
  (s.store k e.seg e.off n (r (s.core k).bank).toNat true).bind fun _ s1 =>
  .ok .seq (s1.modBank k (fun b => b.upd e))

/-- A write to X or Y of a value that was read: a younger access through it follows the read (R210). -/
def State.indexLoaded (s : State) (k : Nat) : State := s.modCore k (fun c => { c with early := [] })

/-- The same for a body. -/
def loadsIndex (k : Nat) (m : M Out) : M Out := m.bind (fun o s => .ok o (s.indexLoaded k))

/-- A with Z and N of it. -/
def Bank.setA (b : Bank) (r : Word) : Bank := { b with a := r, fl := setZN b.fl r }
/-- A and FL of a sum or difference. -/
def Bank.setAF (b : Bank) (r : Word × Word) : Bank := { b with a := r.1, fl := r.2 }

/-- LD: A = zext(m); Z N. -/
def execLd (h : Hd) (m : MemOp) (s : State) : Host.Outcome State Fault Refusal :=
  s.runIns h (memInfo h m true (tA + tZN)) (memRead (fun b v _ => b.setA (zextM v)) h m)

/-- LDS: A = sext(m); Z N. -/
def execLds (h : Hd) (m : MemOp) (s : State) : Host.Outcome State Fault Refusal :=
  s.runIns h (memInfo h m (!h.short) (tA + tZN)) (memRead (fun b v n => b.setA (sextM v n)) h m)

/-- ST: mem = A. -/
def execSt (h : Hd) (m : MemOp) (s : State) : Host.Outcome State Fault Refusal :=
  s.runIns h (memInfo h m true tA) (memStore (·.a) h m)

/-- LEA: A = the offset; size .D, modes 4 to 7 unallocated. -/
def execLea (h : Hd) (m : MemOp) (s : State) : Host.Outcome State Fault Refusal :=
  s.runIns h { memInfo h m (!h.short && decide (m.size = 3#2) && !(decide (4 ≤ m.mode.toNat) && decide (m.mode.toNat ≤ 7))) tA
    with ev := false } (fun s =>
    .ok .seq (s.modBank h.core (fun b => { b with a := ((s.core h.core).memEa h m).off })))

/-- ADD: A = A + sext(m); Z N C V. -/
def execAdd (h : Hd) (m : MemOp) (s : State) : Host.Outcome State Fault Refusal :=
  s.runIns h (memInfo h m true (tA + tZN + tCT + tV))
    (memRead (fun b v n => b.setAF (addFl b.a (sextM v n) false b.fl)) h m)

/-- ADC: A = A + sext(m) + C. -/
def execAdc (h : Hd) (m : MemOp) (s : State) : Host.Outcome State Fault Refusal :=
  s.runIns h (memInfo h m (!h.short) (tA + tZN + tCT + tV))
    (memRead (fun b v n => b.setAF (addFl b.a (sextM v n) (bit b.fl flC) b.fl)) h m)

/-- SUB: A = A - sext(m). -/
def execSub (h : Hd) (m : MemOp) (s : State) : Host.Outcome State Fault Refusal :=
  s.runIns h (memInfo h m true (tA + tZN + tCT + tV))
    (memRead (fun b v n => b.setAF (subFl b.a (sextM v n) false b.fl)) h m)

/-- SBC: A = A - sext(m) - (1 - C). -/
def execSbc (h : Hd) (m : MemOp) (s : State) : Host.Outcome State Fault Refusal :=
  s.runIns h (memInfo h m (!h.short) (tA + tZN + tCT + tV))
    (memRead (fun b v n => b.setAF (subFl b.a (sextM v n) (!(bit b.fl flC)) b.fl)) h m)

/-- AND: A = A & zext(m). -/
def execAndM (h : Hd) (m : MemOp) (s : State) : Host.Outcome State Fault Refusal :=
  s.runIns h (memInfo h m true (tA + tZN)) (memRead (fun b v _ => b.setA (b.a &&& zextM v)) h m)

/-- OR: A = A | zext(m). -/
def execOrM (h : Hd) (m : MemOp) (s : State) : Host.Outcome State Fault Refusal :=
  s.runIns h (memInfo h m true (tA + tZN)) (memRead (fun b v _ => b.setA (b.a ||| zextM v)) h m)

/-- XOR: A = A ^ zext(m). -/
def execXor (h : Hd) (m : MemOp) (s : State) : Host.Outcome State Fault Refusal :=
  s.runIns h (memInfo h m true (tA + tZN)) (memRead (fun b v _ => b.setA (b.a ^^^ zextM v)) h m)

/-- CMP: A - sext(m), flags only. -/
def execCmp (h : Hd) (m : MemOp) (s : State) : Host.Outcome State Fault Refusal :=
  s.runIns h (memInfo h m true (tA + tZN + tCT + tV))
    (memRead (fun b v n => { b with fl := (subFl b.a (sextM v n) false b.fl).2 }) h m)

/-- TST: A & zext(m), Z and N only. -/
def execTst (h : Hd) (m : MemOp) (s : State) : Host.Outcome State Fault Refusal :=
  s.runIns h (memInfo h m (!h.short) (tA + tZN)) (memRead (fun b v _ => { b with fl := setZN b.fl (b.a &&& zextM v) }) h m)

/-- A read followed by a write of the same bytes, both checked first (R99, R226). -/
def State.rmw (s : State) (k seg : Nat) (off : Word) (n : Nat) (f : Nat → Nat) : M Nat :=
  match s.operand k seg off n .rmw none false with
  | .error t => .trap t s
  | .ok (lin, ps, s0) =>
    (s0.loadPieces k true ps).bind fun bs s1 =>
      ((s1.modCore k (fun c => { c with sseq := c.sseq + 1 })).storePieces k true ps (bytesLE n (f (ofBytesLE bs)))).bind fun _ s2 =>
        .ok (f (ofBytesLE bs)) (s2.watched k lin n .rmw)

/-- INC and DEC: Z N V of the result of the operand's size (R136). -/
def memBump (f : Nat → Nat → Nat) (ov : Nat → Nat → Bool) (h : Hd) (m : MemOp) (s : State) : M Out :=
  let k := h.core
  let n := szBytes m.size
  let e := (s.core k).memEa h m
  (s.rmw k e.seg e.off n (f n)).bind fun r s1 =>
  .ok .seq (s1.modBank k (fun b => { (b.upd e) with fl := setZNVsz b.fl n r (ov n r) }))

/-- INC: mem = m + 1; V when the result is the most negative number. -/
def execInc (h : Hd) (m : MemOp) (s : State) : Host.Outcome State Fault Refusal :=
  s.runIns h (memInfo h m (!h.short) (tZN + tV))
    (memBump (fun n v => (v + 1) % 2 ^ (8 * n)) (fun n r => decide (r = 2 ^ (8 * n - 1))) h m)

/-- DEC: mem = m - 1; V when the result is the most positive number. -/
def execDec (h : Hd) (m : MemOp) (s : State) : Host.Outcome State Fault Refusal :=
  s.runIns h (memInfo h m (!h.short) (tZN + tV))
    (memBump (fun n v => (v + 2 ^ (8 * n) - 1) % 2 ^ (8 * n)) (fun n r => decide (r = 2 ^ (8 * n - 1) - 1)) h m)

/-- LDX: X = zext(m). -/
def execLdx (h : Hd) (m : MemOp) (s : State) : Host.Outcome State Fault Refusal :=
  s.runIns h (memInfo h m true tX) (fun s => loadsIndex h.core (memRead (fun b v _ => { b with x := zextM v }) h m s))

/-- STX: mem = X. -/
def execStx (h : Hd) (m : MemOp) (s : State) : Host.Outcome State Fault Refusal :=
  s.runIns h (memInfo h m true tX) (memStore (·.x) h m)

/-- LDY: Y = zext(m). -/
def execLdy (h : Hd) (m : MemOp) (s : State) : Host.Outcome State Fault Refusal :=
  s.runIns h (memInfo h m true tY) (fun s => loadsIndex h.core (memRead (fun b v _ => { b with y := zextM v }) h m s))

/-- STY: mem = Y. -/
def execSty (h : Hd) (m : MemOp) (s : State) : Host.Outcome State Fault Refusal :=
  s.runIns h (memInfo h m true tY) (memStore (·.y) h m)

/-- MUL: the low 64 bits of A * sext(m). -/
def execMul (h : Hd) (m : MemOp) (s : State) : Host.Outcome State Fault Refusal :=
  s.runIns h (memInfo h m (!h.short) (tA + tZN)) (memRead (fun b v n => b.setA (b.a * sextM v n)) h m)

/-- MULH: the high 64 bits of the signed product. -/
def execMulh (h : Hd) (m : MemOp) (s : State) : Host.Outcome State Fault Refusal :=
  s.runIns h (memInfo h m (!h.short) (tA + tZN))
    (memRead (fun b v n => b.setA (wordOfInt ((b.a.toInt * (sextM v n).toInt) / 2 ^ 64))) h m)

/-- MULHU: the high 64 bits of the unsigned product. -/
def execMulhu (h : Hd) (m : MemOp) (s : State) : Host.Outcome State Fault Refusal :=
  s.runIns h (memInfo h m (!h.short) (tA + tZN))
    (memRead (fun b v _ => b.setA (word (b.a.toNat * v / 2 ^ 64))) h m)

/-- A division hands off its result, computed from A and the operand read now, or its failure for a divisor of zero
(R90, R163). -/
def memDiv (own : Nat) (f : Word → Word → Word × Word) (ext : Nat → Nat → Word) (mask : Word) (h : Hd) (m : MemOp)
    (s : State) : M Out :=
  let k := h.core
  let n := szBytes m.size
  let e := (s.core k).memEa h m
  let pc := (s.core k).bank.pc
  let start := if (s.core k).pfx.isSome then pc - 4 else pc
  (s.load k e.seg e.off n true).bind fun v s1 =>
  let d := ext v n
  let r := f (s1.core k).bank.a d
  let o := LongOp.new 1 own start
  let o1 := if d = 0 then { o with fail := some (LopFail.arith 0x20) }
    else { o with a := some r.1, flags := some (mask, r.2) }
  (s1.handOff k o1).bind fun out s2 => .ok out (s2.modBank k (fun b => b.upd e))

/-- What the wrapper knows of a division. -/
def divInfo (h : Hd) (m : MemOp) (touch : Nat) : Info := { memInfo h m (!h.short) touch with long := true }

/-- DIV: toward zero; -2^63 / -1 gives -2^63 with V = 1. -/
def execDiv (h : Hd) (m : MemOp) (s : State) : Host.Outcome State Fault Refusal :=
  s.runIns h (divInfo h m (tA + tZN + tV)) (memDiv (tA + tZN + tV) (fun a d =>
    let q := wordOfInt (Int.tdiv a.toInt d.toInt)
    (q, setBit (setZN 0 q) flV (decide (a = 0x8000000000000000#64) && decide (d = 0xFFFFFFFFFFFFFFFF#64))))
    sextM 0xB#64 h m)

/-- DIVU. -/
def execDivu (h : Hd) (m : MemOp) (s : State) : Host.Outcome State Fault Refusal :=
  s.runIns h (divInfo h m (tA + tZN)) (memDiv (tA + tZN) (fun a d =>
    let q := word (a.toNat / d.toNat)
    (q, setZN 0 q)) (fun v _ => zextM v) 0x3#64 h m)

/-- REM: the sign of the dividend; -2^63 rem -1 gives 0. (DEDUCED, log entry 46.) -/
def execRem (h : Hd) (m : MemOp) (s : State) : Host.Outcome State Fault Refusal :=
  s.runIns h (divInfo h m (tA + tZN + tV)) (memDiv (tA + tZN + tV) (fun a d =>
    let r := wordOfInt (Int.tmod a.toInt d.toInt)
    (r, setZN 0 r)) sextM 0x3#64 h m)

/-- REMU. -/
def execRemu (h : Hd) (m : MemOp) (s : State) : Host.Outcome State Fault Refusal :=
  s.runIns h (divInfo h m (tA + tZN)) (memDiv (tA + tZN) (fun a d =>
    let r := word (a.toNat % d.toNat)
    (r, setZN 0 r)) (fun v _ => zextM v) 0x3#64 h m)

/-- An arithmetic exception (vector 14) with its codes; the sticky flags of every detected condition are set (R90). -/
def fpRaise {α : Type} (s : State) (k codes detected : Nat) : M α :=
  .trap { Trap.plain 14 with detail := codes } (s.modBank k (fun b => { b with fl := b.fl ||| stickyBits detected }))

/-- The end of a floating-point instruction: the sticky flags, and the result unless a trap is enabled (R90). -/
def fpFinish (s : State) (k : Nat) (x : Nat) (g : Bank → Bank) : M Out :=
  let t := fpTrap (s.core k).bank.fl x
  if t ≠ 0 then fpRaise s k t x
  else .ok .seq (s.modBank k (fun b => g { b with fl := b.fl ||| stickyBits x }))

/-- FADD, FSUB, FMUL. -/
def memFp (f : Fmt → Nat → Bool → FV → FV → Nat × Nat) (h : Hd) (m : MemOp) (s : State) : M Out :=
  let k := h.core
  let n := szBytes m.size
  let e := (s.core k).memEa h m
  let fm := fmtOf m.size
  (s.load k e.seg e.off n true).bind fun v s1 =>
  let b := (s1.core k).bank
  let r := f fm (flRm b.fl) (flTeuf b.fl) (fpArg fm b.a) (unpack fm v)
  fpFinish s1 k r.2 (fun b => { (b.upd e) with a := word r.1 })

/-- Only .S and .D (R132). -/
def fpSize (m : MemOp) : Bool := decide (2 ≤ m.size.toNat)

/-- FADD: A = A + m. -/
def execFadd (h : Hd) (m : MemOp) (s : State) : Host.Outcome State Fault Refusal :=
  s.runIns h (memInfo h m (fpSize m) tA) (memFp fpAdd h m)

/-- FSUB: A = A - m. -/
def execFsub (h : Hd) (m : MemOp) (s : State) : Host.Outcome State Fault Refusal :=
  s.runIns h (memInfo h m (fpSize m) tA) (memFp (fun f rm tu a b => match b with
    | .nan _ => fpAdd f rm tu a b
    | _ => fpAdd f rm tu a b.neg) h m)

/-- FMUL: A = A * m. -/
def execFmul (h : Hd) (m : MemOp) (s : State) : Host.Outcome State Fault Refusal :=
  s.runIns h (memInfo h m (fpSize m) tA) (memFp fpMul h m)

/-- The long operation of a floating-point result (R90, R163). -/
def fpLong (kind : Nat) (pc fl : Word) (r : Nat × Nat) : LongOp :=
  let o := { LongOp.new kind tA pc with sticky := stickyBits r.2 }
  let t := fpTrap fl r.2
  if t ≠ 0 then { o with fail := some (LopFail.arith t) } else { o with a := some (word r.1) }

/-- FDIV: hands off A / m. -/
def execFdiv (h : Hd) (m : MemOp) (s : State) : Host.Outcome State Fault Refusal :=
  s.runIns h { memInfo h m (fpSize m && !h.short) tA with long := true } (fun s =>
    let k := h.core
    let n := szBytes m.size
    let e := (s.core k).memEa h m
    let fm := fmtOf m.size
    let pc := (s.core k).bank.pc
    let start := if (s.core k).pfx.isSome then pc - 4 else pc
    (s.load k e.seg e.off n true).bind fun v s1 =>
    let b := (s1.core k).bank
    let r := fpDiv fm (flRm b.fl) (flTeuf b.fl) (fpArg fm b.a) (unpack fm v)
    (s1.handOff k (fpLong 2 start b.fl r)).bind fun out s2 => .ok out (s2.modBank k (fun b => b.upd e)))

/-- FCMP: a quiet compare (R91, R134). -/
def execFcmp (h : Hd) (m : MemOp) (s : State) : Host.Outcome State Fault Refusal :=
  s.runIns h (memInfo h m (fpSize m) (tA + tZN + tCT + tV)) (fun s =>
    let k := h.core
    let n := szBytes m.size
    let e := (s.core k).memEa h m
    let fm := fmtOf m.size
    (s.load k e.seg e.off n true).bind fun v s1 =>
    let r := fpCmp (fpArg fm (s1.core k).bank.a) (unpack fm v)
    fpFinish s1 k r.2 (fun b => { (b.upd e) with
      fl := setBit (setBit (setBit (setBit b.fl flZ r.1.1) flN r.1.2.1) flC r.1.2.2.1) flV r.1.2.2.2 }))

end Sys2Proof.Machine
end

