-- ==== Sys2Proof/Machine/ImmOps.lean ====
section
/-! DEFINITION. The immediate and register forms S1 and I (R137, R139). A 16-bit instruction carries its 7-bit immediate in
the low bits of `imm`. -/

namespace Sys2Proof.Machine

/-- The immediate sign-extended: 7 bits in the 16-bit form, else 16 (R137, R139). -/
def immS (h : Hd) (imm : BitVec 16) : Word := if h.short then sextW (word imm.toNat) 7 else sextW (word imm.toNat) 16
/-- A 16-bit instruction has a 7-bit immediate. -/
def immLegal (h : Hd) (imm : BitVec 16) : Bool := !h.short || decide (imm.toNat < 128)
/-- A bit number or amount: six bits, the others zero (R137, R139). -/
def bitLegal (imm : BitVec 16) : Bool := decide (imm.toNat < 64)

/-- A register instruction. -/
def regIns (h : Hd) (legal : Bool) (touch : Nat) (f : Bank → Bank) (s : State) : Host.Outcome State Fault Refusal :=
  s.runIns h (Info.reg legal touch) (fun s => .ok .seq (s.modBank h.core f))

/-- LDI: A = sext(imm). -/
def execLdi (h : Hd) (imm : BitVec 16) (s : State) : Host.Outcome State Fault Refusal :=
  regIns h (immLegal h imm) tA (fun b => { b with a := immS h imm }) s

/-- ADDI: A = A + sext(imm); Z N C V. -/
def execAddi (h : Hd) (imm : BitVec 16) (s : State) : Host.Outcome State Fault Refusal :=
  regIns h (immLegal h imm) (tA + tZN + tCT + tV) (fun b => b.setAF (addFl b.a (immS h imm) false b.fl)) s

/-- CMPI: A - sext(imm), flags only. -/
def execCmpi (h : Hd) (imm : BitVec 16) (s : State) : Host.Outcome State Fault Refusal :=
  regIns h (immLegal h imm) (tA + tZN + tCT + tV) (fun b => { b with fl := (subFl b.a (immS h imm) false b.fl).2 }) s

/-- ANDI: A = A & sext(imm); Z N. -/
def execAndi (h : Hd) (imm : BitVec 16) (s : State) : Host.Outcome State Fault Refusal :=
  regIns h (immLegal h imm) (tA + tZN) (fun b => b.setA (b.a &&& immS h imm)) s

/-- LDXI: X = sext(imm). -/
def execLdxi (h : Hd) (imm : BitVec 16) (s : State) : Host.Outcome State Fault Refusal :=
  regIns h (immLegal h imm) tX (fun b => { b with x := immS h imm }) s

/-- ADDXI: X = X + sext(imm). -/
def execAddxi (h : Hd) (imm : BitVec 16) (s : State) : Host.Outcome State Fault Refusal :=
  regIns h (immLegal h imm) tX (fun b => { b with x := b.x + immS h imm }) s

/-- LDYI: Y = sext(imm). -/
def execLdyi (h : Hd) (imm : BitVec 16) (s : State) : Host.Outcome State Fault Refusal :=
  regIns h (immLegal h imm) tY (fun b => { b with y := immS h imm }) s

/-- ADDYI: Y = Y + sext(imm). -/
def execAddyi (h : Hd) (imm : BitVec 16) (s : State) : Host.Outcome State Fault Refusal :=
  regIns h (immLegal h imm) tY (fun b => { b with y := b.y + immS h imm }) s

/-- ADDSP: SP = SP + 8 * sext(imm7). -/
def execAddsp (h : Hd) (imm : BitVec 7) (s : State) : Host.Outcome State Fault Refusal :=
  regIns h h.short 0 (fun b => { b with sp := b.sp + word 8 * sextW (word imm.toNat) 7 }) s

/-- SHLI: Shift A left by n; Z N C. -/
def execShli (h : Hd) (imm : BitVec 7) (s : State) : Host.Outcome State Fault Refusal :=
  regIns h (h.short && decide (imm.toNat < 64)) (tA + tZN + tCT) (fun b => b.setAF (shlFl b.a imm.toNat b.fl)) s

/-- SHRI: Logical right shift; Z N C. -/
def execShri (h : Hd) (imm : BitVec 7) (s : State) : Host.Outcome State Fault Refusal :=
  regIns h (h.short && decide (imm.toNat < 64)) (tA + tZN + tCT) (fun b => b.setAF (shrFl b.a imm.toNat b.fl)) s

/-- SARI: Arithmetic right shift; Z N C. -/
def execSari (h : Hd) (imm : BitVec 7) (s : State) : Host.Outcome State Fault Refusal :=
  regIns h (h.short && decide (imm.toNat < 64)) (tA + tZN + tCT) (fun b => b.setAF (sarFl b.a imm.toNat b.fl)) s

/-- ROLI: rotate left; Z N. -/
def execRoli (h : Hd) (imm : BitVec 7) (s : State) : Host.Outcome State Fault Refusal :=
  regIns h (h.short && decide (imm.toNat < 64)) (tA + tZN) (fun b => b.setA (rolW b.a imm.toNat)) s

/-- BTST: T = A[n]. -/
def execBtst (h : Hd) (imm : BitVec 16) (s : State) : Host.Outcome State Fault Refusal :=
  regIns h (bitLegal imm) (tA + tCT) (fun b => { b with fl := setT b.fl (bit b.a imm.toNat) }) s

/-- BSET: A[n] = 1. -/
def execBset (h : Hd) (imm : BitVec 16) (s : State) : Host.Outcome State Fault Refusal :=
  regIns h (bitLegal imm) tA (fun b => { b with a := setBit b.a imm.toNat true }) s

/-- BCLR: A[n] = 0. -/
def execBclr (h : Hd) (imm : BitVec 16) (s : State) : Host.Outcome State Fault Refusal :=
  regIns h (bitLegal imm) tA (fun b => { b with a := setBit b.a imm.toNat false }) s

/-- SCALL: vector 17 from user or supervisor mode, to the supervisor of the current world; illegal in monitor (R115). -/
def execScall (h : Hd) (imm : BitVec 7) (s : State) : Host.Outcome State Fault Refusal :=
  s.runIns h { Info.reg h.short tAll with priv := fun c => if c.mode = 3 then some Trap.illegal else none, ev := true } (fun s =>
    .trap { Trap.plain 17 with next := true, detail := imm.toNat, tgt := some (1, (s.core h.core).secure) } s)

/-- MCALL: vector 18 from supervisor mode, to monitor; privilege in user mode, illegal in monitor (R115). -/
def execMcall (h : Hd) (imm : BitVec 7) (s : State) : Host.Outcome State Fault Refusal :=
  s.runIns h { Info.reg h.short tAll with
    priv := fun c => if c.mode = 3 then some Trap.illegal else if c.mode = 0 then some Trap.privilege else none, ev := true }
    (fun s => .trap { Trap.plain 18 with next := true, detail := imm.toNat, tgt := some (3, true) } s)

/-- LDIU: A = zext(imm16). -/
def execLdiu (h : Hd) (imm : BitVec 16) (s : State) : Host.Outcome State Fault Refusal :=
  regIns h (!h.short) tA (fun b => { b with a := word imm.toNat }) s

/-- SHLDI: A = (A << 16) | zext(imm16). -/
def execShldi (h : Hd) (imm : BitVec 16) (s : State) : Host.Outcome State Fault Refusal :=
  regIns h (!h.short) tA (fun b => { b with a := b.a <<< 16 ||| word imm.toNat }) s

/-- SUBI: A = A - sext(imm16); Z N C V. -/
def execSubi (h : Hd) (imm : BitVec 16) (s : State) : Host.Outcome State Fault Refusal :=
  regIns h (!h.short) (tA + tZN + tCT + tV) (fun b => b.setAF (subFl b.a (immS h imm) false b.fl)) s

/-- ORI: A = A | zext(imm16); Z N. -/
def execOri (h : Hd) (imm : BitVec 16) (s : State) : Host.Outcome State Fault Refusal :=
  regIns h (!h.short) (tA + tZN) (fun b => b.setA (b.a ||| word imm.toNat)) s

/-- XORI: A = A ^ zext(imm16); Z N. -/
def execXori (h : Hd) (imm : BitVec 16) (s : State) : Host.Outcome State Fault Refusal :=
  regIns h (!h.short) (tA + tZN) (fun b => b.setA (b.a ^^^ word imm.toNat)) s

/-- TSTI: A & zext(imm16), Z and N only. -/
def execTsti (h : Hd) (imm : BitVec 16) (s : State) : Host.Outcome State Fault Refusal :=
  regIns h (!h.short) (tA + tZN) (fun b => { b with fl := setZN b.fl (b.a &&& word imm.toNat) }) s

/-- MULI: the low 64 bits of A * sext(imm16); Z N. -/
def execMuli (h : Hd) (imm : BitVec 16) (s : State) : Host.Outcome State Fault Refusal :=
  regIns h (!h.short) (tA + tZN) (fun b => b.setA (b.a * immS h imm)) s

/-- ADCI: A = A + sext(imm16) + C; Z N C V. -/
def execAdci (h : Hd) (imm : BitVec 16) (s : State) : Host.Outcome State Fault Refusal :=
  regIns h (!h.short) (tA + tZN + tCT + tV) (fun b => b.setAF (addFl b.a (immS h imm) (bit b.fl flC) b.fl)) s

/-- SBCI: A = A - sext(imm16) - (1 - C); Z N C V. -/
def execSbci (h : Hd) (imm : BitVec 16) (s : State) : Host.Outcome State Fault Refusal :=
  regIns h (!h.short) (tA + tZN + tCT + tV) (fun b => b.setAF (subFl b.a (immS h imm) (!(bit b.fl flC)) b.fl)) s

/-- CMPXI: X - sext(imm16), flags only. -/
def execCmpxi (h : Hd) (imm : BitVec 16) (s : State) : Host.Outcome State Fault Refusal :=
  regIns h (!h.short) (tX + tZN + tCT + tV) (fun b => { b with fl := (subFl b.x (immS h imm) false b.fl).2 }) s

/-- CMPYI: Y - sext(imm16), flags only. -/
def execCmpyi (h : Hd) (imm : BitVec 16) (s : State) : Host.Outcome State Fault Refusal :=
  regIns h (!h.short) (tY + tZN + tCT + tV) (fun b => { b with fl := (subFl b.y (immS h imm) false b.fl).2 }) s

/-- SHLDX: X = (X << 16) | zext(imm16). -/
def execShldx (h : Hd) (imm : BitVec 16) (s : State) : Host.Outcome State Fault Refusal :=
  regIns h (!h.short) tX (fun b => { b with x := b.x <<< 16 ||| word imm.toNat }) s

/-- SHLDY: Y = (Y << 16) | zext(imm16). -/
def execShldy (h : Hd) (imm : BitVec 16) (s : State) : Host.Outcome State Fault Refusal :=
  regIns h (!h.short) tY (fun b => { b with y := b.y <<< 16 ||| word imm.toNat }) s

/-- ADDSPI: SP = SP + sext(imm16). -/
def execAddspi (h : Hd) (imm : BitVec 16) (s : State) : Host.Outcome State Fault Refusal :=
  regIns h (!h.short) 0 (fun b => { b with sp := b.sp + immS h imm }) s

/-- SHL: as SHLI. -/
def execShl (h : Hd) (imm : BitVec 16) (s : State) : Host.Outcome State Fault Refusal :=
  regIns h (!h.short && bitLegal imm) (tA + tZN + tCT) (fun b => b.setAF (shlFl b.a imm.toNat b.fl)) s

/-- SHR: as SHRI. -/
def execShr (h : Hd) (imm : BitVec 16) (s : State) : Host.Outcome State Fault Refusal :=
  regIns h (!h.short && bitLegal imm) (tA + tZN + tCT) (fun b => b.setAF (shrFl b.a imm.toNat b.fl)) s

/-- SAR: as SARI. -/
def execSar (h : Hd) (imm : BitVec 16) (s : State) : Host.Outcome State Fault Refusal :=
  regIns h (!h.short && bitLegal imm) (tA + tZN + tCT) (fun b => b.setAF (sarFl b.a imm.toNat b.fl)) s

/-- ROL: as ROLI. -/
def execRol (h : Hd) (imm : BitVec 16) (s : State) : Host.Outcome State Fault Refusal :=
  regIns h (!h.short && bitLegal imm) (tA + tZN) (fun b => b.setA (rolW b.a imm.toNat)) s

/-- BTGL: inverts A[n]. -/
def execBtgl (h : Hd) (imm : BitVec 16) (s : State) : Host.Outcome State Fault Refusal :=
  regIns h (!h.short && bitLegal imm) tA (fun b => { b with a := setBit b.a imm.toNat (!(bit b.a imm.toNat)) }) s

/-- The field of BFX and BFXS: position p and length, allocated while p + len is at most 64 and bits 15:12 are zero; on
stepping A0 both are unallocated (R128, R139). -/
def bfLegal (part : Part) (h : Hd) (imm : BitVec 16) : Bool :=
  !h.short && part.b0 && decide (imm.toNat < 4096) && decide (imm.toNat % 64 + imm.toNat / 64 + 1 ≤ 64)

/-- BFX: A = zext of the field; Z. -/
def execBfx (h : Hd) (imm : BitVec 16) (s : State) : Host.Outcome State Fault Refusal :=
  regIns h (bfLegal s.dev.part h imm) (tA + tZN) (fun b =>
    let r := zextW (b.a >>> (imm.toNat % 64)) (imm.toNat / 64 + 1)
    { b with a := r, fl := setBit b.fl flZ (decide (r = 0)) }) s

/-- BFXS: A = sext of the field; Z N. -/
def execBfxs (h : Hd) (imm : BitVec 16) (s : State) : Host.Outcome State Fault Refusal :=
  regIns h (bfLegal s.dev.part h imm) (tA + tZN) (fun b =>
    b.setA (sextW (b.a >>> (imm.toNat % 64)) (imm.toNat / 64 + 1))) s

end Sys2Proof.Machine
end

