-- ==== Sys2Proof/Machine/Switch.lean ====
section
/-! DEFINITION. Switching sluice contexts (R282 to R287): the save of a context's halves, its restore, and the reading of the
groups of its upper half. -/

namespace Sys2Proof.Machine

/-- The area that D2 names, and the world it belongs to (R285). -/
def Dev.upperArea (d : Dev) (x : Nat) : Nat := areaAddr (d.cd x 2)

/-- The 112 bytes of the segment group in an upper-half payload (R257). -/
def segBytes (w : WorldRegs) : List Byte :=
  w.segs.flatMap (fun g => bytesLE 8 g.base.toNat) ++ w.segs.flatMap (fun g => bytesLE 6 g.lim.toNat)

/-- The rights of S0 to S7 as HDR bits 39:0 hold them. -/
def rgtBits (w : WorldRegs) : Nat :=
  (w.segs.zip (List.range 8)).foldl (fun acc e => acc + (fld e.1.rgt 4 0) * 2 ^ (5 * e.2)) 0

/-- HDR of an upper-half area with both groups (R257). -/
def upperHdr (secure sluice : Bool) (next : Nat) (w : WorldRegs) : Word :=
  setFld (setFld (setFld (setBit (setBit (setFld 0 63 62 2) 61 secure) 60 sluice) 59 57 next) 55 40 (fld w.asid 15 0)) 39 0
    (rgtBits w)

/-- The words of an upper half (R257). -/
def upperWords (w : WorldRegs) (q : List Word) : List Word := wordsOf 14 (segBytes w) ++ q

/-- A world's registers with the segment group that an area holds (R258, R260). -/
def WorldRegs.loadSegs (w : WorldRegs) (bs : List Byte) : WorldRegs :=
  let h := areaHdr bs
  { w with
    asid := word (fld h 55 40)
    segs := (List.range 8).map (fun n =>
      { base := word (leAt bs (16 + 8 * n) 8), lim := word (leAt bs (80 + 6 * n) 6), rgt := word (fld h (5 * n + 4) (5 * n)) }) }

/-- A core with the stream group that an area holds. -/
def Core.loadStream (c : Core) (bs : List Byte) : Core :=
  { c with q := (List.range 8).map (fun n => word (leAt bs (128 + 8 * n) 8)), sstat := word (fld (areaHdr bs) 59 57) }

/-- Fold the counted L2 misses of a context into D7 at its switch-out (R287): TOP and SHARE go by every miss since the last placement
decision. (DEDUCED, log entry 82.) -/
def Dev.foldMisses (d0 : Dev) (x : Nat) (run : Tab Nat) : Dev :=
  let miss := run.foldl (fun t e => Tab.set (fun _ => 0) t e.1 (Tab.get (fun _ => 0) t e.1 + e.2)) (d0.ctx x).miss
  let more := run.foldl (fun a e => a + e.2) 0
  let total := miss.foldl (fun a e => a + e.2) 0
  let d := d0.setCtx x { d0.ctx x with miss := miss }
  if more = 0 then d0
  else
    let top := miss.foldl (fun a e => if a.2 < e.2 then e else a) (0, 0)
    let w := d.cd x 7
    d.setCd x 7 (setFld (setFld (setFld w 63 48 (satAdd 0xFFFF (fld w 63 48) more)) 47 40 (min 255 (top.2 * 256 / total)))
      36 32 top.1)

/-- The sluice no longer runs a context on a core. -/
def Dev.leaveCore (d : Dev) (k : Nat) : Dev :=
  (d.setCslu k { d.cslu k with ctx := none, inPlace := false, waitCsh := none, miss := [], strNeed := false }).setReg
    (R.cluRuninfo (k / 8) (k % 8)) 0

/-- The groups that changed since they were loaded are written to the D2 area of a context with one (R285); none: the write
failed. -/
def State.saveGroups (s : State) (k x : Nat) : Option State :=
  let cs := s.dev.cslu k
  if s.dev.cd x 2 = 0 ∨ (!cs.segDirty && !cs.strDirty) then some s
  else
    let sec := s.dev.ctxSecure x
    let area := s.dev.upperArea x
    match s.areaRead k sec area with
    | .bad _ => none
    | .ok old s1 =>
      let c := s1.core k
      let w := c.wr sec
      let h0 := setBit (setBit (setFld (areaHdr old) 63 62 2) 61 sec) 60 true
      let h1 := if cs.segDirty then setFld (setFld h0 55 40 (fld w.asid 15 0)) 39 0 (rgtBits w) else h0
      let h2 := if cs.strDirty then setFld h1 59 57 (fld c.sstat 2 0) else h1
      let seg := if cs.segDirty then segBytes w else (old.drop 16).take 112
      let str := if cs.strDirty then wordBytes c.q else (old.drop 128).take 64
      match s1.areaWrite k sec area (old.take 8 ++ bytesLE 8 h2.toNat ++ seg ++ str) with
      | .bad _ => none
      | .ok _ s2 => some (s2.onDev (fun d => d.setCslu k { d.cslu k with segDirty := false, strDirty := false }))

/-- The save of a switch-out (R282): the context's accesses are performed with the cumulative condition of R213 (R224), its changed groups and its lower half are saved, D1
names the area and CSH is empty; the core is idle. An error is the cause of R262: 2 the chain is exhausted, 3 a write failed. -/
def State.saveCtx (s : State) (k x : Nat) : Except Nat State :=
  let sec := s.dev.ctxSecure x
  match ((s.drainStores k).fenceSeen k).saveGroups k x with
  | none => .error 3
  | some s1 =>
    let c := s1.core k
    let w := c.wr sec
    match s1.saveArea k sec w.csh (lowerHdr sec true) (lowerWords c.bank c.bank.pc c.bank.ms w.esyn w.eaddr) with
    | .exhausted => .error 2
    | .failed _ => .error 3
    | .saved area link s2 =>
      let s3 := s2.modCore k (fun c =>
        let c1 := c.linkArea sec area link
        { (c1.setWr sec { c1.wr sec with csh := 0 }) with run := .idle, early := [], ssPend := false })
      .ok (s3.onDev (fun d => ((d.setCd x 1 (word area)).foldMisses x (d.cslu k).miss).leaveCore k))

/-- Switch-out (R282): a failed save is a bank nesting error (R262, R284). True when the save was made. -/
def State.switchOut (s : State) (k x : Nat) : State × Bool :=
  match s.saveCtx k x with
  | .ok s1 => (s1, true)
  | .error cause => (s.bankNest k cause 0 (s.dev.ctxSecure x), false)

/-- A group of the upper half is read from the area that D2 names (R285); none: it could not be (R284). -/
def State.loadGroup (s : State) (k x : Nat) (stream : Bool) : Option State :=
  let sec := s.dev.ctxSecure x
  match s.areaRead k sec (s.dev.upperArea x) with
  | .bad _ => none
  | .ok bs s1 =>
    if fld (areaHdr bs) 63 62 ≠ 2 ∨ bit (areaHdr bs) 61 ≠ sec then none
    else
      let home := (s1.dev.ctx x).home
      if stream then
        some ((s1.modCore k (fun c => c.loadStream bs)).onDev (fun d =>
          d.setCslu k { d.cslu k with strHold := some home, strDirty := false, strNeed := false }))
      else
        some ((s1.modCore k (fun c => c.setWr sec ((c.wr sec).loadSegs bs))).onDev (fun d =>
          d.setCslu k { d.cslu k with segHold := some home, segDirty := false }))

/-- A restore that fails: the context is STOPPED and RESTFAIL is set (R284). -/
def Dev.restFail (d : Dev) (k x : Nat) : Dev :=
  ((d.setCtxState x stStopped).setCslu k { d.cslu k with assigned := none }).alarm (x / 1024) 2

/-- A stream group that could not be read after the context has begun to run: it is switched out at this boundary, as at a STOP, and
is STOPPED (R284); with CFC below 4 its switch-out is withheld, and it stands at the instruction (R283). -/
def State.streamFail (s : State) (k x : Nat) : State :=
  match s.drainAll k with
  | .taken s1 | .wait s1 => s1
  | .clear s1 =>
    let stop (s : State) : State := s.onDev (fun d => (d.setCtxState x stStopped).alarm (x / 1024) 2)
    if cfcOf (s1.core k) (s1.dev.ctxSecure x) < 4 then (stop s1).onDev (fun d => d.alarm (x / 1024) 1)
    else
      let r := s1.switchOut k x
      if r.2 then stop r.1 else r.1

/-- The stream group of the running context is read before its first stream instruction (R285). -/
def State.withStream (s : State) (k : Nat) (f : State → M Out) : M Out :=
  if (s.dev.cslu k).strNeed then
    match (s.dev.cslu k).ctx with
    | none => f s
    | some x =>
      match s.loadGroup k x true with
      | some s1 => f s1
      | none => .stop (s.streamFail k x)
  else f s

/-- The start of a restored context that an event made READY, or RUNINFO and RUNEV of its last start (R278, R286). -/
def Dev.restored (d : Dev) (k x : Nat) : Dev :=
  let w := d.ctx x
  let plainInfo : Dev :=
    let ri : Word := setFld (setFld (setFld (setFld (setFld (setFld 0 63 63 1) 62 59 (fld (d.cd x 5) 63 60))
      58 55 (fld (d.cd x 5) 59 56)) 54 50 (w.home / 1024)) 49 40 (w.home % 1024))
      31 0 (if fld (d.cd x 5) 59 56 = 1 then fld (d.cd x 4) 63 32 else 0)
    (d.setReg (R.cluRuninfo (k / 8) (k % 8)) ri).setReg (R.cluRunev (k / 8) (k % 8)) w.angle
  if w.byEvent then
    match d.consume x with
    | some (e, d1) => (d1.setByEvent x false).start x k e
    | none => plainInfo
  else plainInfo

/-- Restore (R282, R285): the area at D1 is checked and its lower half and MS are loaded, the groups that must come from D2
are read or noted, the area goes to the core's free list, and the context runs. -/
def State.restoreCtx (s : State) (k x : Nat) : State :=
  let d := s.dev
  let sec := d.ctxSecure x
  let area := areaAddr (d.cd x 1)
  let home := (d.ctx x).home
  let fail (s : State) : State := s.onDev (fun d => d.restFail k x)
  match s.areaRead k sec area with
  | .bad _ => fail s
  | .ok bs s1 =>
    let ws := areaWords bs
    let m := ws.getD 18 0
    if fld (areaHdr bs) 63 62 ≠ 1 ∨ bit (areaHdr bs) 61 ≠ sec ∨ bit m 2 ≠ sec ∨ 2 ≤ fld m 1 0 then fail s1
    else
      let own := decide (d.cd x 2 ≠ 0)
      let moved := decide (fld (d.cd x 0) 50 48 ≠ k % 8)
      let cs := d.cslu k
      let needSeg := own && (decide (cs.segHold ≠ some home) || moved)
      let needStr := own && (decide (cs.strHold ≠ some home) || moved)
      let s2? : Option State := if needSeg then s1.loadGroup k x false else some s1
      match s2? with
      | none => fail s1
      | some s2 =>
        let s3 := s2.freeArea k sec area (word (leAt bs 0 8))
        let s4 := s3.modCore k (fun c =>
          let c1 := c.crossWorld sec
          { (c1.modBank (fun b => b.restore ws sec true)) with
            early := [], run := .running, ssPend := false
            lopstat := setBit c1.lopstat 63 (bit (d.cd x 0) 60) })
        s4.onDev (fun d =>
          let cs := d.cslu k
          let d1 := d.setCslu k { cs with
            ctx := some x, assigned := none, inPlace := false, waitCsh := none, miss := [], strNeed := needStr
            segHold := if own then cs.segHold else none
            strHold := if own then cs.strHold else none
            segDirty := false, strDirty := false }
          let w := setFld (setFld (d1.cd x 0) 63 61 stRunning) 50 48 (k % 8)
          (d1.setCd x 0 w).restored k x)

/-- A boundary at which an asynchronous event or a switch is taken (R165, R173): the long operations complete, or a block
instruction stops at an element boundary with the PC at it and its loops open. -/
def State.quiesce (s : State) (k : Nat) : DrainRes :=
  match ((s.core k).lops.reverse).head? with
  | some o =>
    if o.block.isSome then
      match (s.modCore k (fun c => { c with lops := c.lops.dropLast })).drainAll k with
      | .clear s1 => .clear ((s1.reopen k o).modBank k (fun b => { b with pc := o.pc }))
      | .taken s1 => .taken s1
      | .wait s1 => .wait (s1.modCore k (fun c => { c with lops := c.lops ++ [o] }))
    else s.drainAll k
  | none => .clear s

end Sys2Proof.Machine
end

