-- ==== Sys2Proof/Machine/GroupG.lean ====
section
/-! DEFINITION. Group G: moves, stack operations, returns, fences, waits (R138). Each is a 16-bit instruction. -/

namespace Sys2Proof.Machine

/-- NOP. -/
def execNop (h : Hd) (s : State) : Host.Outcome State Fault Refusal :=
  s.runIns h { Info.reg h.short 0 with free := true } (fun s => .ok .seq s)

/-- MV, by imm7 from 0x01 to 0x08; a write of X, Y or SP from a read value orders later accesses through it (R210). -/
def execMv (h : Hd) (k : BitVec 4) (s : State) : Host.Outcome State Fault Refusal :=
  let n := k.toNat
  let touch := match n with
    | 1 | 2 => tA + tX
    | 3 | 4 => tA + tY
    | 5 | 6 => tX + tY
    | _ => tA
  s.runIns h (Info.reg (h.short && decide (1 ≤ n) && decide (n ≤ 8)) touch) (fun s =>
    let s1 := s.modBank h.core (fun b => match n with
      | 1 => { b with x := b.a }
      | 2 => { b with a := b.x }
      | 3 => { b with y := b.a }
      | 4 => { b with a := b.y }
      | 5 => { b with y := b.x }
      | 6 => { b with x := b.y }
      | 7 => { b with a := b.sp }
      | _ => { b with sp := b.a })
    .ok .seq (if n = 2 ∨ n = 4 ∨ n = 7 then s1 else s1.indexLoaded h.core))

/-- XCH: exchange X and Y. -/
def execXch (h : Hd) (s : State) : Host.Outcome State Fault Refusal :=
  s.runIns h (Info.reg h.short (tX + tY)) (fun s =>
    .ok .seq ((s.modBank h.core (fun b => { b with x := b.y, y := b.x })).indexLoaded h.core))

/-- NEG: A = 0 - A; Z N C V. -/
def execNeg (h : Hd) (s : State) : Host.Outcome State Fault Refusal :=
  regIns h h.short (tA + tZN + tCT + tV) (fun b => b.setAF (subFl 0 b.a false b.fl)) s

/-- NOT: the complement of A; Z N. -/
def execNot (h : Hd) (s : State) : Host.Outcome State Fault Refusal :=
  regIns h h.short (tA + tZN) (fun b => b.setA (~~~b.a)) s

/-- Push a doubleword through S2; SP is updated only on completion (R103, R138). -/
def State.push (s : State) (k : Nat) (v : Word) : M Out :=
  let sp := (s.core k).bank.sp - 8
  (s.store k 2 sp 8 v.toNat true).bind fun _ s1 => .ok .seq (s1.modBank k (fun b => { b with sp := sp }))

/-- Pop a doubleword through S2. -/
def State.pop (s : State) (k : Nat) (f : Bank → Word → Bank) : M Out :=
  let sp := (s.core k).bank.sp
  (s.load k 2 sp 8 true).bind fun v s1 => .ok .seq (s1.modBank k (fun b => f { b with sp := sp + 8 } (word v)))

/-- What the wrapper knows of a push or pop. -/
def stackInfo (h : Hd) (touch : Nat) : Info := { Info.reg h.short touch with ev := true }

/-- PUSHA. -/
def execPusha (h : Hd) (s : State) : Host.Outcome State Fault Refusal :=
  s.runIns h (stackInfo h tA) (fun s => s.push h.core (s.core h.core).bank.a)
/-- POPA. -/
def execPopa (h : Hd) (s : State) : Host.Outcome State Fault Refusal :=
  s.runIns h (stackInfo h tA) (fun s => s.pop h.core (fun b v => { b with a := v }))
/-- PUSHX. -/
def execPushx (h : Hd) (s : State) : Host.Outcome State Fault Refusal :=
  s.runIns h (stackInfo h tX) (fun s => s.push h.core (s.core h.core).bank.x)
/-- POPX. -/
def execPopx (h : Hd) (s : State) : Host.Outcome State Fault Refusal :=
  s.runIns h (stackInfo h tX) (fun s => loadsIndex h.core (s.pop h.core (fun b v => { b with x := v })))
/-- PUSHY. -/
def execPushy (h : Hd) (s : State) : Host.Outcome State Fault Refusal :=
  s.runIns h (stackInfo h tY) (fun s => s.push h.core (s.core h.core).bank.y)
/-- POPY. -/
def execPopy (h : Hd) (s : State) : Host.Outcome State Fault Refusal :=
  s.runIns h (stackInfo h tY) (fun s => loadsIndex h.core (s.pop h.core (fun b v => { b with y := v })))
/-- PUSHF: push FL. -/
def execPushf (h : Hd) (s : State) : Host.Outcome State Fault Refusal :=
  s.runIns h (stackInfo h tFL) (fun s => s.push h.core (s.core h.core).bank.fl)
/-- POPF: FL but LDEPTH and its reserved bits. -/
def execPopf (h : Hd) (s : State) : Host.Outcome State Fault Refusal :=
  s.runIns h (stackInfo h tFL) (fun s => s.pop h.core (fun b v =>
    { b with fl := (b.fl &&& 0x07000000#64) ||| (v &&& flMask &&& ~~~0x07000000#64) }))

/-- The doublewords of a CALL mask's groups, the lowest bit first (R123, R124). -/
def maskRegs (mask : Nat) (b : Bank) (q : List Word) : List Word :=
  (if mask.testBit 0 then [b.a] else []) ++ (if mask.testBit 1 then [b.x] else []) ++
  (if mask.testBit 2 then [b.y] else []) ++ (if mask.testBit 3 then [b.fl] else []) ++
  (if mask.testBit 4 then b.ls ++ b.le ++ b.lc ++ [word b.ldepth] else []) ++
  (if mask.testBit 5 then q.take 4 else []) ++ (if mask.testBit 6 then q.drop 4 else [])

/-- Number of doublewords of a mask's groups. -/
def maskLen (mask : Nat) : Nat :=
  (mask.testBit 0).toNat + (mask.testBit 1).toNat + (mask.testBit 2).toNat + (mask.testBit 3).toNat +
  13 * (mask.testBit 4).toNat + 4 * (mask.testBit 5).toNat + 4 * (mask.testBit 6).toNat

/-- Read consecutive doublewords of the stack. -/
def State.loadWords (s : State) (k : Nat) (off : Word) : Nat → M (List Word)
  | 0 => .ok [] s
  | n + 1 => (s.load k 2 off 8 true).bind fun v s1 =>
    (State.loadWords s1 k (off + 8) n).bind fun vs s2 => .ok (word v :: vs) s2

/-- Push doublewords: the last of the list first, at the highest address. -/
def State.pushWords (s : State) (k : Nat) (sp : Word) (ws : List Word) : M Unit :=
  ((ws.zip (List.range ws.length)).reverse).foldl (fun m e =>
    m.bind fun _ s1 => s1.store k 2 (sp + word (8 * e.2)) 8 e.1.toNat true) (.ok () s)

/-- Restore the groups of a mask, lowest bit first (R124): LDEPTH of bit 4 overrides that of FL. -/
def Core.unmask (c : Core) (mask : Nat) (ws : List Word) : Core :=
  let t (i n : Nat) : Nat := if mask.testBit i then n else 0
  let g (i : Nat) : Word := ws.getD i 0
  let b := c.bank
  let o1 := t 0 1
  let o2 := o1 + t 1 1
  let o3 := o2 + t 2 1
  let o4 := o3 + t 3 1
  let o5 := o4 + t 4 13
  let o6 := o5 + t 5 4
  let b1 : Bank := { b with a := if mask.testBit 0 then g 0 else b.a, x := if mask.testBit 1 then g o1 else b.x
                            y := if mask.testBit 2 then g o2 else b.y
                            fl := if mask.testBit 3 then g o3 &&& flMask else b.fl }
  let b2 := if mask.testBit 4 then
      ({ b1 with ls := (ws.drop o4).take 4, le := (ws.drop (o4 + 4)).take 4
                 lc := (ws.drop (o4 + 8)).take 4 } : Bank).setLdepth (fld (g (o4 + 12)) 2 0)
    else b1
  { (c.setBank b2) with
    q := (if mask.testBit 5 then (ws.drop o5).take 4 else c.q.take 4) ++
         (if mask.testBit 6 then (ws.drop o6).take 4 else c.q.drop 4) }

/-- Whether a mask names stream lanes, which a service core has not (R122). (DEDUCED, log entry 48.) -/
def maskStream (mask : Nat) : Bool := mask.testBit 5 || mask.testBit 6

/-- RET (R123, R124): pops the return offset, the mask and the masked registers; a mask with bit 7 raises illegal instruction
with SP unchanged. -/
def execRet (h : Hd) (s : State) : Host.Outcome State Fault Refusal :=
  s.runIns h (stackInfo h tAll) (fun s =>
    let k := h.core
    let sp := (s.core k).bank.sp
    (s.loadWords k sp 2).bind fun hd s1 =>
    let mask := (hd.getD 1 0).toNat % 256
    if mask.testBit 7 ∨ (isSvc k ∧ maskStream mask) then .trap Trap.illegal s1
    else
      let go (s1 : State) : M Out :=
        (s1.loadWords k (sp + 16) (maskLen mask)).bind fun ws s2 =>
        .ok (.jump (hd.getD 0 0)) ((s2.modCore k (fun c =>
          (c.unmask mask ws).modBank (fun b => { b with sp := sp + 16 + word (8 * maskLen mask) }))).indexLoaded k)
      if maskStream mask then
        s1.withStream k (fun s => go (s.onDev (fun d => d.setCslu k { d.cslu k with strDirty := true })))
      else go s1)

/-- The privilege of ERET: in user mode with CSH = 0 the illegal instruction comes first (R118, R119). -/
def eretPriv (cond : BitVec 4) (c : Core) : Option Trap :=
  if c.mode = 0 then (if c.cw.csh = 0 ∧ condHolds cond c.bank.fl then some Trap.illegal else some Trap.privilege) else none

/-- A return to the level at which the core's context executed WAIT or YIELD: the core waits on, while the context has not
been started again (R278, R283). (DEDUCED, log entry 81.) -/
def State.rewait (s : State) (k : Nat) : State :=
  let c := s.core k
  let cs := s.dev.cslu k
  match cs.ctx with
  | some x =>
    if cs.waitCsh = some c.cw.csh ∧ c.mode ≠ 3 ∧ c.secure = s.dev.ctxSecure x ∧ s.dev.ctxState x ≠ stRunning then
      s.modCore k (fun c => { c with run := .waiting })
    else s
  | none => s

/-- ERET (R118). -/
def execEret (h : Hd) (s : State) : Host.Outcome State Fault Refusal :=
  s.runIns h { Info.reg h.short tAll with priv := eretPriv h.cond, ev := true } (fun s =>
    match s.eret h.core with
    | .ok s1 => .ok (.jump (s1.core h.core).bank.pc) (s1.rewait h.core)
    | .error t => .trap t s)

/-- FRET (R110). -/
def execFret (h : Hd) (s : State) : Host.Outcome State Fault Refusal :=
  s.runIns h { Info.reg h.short tAll with ev := true } (fun s =>
    match (s.core h.core).fret with
    | some c => .ok (.jump c.bank.pc) ((s.setCore h.core c).rewait h.core)
    | none => .trap Trap.illegal s)

/-- JMPA: PC = A, bit 0 cleared. -/
def execJmpa (h : Hd) (s : State) : Host.Outcome State Fault Refusal :=
  s.runIns h (Info.reg h.short tA) (fun s => .ok (.jump (s.core h.core).bank.a) s)

/-- LOOPX (R106): the innermost level closes without regard to LC; with no level open it changes nothing. -/
def execLoopx (h : Hd) (s : State) : Host.Outcome State Fault Refusal :=
  regIns h h.short 0 (fun b => b.setLdepth (b.ldepth - 1)) s

/-- XSYNC (R172): every older long operation completes first; a failure is taken at the boundary after XSYNC. -/
def execXsync (h : Hd) (s : State) : Host.Outcome State Fault Refusal :=
  s.runIns h { Info.reg h.short 0 with free := true, ev := true } (fun s =>
    match s.drainAll h.core with
    | .clear s1 => .ok .seq s1
    | .wait s1 => .stop s1
    | .taken _ =>
      let b := (s.core h.core).bank
      let s1 := s.finishInsn h.core b.pc 2 .seq (bit b.ms 7)
      match s1.drainAll h.core with
      | .taken s2 | .wait s2 | .clear s2 => .stop s2)

/-- IFENCE (R179): older stores are visible in L1D, and every younger instruction is fetched afresh. -/
def execIfence (h : Hd) (s : State) : Host.Outcome State Fault Refusal :=
  s.runIns h { Info.reg h.short 0 with ev := true } (fun s => .ok .seq (s.performWhere h.core (fun _ => true)))

/-- The wait of a fence for block elements of older block instructions (R212, R220): the block instruction completes. -/
def fenceInfo (h : Hd) : Info := { Info.reg h.short 0 with ev := true }

/-- FENCE.L (R212). -/
def execFenceL (h : Hd) (s : State) : Host.Outcome State Fault Refusal :=
  s.runIns h (fenceInfo h) (fun s => .ok .seq (s.modCore h.core Core.fenceReads))

/-- FENCE.S (R212): every older write of the core is visible. -/
def execFenceS (h : Hd) (s : State) : Host.Outcome State Fault Refusal :=
  s.runIns h (fenceInfo h) (fun s => .ok .seq (s.drainStores h.core))

/-- FENCE.LS (R212, R213). -/
def execFenceLs (h : Hd) (s : State) : Host.Outcome State Fault Refusal :=
  s.runIns h (fenceInfo h) (fun s =>
    .ok .seq (((s.drainStores h.core).fenceSeen h.core).modCore h.core Core.fenceReads))

/-- FENCE.L.F (R222): as FENCE.L. -/
def execFenceLF (h : Hd) (s : State) : Host.Outcome State Fault Refusal :=
  s.runIns h (fenceInfo h) (fun s => .ok .seq (s.modCore h.core Core.fenceReads))

/-- FENCE.S.F (R222): as FENCE.S, and waits for the completions of the core's posted exchange-window writes. -/
def execFenceSF (h : Hd) (s : State) : Host.Outcome State Fault Refusal :=
  s.runIns h (fenceInfo h) (fun s =>
    if s.dev.postedOut h.core then .stop (s.drainStores h.core) else .ok .seq (s.drainStores h.core))

/-- FENCE.LS.F (R222). -/
def execFenceLsF (h : Hd) (s : State) : Host.Outcome State Fault Refusal :=
  s.runIns h (fenceInfo h) (fun s =>
    let s1 := ((s.drainStores h.core).fenceSeen h.core).modCore h.core Core.fenceReads
    if s.dev.postedOut h.core then .stop s1 else .ok .seq s1)

/-- CFC of the running context's world on its core (R283). -/
def State.cfcNow (s : State) (k : Nat) : Nat := cfcOf (s.core k) (s.core k).secure

/-- The running context stops at a WAIT or YIELD until it is switched out or started again. -/
def State.ctxWait (s : State) (k : Nat) : State :=
  (s.onDev (fun d => d.setCslu k { d.cslu k with waitCsh := some (s.core k).cw.csh })).modCore k
    (fun c => { c with run := .waiting })

/-- WAIT (R278, R283): the context consumes its oldest event, or becomes WAITING and is switched out; with a short chain it
waits in place. On a core that runs no sluice context, fetch stops. -/
def execWait (h : Hd) (s : State) : Host.Outcome State Fault Refusal :=
  s.runIns h { Info.reg h.short tAll with ev := true } (fun s =>
    let k := h.core
    match (s.dev.cslu k).ctx with
    | none =>
      let s1 := s.modCore k (fun c => { c with run := .idle })
      .ok .seq (if isSvc k then s1 else s1.onDev (fun d => d.setCslu k { d.cslu k with waited := true }))
    | some x =>
      match s.dev.consume x with
      | some (e, d) => .ok .seq { s with dev := d.start x k e }
      | none =>
        let d1 := if s.dev.ctxState x = stStopped then s.dev else s.dev.setCtxState x stWaiting
        let short := decide (s.cfcNow k < 4) && decide (s.dev.ctxState x ≠ stStopped)
        let d2 := if short then (d1.setCslu k { d1.cslu k with inPlace := true }).alarm (k / 8) 1 else d1
        .ok .seq (({ s with dev := d2 } : State).ctxWait k))

/-- YIELD (R279, R283): the running context goes to the tail of its ready queue and is switched out; no effect without a
context or with a short chain. -/
def execYield (h : Hd) (s : State) : Host.Outcome State Fault Refusal :=
  s.runIns h { Info.reg h.short tAll with ev := true } (fun s =>
    let k := h.core
    match (s.dev.cslu k).ctx with
    | none => .ok .seq s
    | some x =>
      if s.dev.ctxState x ≠ stRunning then .ok .seq s
      else if s.cfcNow k < 4 then .ok .seq (s.onDev (fun d => d.alarm (k / 8) 1))
      else .ok .seq ((s.onDev (fun d => d.makeReady x false)).ctxWait k))

/-- BRK: debug (vector 16), saved PC = this BRK. -/
def execBrk (h : Hd) (s : State) : Host.Outcome State Fault Refusal :=
  s.runIns h { Info.reg h.short tAll with ev := true } (fun s => .trap (Trap.plain 16) s)

end Sys2Proof.Machine
end

