-- ==== Sys2Proof/Machine/Branch.lean ====
section
/-! DEFINITION. Branches, calls (R140), hardware loops (R141, R106), the prefix (R150). -/

namespace Sys2Proof.Machine

/-- BR.S: PC + 2 * sext(off12). -/
def execBrS (h : Hd) (off : BitVec 12) (s : State) : Host.Outcome State Fault Refusal :=
  s.runIns h { Info.reg h.short 0 with free := true } (fun s =>
    .ok (.jump ((s.core h.core).bank.pc + 2 * sextW (word off.toNat) 12)) s)

/-- BR: PC + 2 * sext(off23). -/
def execBr (h : Hd) (off : BitVec 23) (s : State) : Host.Outcome State Fault Refusal :=
  s.runIns h { Info.reg (!h.short) 0 with free := true } (fun s =>
    .ok (.jump ((s.core h.core).bank.pc + 2 * sextW (word off.toNat) 23)) s)

/-- The frame of a call (R123, R124): the groups in descending bit order, the mask, the return offset. -/
def State.pushFrame (s : State) (k mask : Nat) : M Word :=
  let c := s.core k
  let ws := (c.bank.pc + 4) :: word mask :: maskRegs mask c.bank c.q
  let sp := c.bank.sp - word (8 * ws.length)
  (s.pushWords k sp ws).bind fun _ s1 => .ok sp s1

/-- The operands of a call's frame: its doublewords as they are pushed, downwards. -/
def State.frameOps (s : State) (k mask : Nat) : List Opd :=
  (List.range (2 + maskLen mask)).map (fun i => ⟨2, (s.core k).bank.sp - word (8 * (i + 1)), 8, .write⟩)

/-- CALL: the frame, then PC + 2 * sext(off16). -/
def execCall (h : Hd) (mask : BitVec 7) (off : BitVec 16) (s : State) : Host.Outcome State Fault Refusal :=
  s.runIns h { Info.reg (!h.short && !(isSvc h.core && maskStream mask.toNat)) tAll with ev := true } (fun s =>
    let k := h.core
    let pc := (s.core k).bank.pc
    let go (s : State) : M Out :=
      match (s.core k).checkOps (s.frameOps k mask.toNat) with
      | some t => .trap t s
      | none =>
      (s.pushFrame k mask.toNat).bind fun sp s1 =>
      .ok (.jump (pc + 2 * sextW (word off.toNat) 16)) (s1.modBank k (fun b => { b with sp := sp }))
    if maskStream mask.toNat then s.withStream k go else go s)

/-- CALL.I: the target is read before anything is pushed; modes 0 to 3 with 8 * sext(d8), none in mode 3. Its
operands are checked in the order of R119, and the target's word takes no entry of the operand buffer (R156). -/
def execCallI (h : Hd) (mask : BitVec 8) (d : BitVec 8) (mode : BitVec 4) (s : State) : Host.Outcome State Fault Refusal :=
  s.runIns h { Info.reg (!h.short && decide (mode.toNat ≤ 3) && (decide (mode ≠ 3#4) || decide (d = 0#8)) &&
      decide (mask.toNat < 128) && !(isSvc h.core && maskStream mask.toNat)) tAll with ev := true } (fun s =>
    let k := h.core
    let e := (s.core k).bank.ea mode.toNat (8 * sextW (word d.toNat) 8) 0 false 0 8
    let go (s : State) : M Out :=
      match (s.core k).checkOps (⟨e.seg, e.off, 8, .read⟩ :: s.frameOps k mask.toNat) with
      | some t => .trap t s
      | none =>
      (s.load k e.seg e.off 8 false).bind fun t s1 =>
      (s1.pushFrame k mask.toNat).bind fun sp s2 =>
      .ok (.jump (word t)) (s2.modBank k (fun b => { b with sp := sp }))
    if maskStream mask.toNat then s.withStream k go else go s)

/-- Opening a loop (R106, R141): a count of zero passes to the instruction after the one at LE, whose length a fetch learns
(`endShort`), with a fault of that fetch taken at LE; a fifth level is a loop nest exception. -/
def State.openLoop (s : State) (k : Nat) (dist : Nat) (count : Word) (endShort : Bool) : M Out :=
  let b := (s.core k).bank
  let le := b.pc + word (2 * dist)
  if count = 0 then
    match s.fetch k le (if endShort then 2 else 4) with
    | .ok _ s1 => .ok (.jump (le + (if endShort then 2 else 4))) s1
    | .trap t s1 => .stop (s1.insnTrap k t le le)
    | .wait s1 => .wait s1
    | .stop s1 => .stop s1
    | .drain => .drain
  else if 4 ≤ b.ldepth then .trap (Trap.plain 12) s
  else
    .ok .seq (s.modBank k (fun b =>
      let l := b.ldepth
      ({ b with ls := b.ls.set l (b.pc + 4), le := b.le.set l le, lc := b.lc.set l count } : Bank).setLdepth (l + 1)))

/-- LOOP: the count comes from A, X or Y. -/
def execLoop (h : Hd) (sub : BitVec 4) (imm : BitVec 16) (endShort : Bool) (s : State) : Host.Outcome State Fault Refusal :=
  let touch := if sub = 0#4 then tA else if sub = 1#4 then tX else tY
  s.runIns h { Info.reg (!h.short && decide (sub.toNat ≤ 2) && decide (2 ≤ imm.toNat)) touch with ev := true } (fun s =>
    let b := (s.core h.core).bank
    s.openLoop h.core imm.toNat (if sub = 0#4 then b.a else if sub = 1#4 then b.x else b.y) endShort)

/-- LOOPI: imm16 bits 15:8 the count, bits 7:0 the distance. -/
def execLoopi (h : Hd) (imm : BitVec 16) (endShort : Bool) (s : State) : Host.Outcome State Fault Refusal :=
  s.runIns h { Info.reg (!h.short && decide (2 ≤ imm.toNat % 256)) 0 with ev := true } (fun s =>
    s.openLoop h.core (imm.toNat % 256) (word (imm.toNat / 256)) endShort)

/-- PFX: the prefix is held for the next instruction; its condition must be AL (R130, R131). The pair is one instruction for
single step and the loops, so PFX itself closes nothing. -/
def execPfx (h : Hd) (imm : BitVec 22) (s : State) : Host.Outcome State Fault Refusal :=
  s.runIns h { Info.reg (!h.short && decide (h.cond = 0#4)) 0 with ev := false } (fun s =>
    .stop (s.modCore h.core (fun c => { (c.modBank (fun b => { b with pc := b.pc + 4 })) with pfx := some imm.toNat })))

end Sys2Proof.Machine
end

