-- ==== Sys2Proof/Machine/Stream.lean ====
section
/-! DEFINITION. The stream unit (R142, R143, R160 to R162), atomics (R144, R214) and the block instructions (R145, R146,
R173). -/

namespace Sys2Proof.Machine

/-- A service core has no stream unit (R122, R128). -/
def streamInfo (h : Hd) (legal : Bool) (touch : Nat) (long : Bool) : Info :=
  { Info.reg (!h.short && legal && !(isSvc h.core)) touch with long := long, ev := true }

/-- The elements of a chain, X before Y (R142). -/
def macOpds (sx sy : Nat) : Nat → Word → Word → List Opd
  | 0, _, _ => []
  | n + 1, x, y => ⟨sx, x, 8, .read⟩ :: ⟨sy, y, 8, .read⟩ :: macOpds sx sy n (x + 8) (y + 8)

/-- The linear address of an operand. -/
def Core.opdLin (c : Core) (o : Opd) : Nat := ((c.seg o.seg).base + o.off).toNat

/-- The exception of a chain in the order of R119 and R142: the segment checks and the translations of every element, then their
alignment to 8 bytes. -/
def Core.macCheck (c : Core) (l : List Opd) : Option Trap :=
  match (c.checkOps l).filter (fun t => decide (t.vec ≠ 11)) with
  | some t => some t
  | none => (l.find? (fun o => decide (c.opdLin o % 8 ≠ 0))).map (fun o => accTrap 11 3 (word (c.opdLin o)) o.seg 8 .read 0)

/-- The pieces of checked elements. -/
def Core.macPieces (c : Core) (l : List Opd) : List (List Piece) :=
  l.map (fun o => match c.pieces o.seg o.n o.kind false (c.opdLin o) with
    | .ok ps => ps
    | .error _ => [])

/-- The element reads of a chain, the values in order. (DEDUCED, log entry 56.) -/
def State.macReads (s : State) (k : Nat) : List (List Piece) → M (List Nat)
  | [] => .ok [] s
  | p :: r =>
    (s.loadPieces k false p).bind fun b s1 =>
    (State.macReads s1 k r).bind fun l s2 => .ok (ofBytesLE b :: l) s2

/-- The elements of a chain in pairs, X with Y. -/
def pairs : List Nat → List (Nat × Nat)
  | x :: y :: l => (x, y) :: pairs l
  | _ => []

/-- The multiply-adds of a chain: the lanes after it and the conditions detected. -/
def macLanes (rm : Nat) (teuf : Bool) : List (Nat × Nat) → Nat → List Word → Nat → List Word × Nat
  | [], _, q, x => (q, x)
  | (a, b) :: l, nx, q, x =>
    let r := fpFma f64 rm teuf (unpack f64 a) (unpack f64 b) (unpack f64 (q.getD (nx % 8) 0).toNat)
    macLanes rm teuf l (nx + 1) (q.set (nx % 8) (word r.1)) (x ||| r.2)

/-- MAC.V: all checks are precise; the chain is handed off (R142, R143, R160). A refused or poisoned element read is a
failure of the chain. -/
def execMacV (h : Hd) (o : MacOp) (s : State) : Host.Outcome State Fault Refusal :=
  let legal := decide (1 ≤ o.n.toNat) && decide (o.n.toNat ≤ 64) && !o.bit7 && (o.xov || decide (o.xseg = 0#3)) &&
    (o.yov || decide (o.yseg = 0#3))
  s.runIns h (streamInfo h legal (tQ + tX + tY) true) (fun s =>
    let k := h.core
    s.withStream k (fun s =>
      let c := s.core k
      let b := c.bank
      let n := o.n.toNat
      let l := macOpds (if o.xov then o.xseg.toNat else 1) (if o.yov then o.yseg.toNat else 1) n b.x b.y
      match c.macCheck l with
      | some t => .trap t s
      | none =>
        let s := l.foldl (fun s x => (s.tlbUse k false (c.opdLin x) 8).watched k (c.opdLin x) 8 .read) s
        let op := LongOp.new 4 (tQ + tX + tY) b.pc
        let nx := fld c.sstat 2 0
        match s.macReads k (c.macPieces l) with
        | .ok els s1 =>
          let r := macLanes (flRm b.fl) (flTeuf b.fl) (pairs els) nx c.q 0
          let t := fpTrap b.fl r.2
          let o1 := { op with sticky := stickyBits r.2 }
          (s1.onDev (fun d => d.setCslu k { d.cslu k with strDirty := true })).handOff k
            (if t ≠ 0 then { o1 with fail := some (LopFail.arith t) }
             else { o1 with q := some r.1, sstat := some (word ((nx + n) % 8)), x := some (b.x + word (8 * n))
                            y := some (b.y + word (8 * n)) })
        | .trap t s1 => s1.handOff k { op with fail := some t.toFail }
        | .wait s1 => .wait s1
        | .stop s1 => .stop s1
        | .drain => .drain))

/-- The fixed pairwise sum of the lanes (R142): the result and the conditions. -/
def redSum (rm : Nat) (teuf : Bool) (q : List Word) : Nat × Nat :=
  let g (i : Nat) : Nat := (q.getD i 0).toNat
  let ad (x y : Nat × Nat) : Nat × Nat :=
    let r := fpAdd f64 rm teuf (unpack f64 x.1) (unpack f64 y.1)
    (r.1, r.2 ||| x.2 ||| y.2)
  ad (ad (ad (g 0, 0) (g 1, 0)) (ad (g 2, 0) (g 3, 0))) (ad (ad (g 4, 0) (g 5, 0)) (ad (g 6, 0) (g 7, 0)))

/-- RED and RED.C. -/
def redBody (clear : Bool) (k : Nat) (s : State) : M Out :=
  s.withStream k (fun s =>
    let c := s.core k
    let b := c.bank
    let r := redSum (flRm b.fl) (flTeuf b.fl) c.q
    let t := fpTrap b.fl r.2
    let o := { LongOp.new 5 (tA + (if clear then tQ else 0)) b.pc with sticky := stickyBits r.2 }
    let s1 := if clear then s.onDev (fun d => d.setCslu k { d.cslu k with strDirty := true }) else s
    s1.handOff k (if t ≠ 0 then { o with fail := some (LopFail.arith t) }
      else if clear then { o with a := some (word r.1), q := some (List.replicate 8 0), sstat := some 0 }
      else { o with a := some (word r.1) }))

/-- RED: reads the lanes, writes A. -/
def execRed (h : Hd) (imm : BitVec 16) (s : State) : Host.Outcome State Fault Refusal :=
  s.runIns h (streamInfo h (decide (imm = 0#16)) (tA + tQ) true) (redBody false h.core)

/-- RED.C: as RED, then the lanes are +0.0 and next is 0. -/
def execRedC (h : Hd) (imm : BitVec 16) (s : State) : Host.Outcome State Fault Refusal :=
  s.runIns h (streamInfo h (decide (imm = 0#16)) (tA + tQ) true) (redBody true h.core)

/-- QCLR: the lanes are +0.0 and next is 0. -/
def execQclr (h : Hd) (imm : BitVec 16) (s : State) : Host.Outcome State Fault Refusal :=
  s.runIns h (streamInfo h (decide (imm = 0#16)) tQ false) (fun s =>
    s.withStream h.core (fun s =>
      .ok .seq ((s.modCore h.core (fun c => { c with q := List.replicate 8 0, sstat := 0 })).onDev (fun d =>
        d.setCslu h.core { d.cslu h.core with strDirty := true }))))

/-- A core keeps the line of an atomic (R254): the interval begins anew, unless a snoop of the line waits. -/
def Core.keepLine (c : Core) (line : Nat) : Core :=
  if c.hold.contains (line, true) then c else { c with hold := c.hold.filter (fun h => decide (h.1 ≠ line)) ++ [(line, false)] }

/-- An atomic (R144, R214, R253, R254): the line is taken in M with one GetOwn or Promote, the old bytes are read and the new ones
written in one step, and the line is kept for its hold interval. Acquire drops the reads that came early; release makes older writes visible with the
cumulative condition. `f` gives the written value (none: nothing is written) and the bank after. (DEDUCED, log entry 59.) -/
def State.atomic (s : State) (h : Hd) (o : AtomOp) (f : Bank → Nat → Nat → Option Nat × Bank) : M Out :=
  let k := h.core
  let n := szBytes o.size
  let e := (s.core k).bank.ea o.mode.toNat (sextW (word o.d5.toNat) 5) 0 o.ov o.seg.toNat n
  match s.operand k e.seg e.off n .rmw (some 1) true with
  | .error t => .trap t s
  | .ok (lin, ps, s0) =>
    let pa := (ps.headD ⟨0, 0, 0⟩).pa
    let rq := s.dev.coreReq k (s.core k).secure
    match s0.gate rq pa n true with
    | (some .wait, s1) => .wait s1
    | (some a, s1) => .trap (ansTrap a pa) s1
    | (none, s1) =>
      let s2 := if o.ord.toNat / 2 = 1 then ((s1.drainStores k).fenceSeen k) else s1.settleOwn k pa n
      let s3 := s2.ownLine k (pa / 64)
      if s3.mem.poisonedFor k (pa / 64) then .trap (ansTrap (.bad 6) pa) s3
      else
        let s4 := (s3.endLag pa n).fillWrite k (pa / 64)
        let old := ofBytesLE (s4.mem.bytes pa n)
        let r := f (s4.core k).bank old n
        let s5 := match r.1 with
          | some v => s4.onMem (fun m => m.put pa (bytesLE n v))
          | none => s4
        let s6 := s5.modCore k (fun c =>
          let c1 := c.setBank { r.2 with x := e.upX.getD r.2.x, y := e.upY.getD r.2.y, a := zextM old }
          if o.ord.toNat % 2 = 1 then { c1.keepLine (pa / 64) with early := [] } else (c1.keepLine (pa / 64)).dropEarly pa n)
        .ok .seq (s6.watched k lin n .rmw)

/-- What the wrapper knows of an atomic (R144): modes 0 to 7, sizes .W and .D, d5 zero in modes 3 to 7. -/
def atomInfo (h : Hd) (o : AtomOp) (touch : Nat) : Info :=
  { Info.reg (!h.short && decide (o.mode.toNat ≤ 7) && decide (2 ≤ o.size.toNat) && (o.ov || decide (o.seg = 0#3)) &&
      (decide (o.mode.toNat ≤ 2) || decide (o.d5 = 0#5))) (touch ||| tA ||| modeTouch o.mode.toNat) with ev := true }

/-- The low bits of a register. -/
def lowBytes (w : Word) (n : Nat) : Nat := w.toNat % 2 ^ (8 * n)

/-- SWAP: writes A. -/
def execSwap (h : Hd) (o : AtomOp) (s : State) : Host.Outcome State Fault Refusal :=
  s.runIns h (atomInfo h o 0) (fun s => s.atomic h o (fun b _ n => (some (lowBytes b.a n), b)))

/-- CAS: writes X when the old value equals A, and T tells. -/
def execCas (h : Hd) (o : AtomOp) (s : State) : Host.Outcome State Fault Refusal :=
  s.runIns h (atomInfo h o (tX + tCT)) (fun s => s.atomic h o (fun b old n =>
    if old = lowBytes b.a n then (some (lowBytes b.x n), { b with fl := setT b.fl true })
    else (none, { b with fl := setT b.fl false })))

/-- LDADD: adds A. -/
def execLdadd (h : Hd) (o : AtomOp) (s : State) : Host.Outcome State Fault Refusal :=
  s.runIns h (atomInfo h o 0) (fun s => s.atomic h o (fun b old n => (some ((old + lowBytes b.a n) % 2 ^ (8 * n)), b)))

/-- LDAND: ANDs A. -/
def execLdand (h : Hd) (o : AtomOp) (s : State) : Host.Outcome State Fault Refusal :=
  s.runIns h (atomInfo h o 0) (fun s => s.atomic h o (fun b old n => (some (Nat.land old (lowBytes b.a n)), b)))

/-- LDOR: ORs A. -/
def execLdor (h : Hd) (o : AtomOp) (s : State) : Host.Outcome State Fault Refusal :=
  s.runIns h (atomInfo h o 0) (fun s => s.atomic h o (fun b old n => (some (Nat.lor old (lowBytes b.a n)), b)))

/-- A block instruction is handed to the cluster's block mover (R145, R163); its elements follow as commands, or all at once
when something needs it complete. -/
def blockIns (op : Nat) (h : Hd) (o : BlockOp) (s : State) : Host.Outcome State Fault Refusal :=
  let legal := !h.short && !o.bit19 && (o.dov || decide (o.dseg = 0#3)) && (o.sov || decide (o.sseg = 0#3))
  s.runIns h { Info.reg legal (tA + tX + tY + tZN + tV + tCT) with long := true, ev := true } (fun s =>
    s.handOff h.core { LongOp.new 6 (tA + tX + tY + tZN + tV + tCT) (s.core h.core).bank.pc with block := some (op, o) })

/-- MOVB. -/
def execMovb (h : Hd) (o : BlockOp) (s : State) : Host.Outcome State Fault Refusal := blockIns 0 h o s
/-- FILLB. -/
def execFillb (h : Hd) (o : BlockOp) (s : State) : Host.Outcome State Fault Refusal := blockIns 1 h o s
/-- CMPB. -/
def execCmpb (h : Hd) (o : BlockOp) (s : State) : Host.Outcome State Fault Refusal := blockIns 2 h o s
/-- SCANB. -/
def execScanb (h : Hd) (o : BlockOp) (s : State) : Host.Outcome State Fault Refusal := blockIns 3 h o s

end Sys2Proof.Machine
end

