-- ==== Sys2Proof/Machine/KReg.lean ====
section
/-! DEFINITION. The register functions of K major 0 (R147) and the system registers (R112, R113). -/

namespace Sys2Proof.Machine

/-- A K function: 32 bits, its unused field zero. -/
def kLegal (h : Hd) (z : BitVec 12) : Bool := !h.short && decide (z = 0#12)

/-- FSQRT: hands off the square root of A. -/
def sqrtBody (f : Fmt) (k : Nat) (s : State) : M Out :=
  let b := (s.core k).bank
  s.handOff k (fpLong 3 b.pc b.fl (fpSqrt f (flRm b.fl) (flTeuf b.fl) (fpArg f b.a)))

/-- FSQRT.D, in its K form and its 16-bit form of group G. -/
def execFsqrtD (h : Hd) (z : BitVec 12) (s : State) : Host.Outcome State Fault Refusal :=
  s.runIns h { Info.reg (decide (z = 0#12)) tA with long := true, ev := true } (sqrtBody f64 h.core)
/-- FSQRT.S. -/
def execFsqrtS (h : Hd) (z : BitVec 12) (s : State) : Host.Outcome State Fault Refusal :=
  s.runIns h { Info.reg (kLegal h z) tA with long := true, ev := true } (sqrtBody f32 h.core)

/-- FNEG.D, in both its forms: inverts bit 63. -/
def execFnegD (h : Hd) (z : BitVec 12) (s : State) : Host.Outcome State Fault Refusal :=
  regIns h (decide (z = 0#12)) tA (fun b => { b with a := b.a ^^^ 0x8000000000000000#64 }) s
/-- FABS.D, in both its forms: clears bit 63. -/
def execFabsD (h : Hd) (z : BitVec 12) (s : State) : Host.Outcome State Fault Refusal :=
  regIns h (decide (z = 0#12)) tA (fun b => { b with a := b.a &&& 0x7FFFFFFFFFFFFFFF#64 }) s
/-- FNEG.S: inverts bit 31; a binary32 result has bits 63:32 zero (R88). -/
def execFnegS (h : Hd) (z : BitVec 12) (s : State) : Host.Outcome State Fault Refusal :=
  regIns h (kLegal h z) tA (fun b => { b with a := (b.a ^^^ 0x80000000#64) &&& 0xFFFFFFFF#64 }) s
/-- FABS.S: clears bit 31. -/
def execFabsS (h : Hd) (z : BitVec 12) (s : State) : Host.Outcome State Fault Refusal :=
  regIns h (kLegal h z) tA (fun b => { b with a := b.a &&& 0x7FFFFFFF#64 }) s

/-- A conversion: its result and conditions. -/
def convIns (h : Hd) (z : BitVec 12) (f : Bank → Word × Nat) (s : State) : Host.Outcome State Fault Refusal :=
  s.runIns h { Info.reg (kLegal h z) tA with ev := false } (fun s =>
    let r := f (s.core h.core).bank
    fpFinish s h.core r.2 (fun b => { b with a := r.1 }))

/-- FCVT.D.S: binary32 to binary64, exact; a quiet NaN becomes the default one (R134). -/
def execFcvtDS (h : Hd) (z : BitVec 12) (s : State) : Host.Outcome State Fault Refusal :=
  convIns h z (fun b => let r := fpConv f64 (flRm b.fl) false (fpArg f32 b.a); (word r.1, r.2)) s
/-- FCVT.S.D: binary64 to binary32, rounded. -/
def execFcvtSD (h : Hd) (z : BitVec 12) (s : State) : Host.Outcome State Fault Refusal :=
  convIns h z (fun b => let r := fpConv f32 (flRm b.fl) (flTeuf b.fl) (fpArg f64 b.a); (word r.1, r.2)) s
/-- FCVT.D.L: signed integer to binary64. -/
def execFcvtDL (h : Hd) (z : BitVec 12) (s : State) : Host.Outcome State Fault Refusal :=
  convIns h z (fun b => let r := fpOfInt f64 (flRm b.fl) b.a.toInt; (word r.1, r.2)) s
/-- FCVT.S.L: signed integer to binary32. -/
def execFcvtSL (h : Hd) (z : BitVec 12) (s : State) : Host.Outcome State Fault Refusal :=
  convIns h z (fun b => let r := fpOfInt f32 (flRm b.fl) b.a.toInt; (word r.1, r.2)) s
/-- FCVT.L.D: binary64 to signed integer by FL.RM. -/
def execFcvtLD (h : Hd) (z : BitVec 12) (s : State) : Host.Outcome State Fault Refusal :=
  convIns h z (fun b => fpToInt (flRm b.fl) (fpArg f64 b.a)) s
/-- FCVT.L.S: binary32 to signed integer by FL.RM. -/
def execFcvtLS (h : Hd) (z : BitVec 12) (s : State) : Host.Outcome State Fault Refusal :=
  convIns h z (fun b => fpToInt (flRm b.fl) (fpArg f32 b.a)) s
/-- FCVTZ.L.D: toward zero. -/
def execFcvtzLD (h : Hd) (z : BitVec 12) (s : State) : Host.Outcome State Fault Refusal :=
  convIns h z (fun b => fpToInt 1 (fpArg f64 b.a)) s

/-- Bits of a word from the top, true first bit found at index. -/
def clzW (w : Word) : Nat := 64 - bitLen w.toNat
/-- Trailing zero bits. -/
def ctzW (w : Word) : Nat := ((List.range 64).find? (fun i => bit w i)).getD 64
/-- Set bits. -/
def popW (w : Word) : Nat := ((List.range 64).filter (fun i => bit w i)).length

/-- A with Z only. -/
def Bank.setAZ (b : Bank) (n : Nat) : Bank := { b with a := word n, fl := setBit b.fl flZ (decide (n = 0)) }

/-- CLZ. -/
def execClz (h : Hd) (z : BitVec 12) (s : State) : Host.Outcome State Fault Refusal :=
  regIns h (kLegal h z) (tA + tZN) (fun b => b.setAZ (clzW b.a)) s
/-- CTZ. -/
def execCtz (h : Hd) (z : BitVec 12) (s : State) : Host.Outcome State Fault Refusal :=
  regIns h (kLegal h z) (tA + tZN) (fun b => b.setAZ (ctzW b.a)) s
/-- POPC. -/
def execPopc (h : Hd) (z : BitVec 12) (s : State) : Host.Outcome State Fault Refusal :=
  regIns h (kLegal h z) (tA + tZN) (fun b => b.setAZ (popW b.a)) s
/-- BSWAP: reverse the 8 bytes of A. -/
def execBswap (h : Hd) (z : BitVec 12) (s : State) : Host.Outcome State Fault Refusal :=
  regIns h (kLegal h z) tA (fun b => { b with a := word (ofBytesBE (bytesLE 8 b.a.toNat)) }) s
/-- CLT: T = 0. -/
def execClt (h : Hd) (z : BitVec 12) (s : State) : Host.Outcome State Fault Refusal :=
  regIns h (kLegal h z) tCT (fun b => { b with fl := setT b.fl false }) s
/-- SETT: T = 1. -/
def execSett (h : Hd) (z : BitVec 12) (s : State) : Host.Outcome State Fault Refusal :=
  regIns h (kLegal h z) tCT (fun b => { b with fl := setT b.fl true }) s
/-- CLC: C = 0. -/
def execClc (h : Hd) (z : BitVec 12) (s : State) : Host.Outcome State Fault Refusal :=
  regIns h (kLegal h z) tCT (fun b => { b with fl := setBit b.fl flC false }) s
/-- SETC: C = 1. -/
def execSetc (h : Hd) (z : BitVec 12) (s : State) : Host.Outcome State Fault Refusal :=
  regIns h (kLegal h z) tCT (fun b => { b with fl := setBit b.fl flC true }) s
/-- FLCLR: the sticky flags are cleared. -/
def execFlclr (h : Hd) (z : BitVec 12) (s : State) : Host.Outcome State Fault Refusal :=
  regIns h (kLegal h z) tFL (fun b => { b with fl := setFld b.fl 12 8 0 }) s

/-- The privilege check of MFC and MTC (R93, R95, R112). -/
def sysPriv (n : Nat) (wr svc inB1 : Bool) (c : Core) : Option Trap :=
  match sysReg n svc inB1 with
  | some (need, rdAny, _) =>
    if !wr && rdAny then none else if c.mode < need then some Trap.privilege else none
  | none => none

/-- Whether a register belongs to the stream group or the segment group of the upper half (R285). -/
def isStreamReg (n : Nat) : Bool := decide (0x70 ≤ n) && decide (n ≤ 0x78)
def isSegReg (n : Nat) : Bool := n = 0x22 || (decide (0x40 ≤ n) && decide (n < 0x58))

/-- What MFC touches: A, and the stream state. MFC of LOPSTAT waits for no outstanding operation (R170): A is then its own, the younger
write, and no older operation writes it any more; beside a block instruction, which counts in A, it waits under R166. -/
def mfcTouch (n : Nat) : Nat := if n = 0x18 then 0 else tA + (if isStreamReg n then tQ else 0)

/-- A younger write of A that did not wait stands: the outstanding operations write it no more. -/
def Core.ownA (c : Core) : Core := { c with lops := c.lops.map (fun o => { o with a := none, own := if o.own % 2 = 1 then o.own - 1 else o.own }) }

/-- MFC: A = the system register. (DEDUCED, log entry 45.) -/
def execMfc (h : Hd) (imm : BitVec 16) (s : State) : Host.Outcome State Fault Refusal :=
  let n := imm.toNat
  let c := s.core h.core
  s.runIns h { Info.reg (!h.short && (sysReg n (isSvc h.core) c.inB1).isSome)
      (mfcTouch n) with priv := sysPriv n false (isSvc h.core) c.inB1 } (fun s =>
    let go (s : State) : M Out :=
      let s1 := s.modBank h.core (fun b => { b with a := s.readSys h.core n })
      .ok .seq (if n = 0x18 then s1.modCore h.core Core.ownA else s1)
    if isStreamReg n then s.withStream h.core go else go s)

/-- MTC: the system register = A; a read-only register raises illegal instruction (R113). A loop register takes its value for the next
instruction (R107). -/
def execMtc (h : Hd) (imm : BitVec 16) (s : State) : Host.Outcome State Fault Refusal :=
  let n := imm.toNat
  let c := s.core h.core
  let ok := match sysReg n (isSvc h.core) c.inB1 with
    | some (_, _, w) => w
    | none => false
  s.runIns h { Info.reg (!h.short && ok) (tA + (if isStreamReg n then tQ else if n = 0x18 then tAll else 0)) with
      priv := sysPriv n true (isSvc h.core) c.inB1, ev := true } (fun s =>
    let k := h.core
    let go (s : State) : M Out :=
      let s1 := s.modCore k (fun c => c.writeSys (isSvc k) n c.bank.a)
      if 0x60 ≤ n ∧ n < 0x6C then .ok (.loop ((n - 0x60) / 4) ((n - 0x60) % 4) (s.core k).bank.a) s
      else .ok .seq (if isStreamReg n then s1.onDev (fun d => d.setCslu k { d.cslu k with strDirty := true })
        else if isSegReg n then s1.onDev (fun d => d.setCslu k { d.cslu k with segDirty := true })
        else s1)
    if isStreamReg n then s.withStream k go else go s)

end Sys2Proof.Machine
end

