-- ==== Sys2Proof/Machine/KSys.lean ====
section
/-! DEFINITION. K major 2 and the sluice instructions: table walks and the TLBs (R148, R192 to R203), saves and restores
(R259, R260), cache functions (R256), SWAKE, SPRIO and SDEAD (R149, R286). -/

namespace Sys2Proof.Machine

/-- A supervisor function of K major 2. -/
def sysInfo (h : Hd) (z : BitVec 12) : Info := { Info.reg (kLegal h z) tAll with priv := supOnly, ev := true }

/-- The exception of a faulting WLK: EADDR is 0, the address is in WLKADDR (R114, R205). -/
def walkTrap (vec detail : Nat) : Trap := { Trap.plain vec with detail := detail, size := 3 }

/-- WLK (R148): one coherent 8-byte read of physical memory with the core's pond and world. -/
def execWlk (h : Hd) (z : BitVec 12) (s : State) : Host.Outcome State Fault Refusal :=
  s.runIns h (sysInfo h z) (fun s =>
    let k := h.core
    let c := s.core k
    let pa := c.bank.x.toNat / 8 * 8
    let bad (s : State) (vec detail : Nat) : M Out :=
      .trap (walkTrap vec detail) (s.modCore k (fun c => c.modCw (fun w => { w with wlkaddr := word pa })))
    if 0x3FFFFFFFFFF < pa then bad s 10 0
    else
      match (s.settleOwn k pa 8).pread k (s.dev.coreQos k) (s.dev.coreReq k c.secure) 0 pa 8 with
      | (.ok bs, s1) => .ok .seq (s1.modBank k (fun b => { b with a := word (ofBytesLE bs) }))
      | (.wait, s1) => .wait s1
      | (.lost, s1) => .trap (ansTrap .lost pa) s1
      | (.bad 6, s1) => bad s1 9 2
      | (.bad _, s1) => bad s1 9 1)

/-- The entry TLBWR installs (R188, R192, R193, R195). -/
def leafEntry (c : Core) (a x y : Word) : TlbEntry :=
  let sz := fld y 1 0
  let bits := if sz = 0 then (if bit a 52 then 16 else 12) else 12 + 9 * sz
  { secure := c.secure, global := bit a 6, asid := fld c.cw.asid 15 0
    lin := x.toNat / 2 ^ bits * 2 ^ bits, bits := bits, pa := fld a 51 12 * 4096 / 2 ^ bits * 2 ^ bits, attr := fld a 11 9
    r := bit a 2, w := bit a 3, x := bit a 4, u := bit a 5, size := sz, tgt := fld y 3 2 }

/-- Whether two entries' ranges overlap. -/
def TlbEntry.overlaps (e f : TlbEntry) : Bool := decide (e.lin < f.lin + 2 ^ f.bits) && decide (f.lin < e.lin + 2 ^ e.bits)

/-- The entries of the current world that an installation drops (R193). -/
def TlbEntry.yields (e new : TlbEntry) : Bool :=
  (e.secure == new.secure) && e.overlaps new && (new.global || e.global || decide (e.asid = new.asid))

/-- The capacity of the larger TLB (R183). -/
def tlbSize (k : Nat) : Nat := if isSvc k then 256 else 2048

/-- Install an entry: overlapping ones are dropped from every TLB, then replacement removes those of `victims` (by age, newest 0), never
one of the eight newest (R186), and the oldest beyond the capacity; TGT bit 0 loads the L1 data TLB too, bit 1 the L1 instruction TLB
(R192, R193). -/
def Core.tlbInstall (c : Core) (k : Nat) (e : TlbEntry) (victims : List Nat) : Core :=
  let c1 := c.keepTlb (fun f => !(f.yields e))
  let l := e :: c1.tlb
  let kept := (((l.zip (List.range l.length)).filter (fun p => decide (p.2 < 8) || !(victims.contains p.2))).map (·.1)).take (tlbSize k)
  { c1 with tlb := kept, dropped := false
            dtlb := if e.tgt.testBit 0 then l1Put k (kept.take 8) c1.dtlb e else c1.dtlb
            itlb := if e.tgt.testBit 1 then l1Put k (kept.take 8) c1.itlb e else c1.itlb }

/-- TLBWR (R192 to R196): with the walk guard set it installs nothing and clears the guard. (DEDUCED, log entry 50.) -/
def execTlbwr (h : Hd) (z : BitVec 12) (victims : List Nat) (s : State) : Host.Outcome State Fault Refusal :=
  s.runIns h (sysInfo h z) (fun s =>
    .ok .seq (s.modCore h.core (fun c =>
      let b := c.bank
      if c.guard then { c with guard := false, dropped := true }
      else if !(bit b.a 0) || bit b.a 1 then { c with dropped := false }
      else c.tlbInstall h.core (leafEntry c b.a b.x b.y) victims)))

/-- Whether an invalidation drops an entry (R199): form 0 by linear address, 1 by ASID, 2 the whole world. -/
def TlbReq.hits (r : TlbReq) (e : TlbEntry) : Bool :=
  (e.secure == r.secure) &&
  (match r.form with
   | 0 => decide (e.lin ≤ r.lin) && decide (r.lin < e.lin + 2 ^ e.bits) && (e.global || decide (e.asid = r.asid))
   | 1 => !e.global && decide (e.asid = r.asid)
   | _ => true)

/-- Drop the entries an invalidation names. -/
def Core.tlbDrop (c : Core) (r : TlbReq) : Core := c.keepTlb (fun e => !(r.hits e))

/-- The invalidation that an instruction asks for: its form, X, the current ASID or A bits 15:0, and the current world. -/
def Core.tlbReq (c : Core) (k form : Nat) : TlbReq :=
  { issuer := k, id := c.tlbId + 1, form := form, lin := c.bank.x.toNat, secure := c.secure
    asid := if form = 1 then fld c.bank.a 15 0 else fld c.cw.asid 15 0 }

/-- A local invalidation (R199). -/
def tlbinvLocal (form : Nat) (h : Hd) (z : BitVec 12) (s : State) : Host.Outcome State Fault Refusal :=
  s.runIns h (sysInfo h z) (fun s =>
    .ok .seq (s.modCore h.core (fun c => c.tlbDrop (c.tlbReq h.core form))))

/-- TLBINV VA. -/
def execTlbinvVa (h : Hd) (z : BitVec 12) (s : State) : Host.Outcome State Fault Refusal := tlbinvLocal 0 h z s
/-- TLBINV AS. -/
def execTlbinvAs (h : Hd) (z : BitVec 12) (s : State) : Host.Outcome State Fault Refusal := tlbinvLocal 1 h z s
/-- TLBINV W. -/
def execTlbinvW (h : Hd) (z : BitVec 12) (s : State) : Host.Outcome State Fault Refusal := tlbinvLocal 2 h z s

/-- The other cores that must acknowledge a broadcast (R200, R202): those of the pond's clusters whose TLBs are not empty for
being off, in retention, in reset, retired or under test. -/
def State.tlbTargets (s : State) (k : Nat) : List Nat :=
  match clusterOwner s.dev.felt.cfg (k / 8) with
  | none => []
  | some p => (List.range 256).filter (fun j =>
      decide (j ≠ k) && decide (clusterOwner s.dev.felt.cfg (j / 8) = some p) && s.dev.part.order.core j &&
      (decide (s.dev.domState (clusterDom (j / 8)) ≤ 1) || decide (s.dev.domState (clusterDom (j / 8)) = 5)) &&
      (match (s.core j).run with
       | .inReset | .retired | .selfTest => false
       | _ => true))

/-- A broadcast invalidation (R200, R203): the issuer drops its entries and sets its guard, the others are told, and the
instruction waits until every one of them has answered this request, which its number tells from one that an interrupt broke off. -/
def tlbinvBroad (form : Nat) (h : Hd) (z : BitVec 12) (s : State) : Host.Outcome State Fault Refusal :=
  if isSvc h.core then tlbinvLocal form h z s
  else
    s.runIns h (sysInfo h z) (fun s =>
      let k := h.core
      match (s.core k).tlbOut with
      | some [] => .ok .seq (s.modCore k (fun c => { c with tlbOut := none }))
      | some _ => .stop s
      | none =>
        let r := (s.core k).tlbReq k form
        let ts := s.tlbTargets k
        let s1 := s.modCore k (fun c => { (c.tlbDrop r) with guard := true, tlbId := r.id })
        if ts = [] then .ok .seq s1
        else
          .stop (ts.foldl (fun s j => s.modCore j (fun c => { c with tlbWait := c.tlbWait ++ [r] }))
            (s1.modCore k (fun c => { c with tlbOut := some ts }))))

/-- TLBINV.B VA. -/
def execTlbinvBVa (h : Hd) (z : BitVec 12) (s : State) : Host.Outcome State Fault Refusal := tlbinvBroad 0 h z s
/-- TLBINV.B AS. -/
def execTlbinvBAs (h : Hd) (z : BitVec 12) (s : State) : Host.Outcome State Fault Refusal := tlbinvBroad 1 h z s
/-- TLBINV.B W. -/
def execTlbinvBW (h : Hd) (z : BitVec 12) (s : State) : Host.Outcome State Fault Refusal := tlbinvBroad 2 h z s

/-- SVL and SVU (R259): the save, the links, and save chain low when CFC moves from 3 to 2 (R117). -/
def saveHalf (k : Nat) (hdr : Core → Word) (ws : Core → List Word) (s : State) : M Out :=
  let c := s.core k
  match s.saveArea k c.secure c.cw.csh (hdr c) (ws c) with
  | .exhausted => .stop (s.bankNest k 2 0 c.secure)
  | .failed st => .trap (Trap.check st 1 (areaAddr c.cw.cfl)) s
  | .saved area link s1 =>
    let s2 := s1.modCore k (fun c => c.linkArea c.secure area link)
    if fld c.cw.cfc 15 0 = 3 then
      let b := c.bank
      let s3 := s2.finishInsn k b.pc 4 .seq (bit b.ms 7)
      .stop (s3.chainLow k (s3.core k).bank.pc)
    else .ok .seq s2

/-- SVL: the lower half, MS, ESYN and EADDR; the saved PC is the next instruction. (DEDUCED, log entry 63.) -/
def execSvl (h : Hd) (z : BitVec 12) (s : State) : Host.Outcome State Fault Refusal :=
  s.runIns h (sysInfo h z) (saveHalf h.core (fun c => lowerHdr c.secure false)
    (fun c => lowerWords c.bank (c.bank.pc + 4) c.bank.ms c.cw.esyn c.cw.eaddr))

/-- SVU: the upper half. -/
def execSvu (h : Hd) (z : BitVec 12) (s : State) : Host.Outcome State Fault Refusal :=
  s.runIns h (sysInfo h z) (fun s => s.withStream h.core
    (saveHalf h.core (fun c => upperHdr c.secure false (fld c.sstat 2 0) c.cw) (fun c => upperWords c.cw c.q)))

/-- The area at CSH as RSL or RSU needs it: its bytes, or the exception (R148, R260, R528). -/
def restoreArea (k kind : Nat) (s : State) (f : List Byte → Core → Core) : M Out :=
  let c := s.core k
  let area := areaAddr c.cw.csh
  if c.cw.csh = 0 then .trap Trap.illegal s
  else
    match s.areaRead k c.secure area with
    | .bad st => .trap (Trap.check st 2 area) s
    | .ok bs s1 =>
      if fld (areaHdr bs) 63 62 ≠ kind then .trap Trap.illegal s
      else
        let s2 := (s1.modCore k (f bs)).freeArea k c.secure area (word (leAt bs 0 8))
        .ok .seq (s2.modCore k (fun c => { c with early := [] }))

/-- What the wrapper knows of RSL and RSU: in user mode with CSH = 0 the illegal instruction comes before the privilege (R119). -/
def restoreInfo (h : Hd) (z : BitVec 12) : Info := { sysInfo h z with priv := eretPriv h.cond }

/-- RSL: A, X, Y, SP, FL and the loop registers. -/
def execRsl (h : Hd) (z : BitVec 12) (s : State) : Host.Outcome State Fault Refusal :=
  s.runIns h (restoreInfo h z) (fun s => restoreArea h.core 1 s (fun bs c =>
    c.modBank (fun b => b.restore (areaWords bs) c.secure false)))

/-- RSU: the segment registers, ASID, Q0 to Q7 and SSTAT; context-synchronising. -/
def execRsu (h : Hd) (z : BitVec 12) (s : State) : Host.Outcome State Fault Refusal :=
  s.runIns h (restoreInfo h z) (fun s => s.withStream h.core (fun s =>
    restoreArea h.core 2 (s.onDev (fun d => d.setCslu h.core { d.cslu h.core with segDirty := true, strDirty := true }))
      (fun bs c => let c1 := c.modCw (fun w => w.loadSegs bs); if isSvc h.core then c1 else c1.loadStream bs)))

/-- The address of a cache function's operand [X] (R148): its segment. -/
def cacheSeg (o : CacheOp) : Nat := if o.ov then o.seg.toNat else 1

/-- Whether a cache function is allocated. -/
def cacheLegal (h : Hd) (o : CacheOp) : Bool := !h.short && decide (o.z = 0#8) && (o.ov || decide (o.seg = 0#3))

/-- CPF: a read of the line into L1D; a prefetch whose checks fail is dropped. (DEDUCED, log entry 65.) -/
def execCpf (h : Hd) (o : CacheOp) (s : State) : Host.Outcome State Fault Refusal :=
  s.runIns h (Info.reg (cacheLegal h o) tX) (fun s =>
    let k := h.core
    match s.operand k (cacheSeg o) (s.core k).bank.x 1 .read none false with
    | .error _ => .ok .seq s
    | .ok (_, ps, s0) =>
      let p := ps.headD ⟨0, 0, 0⟩
      match s0.gate (s.dev.coreReq k (s.core k).secure) p.pa 1 false with
      | (none, s1) => .ok .seq (if p.attr ≤ 1 ∧ prange p.pa = .dram then
          (s1.fillRead k (p.pa / 64) (decide (p.attr = 1))).l1Fill k (p.pa / 64) false else s1)
      | (some _, s1) => .ok .seq s1)

/-- CWB and CWBI (R256): rights of a read; an address outside DRAM has no effect. -/
def cacheBack (h : Hd) (o : CacheOp) (f : State → Nat → State) (s : State) : Host.Outcome State Fault Refusal :=
  s.runIns h { Info.reg (cacheLegal h o) tAll with ev := true } (fun s =>
    let k := h.core
    match s.operand k (cacheSeg o) (s.core k).bank.x 1 .read none false with
    | .error t => .trap t s
    | .ok (_, ps, s0) =>
      let pa := (ps.headD ⟨0, 0, 0⟩).pa
      if prange pa ≠ .dram then .ok .seq s0
      else
        match s0.gate (s.dev.coreReq k (s.core k).secure) pa 1 false with
        | (some .wait, s1) => .wait s1
        | (some a, s1) => .trap (ansTrap a pa) s1
        | (none, s1) => .ok .seq (f (s1.settleOwn k (pa / 64 * 64) 64) (pa / 64)))

/-- CWB. -/
def execCwb (h : Hd) (o : CacheOp) (s : State) : Host.Outcome State Fault Refusal := cacheBack h o (fun s l => s.cwb l) s
/-- CWBI. -/
def execCwbi (h : Hd) (o : CacheOp) (s : State) : Host.Outcome State Fault Refusal := cacheBack h o (fun s l => s.cwbi l) s

/-- CINV (R148, R256): supervisor, rights of a write; outside DRAM page rights with cause 2 unless the effective attribute is
normal. -/
def execCinv (h : Hd) (o : CacheOp) (s : State) : Host.Outcome State Fault Refusal :=
  s.runIns h { Info.reg (cacheLegal h o) tAll with priv := supOnly, ev := true } (fun s =>
    let k := h.core
    let c := s.core k
    match s.operand k (cacheSeg o) c.bank.x 1 .write none false with
    | .error t => .trap t s
    | .ok (lin, ps, s0) =>
      let p := ps.headD ⟨0, 0, 0⟩
      if prange p.pa ≠ .dram then
        if p.attr ≤ 2 then .ok .seq s0
        else
          let size := if bit c.cw.wctl 0 then
              match c.tlbFind false lin with
              | some e => e.size
              | none => 0
            else 0
          .trap (accTrap 8 (2 + 16 * p.attr + 256 * size) (word lin) (cacheSeg o) 1 .write 0) s
      else
        match s0.gate (s.dev.coreReq k c.secure) p.pa 1 true with
        | (some .wait, s1) => .wait s1
        | (some a, s1) => .trap (ansTrap a p.pa) s1
        | (none, s1) => .ok .seq (((s1.settleOwn k (p.pa / 64 * 64) 64).endLag (p.pa / 64 * 64) 64).cinv (p.pa / 64)))

/-- The value COREID returns (R113). -/
def coreId (k : Nat) : Nat := k

/-- SWAKE (R149): a software event for the context that A names; the status in A. (DEDUCED, log entry 64.) -/
def execSwake (h : Hd) (imm : BitVec 16) (s : State) : Host.Outcome State Fault Refusal :=
  s.runIns h { Info.reg (!h.short && decide (imm = 0#16)) tAll with ev := true } (fun s =>
    let k := h.core
    let a := (s.core k).bank.a
    let ev : SluiceEv := { kind := 6, src := coreId k, angle := s.dev.reg R.atbNow, cluster := fld a 14 10, slot := fld a 9 0
                           pond := if isSvc k then 32 else (clusterOwner s.dev.felt.cfg (k / 8)).getD 32 }
    let r := s.dev.sluiceEvent ev
    .ok .seq ({ s with dev := r.2 }.modBank k (fun b => { b with a := word r.1 })))

/-- SPRIO (R149): the running context's priority, within CLU.PRIOMAX of the cluster that holds it; T tells. (DEDUCED, log entry 62.) -/
def execSprio (h : Hd) (imm : BitVec 16) (s : State) : Host.Outcome State Fault Refusal :=
  s.runIns h { Info.reg (!h.short && decide (imm.toNat < 16)) tAll with ev := true } (fun s =>
    let k := h.core
    let p := imm.toNat
    let setT' (s : State) (t : Bool) : State := s.modBank k (fun b => { b with fl := setT b.fl t })
    match (s.dev.cslu k).ctx with
    | none => .ok .seq (setT' s false)
    | some x =>
      if s.dev.rf (R.cluPriomax (x / 1024)) 3 0 < p then
        .ok .seq (setT' (s.onDev (fun d => d.satInc (R.cluStatus (x / 1024)) 63 48)) false)
      else .ok .seq (setT' (s.onDev (fun d => d.setCd x 0 (setFld (d.cd x 0) 55 52 p))) true))

/-- SDEAD (R286): the running context's angle deadline is A; T as SPRIO. -/
def execSdead (h : Hd) (imm : BitVec 16) (s : State) : Host.Outcome State Fault Refusal :=
  s.runIns h { Info.reg (!h.short && decide (imm = 0#16)) tAll with ev := true } (fun s =>
    let k := h.core
    let setT' (s : State) (t : Bool) : State := s.modBank k (fun b => { b with fl := setT b.fl t })
    match (s.dev.cslu k).ctx with
    | none => .ok .seq (setT' s false)
    | some x =>
      .ok .seq (setT' (s.onDev (fun d =>
        (d.setCd x 3 (s.core k).bank.a).setCd x 0 (setBit (d.cd x 0) 51 true))) true))

end Sys2Proof.Machine
end

