-- ==== Sys2Proof/Machine/CoreEvents.lean ====
section
/-! DEFINITION. What reaches a core from outside its instruction stream: interrupts, machine checks, single step, the
completion of long operations and stores, debug, reset (04 R94, R109 to R111, R120; 06 R168, R173; 08 R210, R211, R231;
10 R262 to R265; 15 R431 to R434). -/

namespace Sys2Proof.Machine

/-- Whether an instruction of a core is under way: a PFX pair (R131), or one that waits for a response from outside the device. -/
def State.midInsn (s : State) (k : Nat) : Bool := (s.core k).pfx.isSome || s.dev.extBusy k

/-- A boundary at which a core takes events (R120, R131): it runs or waits, and no instruction is under way. -/
def State.atBoundary (s : State) (k : Nat) : Bool :=
  let c := s.core k
  !(s.midInsn k) && (isSvc k || decide (s.dev.domState (clusterDom (k / 8)) = 0)) &&
  (match c.run with
   | .running | .idle | .waiting => true
   | _ => false)

/-- The pending machine check a core takes next: a secure one at once, a normal one while it runs the normal world (R482). -/
def Core.mcNext (c : Core) : Option MachineCheck := c.mcPend.find? (fun m => m.secure || !c.secure)

/-- The fast source a core is to take (R109, R111): in B0 with FE = 1; in B1 nothing holds it off. -/
def State.fastNext (s : State) (k : Nat) : Option Nat :=
  let c := s.core k
  if c.inB1 || bit c.bank.ms 4 then s.dev.nextSrc k s.dev.srcFast else none

/-- The non-fast source a core is to take: secure before normal (R94, R120). -/
def State.irqNext (s : State) (k : Nat) : Option Nat :=
  let c := s.core k
  if c.inB1 then none
  else
    let secOk := if c.secure then bit c.bank.ms 3 else bit c.bank.ms 5
    let nrmOk := !c.secure && bit c.bank.ms 3
    match (if secOk then s.dev.nextSrc k (fun n => !(s.dev.srcFast n) && s.dev.srcSecure n) else none) with
    | some n => some n
    | none => if nrmOk then s.dev.nextSrc k (fun n => !(s.dev.srcFast n) && !(s.dev.srcSecure n)) else none

/-- Run an event at a core's boundary once its long operations allow it; an imprecise failure comes first (R120). -/
def State.atQuiet (s : State) (k : Nat) (f : State → State) : Host.Outcome State Fault Refusal :=
  match s.quiesce k with
  | .clear s1 => done (f s1)
  | .taken s1 => done s1
  | .wait s1 => done s1

/-- TAKE_INTERRUPT (R94, R272): vector 19 or 20 with the source in DETAIL; an entry that fails leaves the source pending. (DEDUCED, log entry 52.) -/
def execTakeInterrupt (core : Nat) (s : State) : Host.Outcome State Fault Refusal :=
  if !(s.atBoundary core) || (s.core core).mcNext.isSome || (s.fastNext core).isSome then .next s
  else
    match s.irqNext core with
    | none => .next s
    | some n =>
      s.atQuiet core (fun s1 =>
        let c := s1.core core
        let sec := s1.dev.srcSecure n
        let tgt := if sec then (if !c.secure || decide (c.mode = 3) then (3, true) else (1, true)) else (1, false)
        let s2 := s1.takeException core { Trap.plain (if sec then 20 else 19) with next := true, detail := n, tgt := some tgt }
          c.bank.pc
        if (s2.core core).run = .stopped then s2 else s2.onDev (fun d => d.takeSrc n))

/-- FAST_INTERRUPT (R109, R111): entry into B1 without a save; in B1, and on a service core or SEC0, which have one bank (R122), a bank
nesting error. (DEDUCED, log entry 262.) -/
def execFastInterrupt (core : Nat) (s : State) : Host.Outcome State Fault Refusal :=
  if isSvc core then (if s.atBoundary core then s.atQuiet core (fun s1 => s1.bankNest core 1 21 true) else .next s)
  else if !(s.atBoundary core) || (s.core core).mcNext.isSome then .next s
  else
    match s.fastNext core with
    | none => .next s
    | some n =>
      s.atQuiet core (fun s1 =>
        let sec := s1.dev.srcSecure n
        if (s1.core core).inB1 then s1.bankNest core 1 21 sec
        else
          (s1.modCore core (fun c => { (c.fastEntry sec) with ssPend := false })).onDev (fun d =>
            (d.takeSrc n).setRf (R.cluIrqcore (core / 8) (core % 8)) 10 0 n))

/-- MACHINE_CHECK_ASYNC (R482): vector 1 with the record's SEQ in DETAIL; a secure one in the normal world goes to monitor. An
imprecise failure that is pending at the same boundary is taken after it (R120), unless the entry has changed the world (R170). (DEDUCED, log entry 54.) -/
def execMachineCheckAsync (core : Nat) (s : State) : Host.Outcome State Fault Refusal :=
  if !(s.atBoundary core) then .next s
  else
    match (s.core core).mcNext with
    | none => .next s
    | some m =>
      let entry (s : State) (pc : Word) : State :=
        let c := s.core core
        (s.modCore core (fun c => { c with mcPend := c.mcPend.erase m })).takeException core
          { Trap.plain 1 with next := true, eaddr := word m.addr, detail := m.seq
                              tgt := if m.secure && !c.secure then some (3, true) else none } pc
      match (s.core core).lops.reverse.head? with
      | some o =>
        if o.block.isSome then
          s.atQuiet core (fun s1 => entry s1 (s1.core core).bank.pc)
        else
          match s.drainRaw core with
          | .clear s1 => done (entry s1 (s1.core core).bank.pc)
          | .wait s1 => done s1
          | .failed s1 t pc =>
            let s2 := entry s1 (if t.next then (s1.core core).bank.pc else pc)
            if t.next && decide ((s2.core core).run = .running) && decide ((s2.core core).secure = (s1.core core).secure) then done (s2.raise core t (s2.core core).bank.pc) else done s2
      | none => done (entry s (s.core core).bank.pc)

/-- SINGLE_STEP (R120): debug, vector 16, at the boundary after an instruction that ran with SS = 1; every other event of
R120 comes first. -/
def execSingleStep (core : Nat) (s : State) : Host.Outcome State Fault Refusal :=
  if !(s.atBoundary core) || !(s.core core).ssPend || (s.core core).mcNext.isSome || (s.fastNext core).isSome ||
      (s.irqNext core).isSome then .next s
  else
    match s.drainAll core with
    | .clear s1 => done (s1.takeException core { Trap.plain 16 with next := true } (s1.core core).bank.pc)
    | .taken s1 => done s1
    | .wait s1 => done s1

/-- LONG_OPERATION_COMPLETE (R167, R168): the oldest outstanding long operation completes and writes what it owns; one that
fails is reported at the next boundary, once every other one has run to its end. -/
def execLongOperationComplete (core : Nat) (s : State) : Host.Outcome State Fault Refusal :=
  match (s.core core).lops with
  | [] => .next s
  | o :: rest =>
    match s.finishOp core o rest with
    | .done s1 => done s1
    | .wait s1 => done s1
    | .failed _ _ =>
      if !(s.atBoundary core) then .next s
      else
        match s.drainAll core with
        | .clear s1 => done s1
        | .taken s1 => done s1
        | .wait s1 => done s1

/-- BLOCK_ELEMENT (R146, R168): the block mover completes one element of the oldest long operation, or its end. -/
def execBlockElement (core : Nat) (s : State) : Host.Outcome State Fault Refusal :=
  match (s.core core).lops with
  | [] => .next s
  | o :: rest =>
    match o.block with
    | none => .next s
    | some (op, bo) =>
      let back (s : State) (l : List LongOp) : State := s.modCore core (fun c => { c with lops := l })
      let s0 := back s []
      if (s.core core).bank.a = 0 then done (back (s0.modBank core (fun b => { b with fl := blkEnd op b.fl })) rest)
      else
        match s0.blockElem core op bo with
        | .ok true s1 => done (back s1 rest)
        | .ok false s1 =>
          if (s1.core core).bank.a = 0 then done (back (s1.modBank core (fun b => { b with fl := blkEnd op b.fl })) rest)
          else done (back s1 (o :: rest))
        | .wait s1 | .stop s1 => done (back s1 (o :: rest))
        | .drain => .next s
        | .trap _ _ =>
          if !(s.atBoundary core) then .next s
          else
            match s.drainAll core with
            | .clear s1 => done s1
            | .taken s1 => done s1
            | .wait s1 => done s1

/-- STORE_VISIBLE (R208 to R210): a buffered store is performed, with respect to every observer but those of `lag`; one that was
performed so becomes visible. No older buffered store to the same bytes may be passed. -/
def execStoreVisible (core : Nat) (idx : Nat) (lag : List Nat) (s : State) : Host.Outcome State Fault Refusal :=
  let sb := (s.core core).sbuf
  match sb[idx]? with
  | none => .next s
  | some st =>
    if st.lag ≠ none then
      plain (s.modCore core (fun c => { c with sbuf := c.sbuf.eraseIdx idx }))
    else if (sb.take idx).any (fun o => decide (o.lag = none) && o.hits st.pa st.bytes.length) then .next s
    else done (s.performStore core st (lag.filter (fun j => decide (j ≠ core))))

/-- READ_RESPONSE (R210, R211): the response to a read that a later instruction will make arrives before that instruction: its
value is settled now. A read of bytes the core itself has buffered is not made early. (DEDUCED, log entry 57.) -/
def execReadResponse (core : Nat) (pa : Nat) (size : Nat) (s : State) : Host.Outcome State Fault Refusal :=
  let c := s.core core
  let rq := s.dev.coreReq core c.secure
  if !(s.runs core) || !([1, 2, 4, 8].contains size) || decide (8 < pa % 8 + size) || decide (prange pa ≠ .dram) ||
      c.sbuf.any (fun st => decide (st.lag = none) && st.hits pa size) ||
      c.early.any (fun e => decide (e.pa < pa + size) && decide (pa < e.pa + e.bytes.length)) || isSvc core then .next s
  else
    match s.pread core (s.dev.coreQos core) rq 0 pa size with
    | (.ok bs, s1) =>
      done (s1.modCore core (fun c => { c with early := c.early ++ [{ pa := pa, bytes := bs }] }))
    | _ => .next s

/-- DEBUG_HALT (R434): a pending halt request takes effect at a boundary at which the invasive enable of the core's world
is 1. -/
def execDebugHalt (core : Nat) (s : State) : Host.Outcome State Fault Refusal :=
  if (s.core core).haltReq && s.atBoundary core && s.invasive core then s.atQuiet core (fun s1 => s1.halt core 1)
  else .next s

/-- The write of DBG.CTL that a row makes: one bit set beside the fields it keeps. -/
def State.dbgCtlWrite (s : State) (rq : Req) (k b : Nat) : State :=
  s.regWrite rq (R.dbgCtl k) 8 (setBit (s.dev.reg (R.dbgCtl k) &&& 0x3000000000000000#64) b true)

/-- HALTREQ (R434): a write of DBG.CTL.HALTREQ. -/
def execHaltreq (rq : Req) (core : Nat) (s : State) : Host.Outcome State Fault Refusal := done (s.dbgCtlWrite rq core 63)

/-- RESUME (R434): a write of DBG.CTL.RESUME. -/
def execResume (rq : Req) (core : Nat) (s : State) : Host.Outcome State Fault Refusal := done (s.dbgCtlWrite rq core 62)

/-- RDATA_ACCESS (R433, DBG.RDATA): a read or write of the register that DBG.RSEL names. -/
def execRdataAccess (rq : Req) (core : Nat) (wr : Bool) (value : Word) (s : State) : Host.Outcome State Fault Refusal :=
  if wr then done (s.regWrite rq (R.dbgRdata core) 8 value)
  else
    let r := s.regRead rq (R.dbgRdata core) 8
    done (r.2.onDev (fun d => { d with pins := { d.pins with dr := r.1 } }))

/-- Whether the debug port admits an access (R431, R433, R437, R438, R489): the invasive enable of the pond and world, the
non-invasive one for DBG.PCSAMPLE and DBG.STAT, and what the port reaches whatever the enables are. -/
def Dev.portAdmits (d : Dev) (pond : Nat) (secure : Bool) (addr : Nat) (wr : Bool) : Bool :=
  let eff (i : Nat) : Bool := bit (d.reg (R.secDbgen pond)) (16 + i + if secure then 2 else 0)
  let ctl := decide (ctlBase ≤ addr) && decide (addr < nvBase)
  let o := addr - ctlBase
  decide (pond < 32) && (eff 1 ||
    (ctl && !wr && eff 0 && (match blockOf o with
      | some (.dbg, i, x) => (x = 8 || x = 16) && decide (clusterOwner d.felt.cfg (i / 8) = some pond)
      | _ => false))) ||
  (ctl && decide (R.secDbuchal 0 ≤ o) && decide (o < R.secDbutok 0 + 0xA0)) ||
  (ctl && !wr && decide (R.secDbgen 0 ≤ o) && decide (o < R.secDbgen 32)) ||
  (!d.felt.felted && ((ctl && decide (R.secKeystat ≤ o) && decide (o < R.secDbgen 0)) ||
    (decide (nvBase + 0xC00000 ≤ addr) && decide (addr < nvBase + 0x1000000))))

/-- DEBUG_PORT_ACCESS (R433): made while the instruction register holds DEBUG; a read leaves its value in the port's data
register. -/
def execDebugPortAccess (pond : Nat) (secure : Bool) (addr : Nat) (size : Nat) (wr : Bool) (value : Word) (s : State) :
    Host.Outcome State Fault Refusal :=
  let ret (s : State) (st : Nat) (v : Word) : State := s.onDev (fun d => { d with pins := { d.pins with dr := v, dstat := st } })
  let rq : Req := { pond := pond, secure := secure, dev := false, dbg := true }
  if s.dev.pins.jins ≠ .debug ∨ !([1, 2, 4, 8].contains size) then .next s
  else if !(s.dev.portAdmits pond secure addr wr) then done (ret (s.onDev (fun d => d.satInc R.secStatus 63 48)) 3 0)
  else if prange addr = .ctl then
    -- what the port reaches whatever its enables are, it reaches as the secure world does
    let rq1 := if blockOf (addr - ctlBase) matches some (.sec, _, _) then { rq with secure := true } else rq
    match s.gate rq1 addr size wr with
    | (some (.bad st), s1) => done (ret s1 st 0)
    | (some _, s1) => done (ret s1 3 0)
    | (none, s1) =>
      if wr then done (ret (s1.regWrite rq1 (addr - ctlBase) size value) 0 0)
      else
        let r := s1.regRead rq1 (addr - ctlBase) size
        done (ret r.2 0 r.1)
  else if wr then
    let r := s.agentWrite rq addr (bytesLE size value.toNat) none
    done (ret r.2 r.1 0)
  else
    let r := s.agentRead rq addr size
    done (ret (s.readNote rq addr size) r.1 (word (ofBytesLE r.2)))

/-- A core's answer to a broadcast invalidation reaches its issuer (R200): it counts for the request that is outstanding, not for one
that an event has broken off. -/
def State.tlbAck (s : State) (k : Nat) (r : TlbReq) : State :=
  s.modCore r.issuer (fun c =>
    if c.tlbId = r.id then { c with tlbOut := c.tlbOut.map (fun l => l.filter (fun j => decide (j ≠ k))) } else c)

/-- Every invalidation a core still has to answer is answered: its TLBs are empty (R187, R202). -/
def State.ackTlb (s : State) (k : Nat) : State :=
  ((s.core k).tlbWait.foldl (fun s r => s.tlbAck k r) s).modCore k (fun c => { c with tlbWait := [] })

/-- The TLBs and buffers of a core are emptied, and what it had under way is gone (R187). -/
def State.bareCore (s : State) (k : Nat) : State :=
  (s.onDev (fun d => d.dropExt k)).modCore k (fun c =>
    { c.noTlb with opbuf := [], early := [], seen := [], lops := [], pfx := none, wpHit := none, hold := [] })

/-- A core starts at vector 0 of its pond's world (R88, R121, R176): a retired L1I keeps it in shared-port mode. (DEDUCED, log entry 53.) -/
def State.startCore (s : State) (k : Nat) : State :=
  let sec := if isSvc k then true else
    match clusterOwner s.dev.felt.cfg (k / 8) with
    | some p => pondSecure s.dev.felt.cfg p
    | none => false
  let bv := if isSvc k then 0 else s.dev.reg (R.cluBootvec (k / 8))
  s.modCore k (fun c =>
    let deg := bit c.b0.ms 8
    let n := Core.reset sec (isSvc k) bv .running
    { n with b0 := { n.b0 with ms := setBit n.b0.ms 8 (deg || isSvc k) }, mcPend := c.mcPend, haltReq := c.haltReq, tlbId := c.tlbId })

/-- A core reset (R121, R265): its context becomes STOPPED, its TLBs are empty, and it starts at vector 0. -/
def State.resetCore (s : State) (k : Nat) : State :=
  let s1 := (s.ackTlb k).onDev (fun d => ((d.dropExt k).dropCore k).setReg (R.cluCorectl (k / 8) (k % 8)) 0)
  s1.startCore k

/-- Whether a reset of a core has been requested and may be made: it has left reset and is not retired. -/
def State.resetDue (s : State) (k : Nat) : Bool :=
  bit (s.dev.reg (R.cluCorectl (k / 8) (k % 8))) 63 && decide (k < 256) &&
  (match (s.core k).run with
   | .inReset | .retired | .selfTest => false
   | _ => true)

/-- CORE_RESET (R231, R265): the core's stores drain, then it is reset. -/
def execCoreReset (core : Nat) (s : State) : Host.Outcome State Fault Refusal :=
  if s.resetDue core then done ((s.drainStores core).resetCore core) else .next s

/-- The error record of stores discarded at a core reset, with a machine check for the pond (R231, R478, R481). -/
def State.reportDiscard (s : State) (k n : Nat) : State :=
  let pond := (clusterOwner s.dev.felt.cfg (k / 8)).getD 0xFF
  s.onDev (fun d => d.report (quadOf (k / 8)) 1 10 k 2 0 pond ((if (s.core k).secure then 1 else 0) + 8) 0 (bytesLE 2 n))

/-- CORE_RESET_DRAIN_TIMEOUT (R231): 4 µs after the request the stores that remain are discarded, whole, and counted. -/
def execCoreResetDrainTimeout (core : Nat) (s : State) : Host.Outcome State Fault Refusal :=
  if s.resetDue core then
    let s1 := s.performWhere core (fun st => st.must)
    let left := ((s1.core core).sbuf.filter (fun st => decide (st.lag = none))).map (·.grp)
    let s2 := if left = [] then s1 else s1.reportDiscard core left.eraseDups.length
    done (s2.resetCore core)
  else .next s

/-- TLBINV_B_ARRIVAL (R196, R200): a broadcast invalidation reaches a core: it drops the entries, its stores become visible, and it sets
its guard. It answers once the accesses it has under way outside the device have been performed; until then the request stays. -/
def execTlbinvBArrival (core : Nat) (s : State) : Host.Outcome State Fault Refusal :=
  match (s.core core).tlbWait with
  | [] => .next s
  | r :: rest =>
    let s1 := (s.drainStores core).modCore core (fun c => { (c.tlbDrop r) with guard := true, early := [] })
    if s1.dev.ext.any (fun e => decide (e.agent = core) && decide (e.st ≠ .finished)) then done s1
    else done ((s1.modCore core (fun c => { c with tlbWait := rest })).tlbAck core r)

/-- TLBINV_B_TIMEOUT (R202): after 1 ms without every answer the issuer takes a machine check, and the clusters that did not
answer are reported. -/
def execTlbinvBTimeout (core : Nat) (s : State) : Host.Outcome State Fault Refusal :=
  match (s.core core).tlbOut with
  | some (j :: js) =>
    let mask := (j :: js).foldl (fun m k => m ||| 2 ^ (k / 8)) 0
    let pond := (clusterOwner s.dev.felt.cfg (core / 8)).getD 0xFF
    let s1 := s.modCore core (fun c => { c with tlbOut := none })
    let s2 := s1.onDev (fun d => d.report (quadOf (core / 8)) 1 12 core 2 0 pond
      ((if (s.core core).secure then 1 else 0) + 8) 0 (bytesLE 4 mask))
    done (s2.takeException core (Trap.check 0 5 0) (s2.core core).bank.pc)
  | _ => .next s

end Sys2Proof.Machine
end

