-- ==== Sys2Proof/Machine/Ptp.lean ====
section
/-! DEFINITION. Frames as the MAC parses them, what it hands to the angle time base, and the PTP slave of the quadrant 1 service core
(03 R70, R72, R73; 13 R376, R377, R380, R381, R385). The layout of messages is that of IEEE 1588-2019 and IEC 61850-9-2. (PRESUMED,
log entries 14, 232 and 246.) -/

namespace Sys2Proof.Machine

/-- What the MAC parses of a frame (R380): destination, source of the tag (VID and TCI), EtherType, where the payload begins, and
the APPID. -/
structure EthHead where
  dst   : Nat
  tag   : Option Nat
  etype : Nat
  body  : Nat
  appid : Option Nat
deriving DecidableEq, Repr

/-- A big-endian field of a frame. -/
def beAt (bs : List Byte) (off n : Nat) : Nat := ofBytesBE ((bs.drop off).take n)

/-- Parse a frame (R380). -/
def ethHead (f : List Byte) : EthHead :=
  let tagged := decide (beAt f 12 2 = 0x8100)
  let o := if tagged then 16 else 12
  let et := beAt f o 2
  { dst := beAt f 0 6, tag := if tagged then some (beAt f 14 2) else none, etype := et, body := o + 2
    appid := if et = 0x88BA ∨ et = 0x88B8 then some (beAt f (o + 2) 2) else none }

/-- A signed 32-bit field. -/
def sField (w : Word) (hi lo : Nat) : Int := (BitVec.ofNat 32 (fld w hi lo)).toInt

/-- The timestamp of an instant in this tick (R376), with the board correction. -/
def Dev.stamp (d : Dev) (p : Nat) (half tx : Bool) : Word :=
  wordOfInt (((d.reg R.exTick).toNat * 2 + half.toNat : Nat) + (if tx then sField (d.reg (R.ethTscorr p)) 63 32 else sField (d.reg (R.ethTscorr p)) 31 0))

/-! ### Sampled values (R70, R72) -/

/-- A length of the basic encoding rules, and what follows it. -/
def berLen : List Byte → Nat × List Byte
  | [] => (0, [])
  | b :: r =>
    if b.toNat < 0x80 then (b.toNat, r)
    else (ofBytesBE (r.take (b.toNat - 0x80)), r.drop (b.toNat - 0x80))

/-- The contents of the first element of a tag among at most `fuel` elements. -/
def berGet (tag : Nat) : Nat → List Byte → Option (List Byte)
  | 0, _ | _, [] => none
  | fuel + 1, b :: r =>
    let (n, v) := berLen r
    if b.toNat = tag then some (v.take n) else berGet tag fuel (v.drop n)

/-- The first ASDU of a sampled-values frame. -/
def firstAsdu (f : List Byte) (h : EthHead) : List Byte :=
  (((berGet 0x60 1 (f.drop (h.body + 8))).bind (berGet 0xA2 8)).bind (berGet 0x30 1)).getD []

/-- Whether an ASDU has valid quality and the test bit clear on the voltages at dataset positions 5 to 7 (R70). -/
def asduGood (asdu : List Byte) : Bool :=
  match berGet 0x87 16 asdu with
  | some smp => decide (56 ≤ smp.length) && [4, 5, 6].all (fun i => decide (beAt smp (8 * i + 4) 4 &&& 0x803 = 0))
  | none => false

/-- A sampled-values source is handed a frame (R72, R381): its timestamp, the angle at it and its first ASDU. -/
def Dev.svFeed (d : Dev) (p : Nat) (f : List Byte) (h : EthHead) (ts : Word) : Dev :=
  let x := d.src p
  let asdu := firstAsdu f h
  d.setSrc p { x with ts := ts, at_ := d.reg R.atbNow, asdu := asdu, good := x.good + (asduGood asdu).toNat }

/-! ### The PTP slave -/

/-- The PTP slave on a port. -/
def Dev.ptp (d : Dev) (port : Nat) : PtpSt := Tab.get (fun _ => PtpSt.off) d.lane.ptp port
def Dev.setPtp (d : Dev) (port : Nat) (x : PtpSt) : Dev :=
  { d with lane := { d.lane with ptp := Tab.set (fun _ => PtpSt.off) d.lane.ptp port x } }

/-- The frames that wait in a MAC's PTP transmit queue (R385). -/
def Dev.ptpQueue (d : Dev) (port : Nat) : List (List Byte) := Tab.get (fun _ => []) d.lane.ptpq port
def Dev.setPtpQueue (d : Dev) (port : Nat) (q : List (List Byte)) : Dev :=
  { d with lane := { d.lane with ptpq := Tab.set (fun _ => []) d.lane.ptpq port q } }

/-- The PTP time of a timestamp taken in this tick, in 2^-16 ns. -/
def Dev.ptpTime (d : Dev) (ts : Word) : Int :=
  ((((d.reg R.exPtpnow).toNat * 2 ^ 32 + d.lane.frac) / 2 ^ 16 : Nat) : Int) + (ts - word ((d.reg R.exTick).toNat * 2)).toInt * 2 ^ 15

/-- A timestamp of 48-bit seconds and 32-bit nanoseconds in a message, in 2^-16 ns, and back. -/
def ptpStampAt (m : List Byte) (off : Nat) : Int := (((beAt m off 6) * 10 ^ 9 + beAt m (off + 6) 4 : Nat) : Int) * 65536
def ptpStampOf (t : Int) : List Byte :=
  let ns := (t / 65536).toNat
  bytesBE 6 (ns / 10 ^ 9) ++ bytesBE 4 (ns % 10 ^ 9)

/-- A message's correctionField, in 2^-16 ns. -/
def ptpCorr (m : List Byte) : Int := (word (beAt m 8 8)).toInt

/-- The slave's port identity: its clock identity from the port's MAC address, port number 1. -/
def Dev.ptpId (d : Dev) (port : Nat) : Nat :=
  let a := d.rf (R.ethMacaddr port) 47 0
  ((a / 2 ^ 24) * 2 ^ 40 + 0xFFFE * 2 ^ 24 + a % 2 ^ 24) * 2 ^ 16 + 1

/-- A peer-delay message of the slave as a frame: type, two-step flag, domain, sequence number and body. -/
def Dev.ptpFrame (d : Dev) (port typ flags domain seq : Nat) (corr : Int) (body : List Byte) : List Byte :=
  bytesBE 6 0x0180C200000E ++ bytesBE 6 (d.rf (R.ethMacaddr port) 47 0) ++ bytesBE 2 0x88F7 ++
  (bytesBE 1 typ ++ bytesBE 1 0x12 ++ bytesBE 2 (34 + body.length) ++ bytesBE 1 domain ++ bytesBE 1 0 ++ bytesBE 2 flags ++
   bytesBE 8 (wordOfInt corr).toNat ++ bytesBE 4 0 ++ bytesBE 10 (d.ptpId port) ++ bytesBE 2 seq ++ bytesBE 1 5 ++ bytesBE 1 0x7F) ++ body

/-- The servo takes an offset estimate (R377): it steps the clock and sets its rate by an algorithm that the spec leaves to the slave.
(Free values, log entry 232.) Only the source of lowest priority number disciplines the clock. -/
def State.ptpServo (s : State) (port : Nat) (offset : Int) : State :=
  let s1 := s.onDev (fun d => d.setPtp port { d.ptp port with slave := true, offset := offset })
  let first := (List.range 8).findSome? (fun p => match atbSource s.dev.felt.cfg p with
    | some (3, i, _, _) => some i
    | _ => none)
  if first = some port then
    ({ s1 with free := s1.free + 2 } : State).onDev (fun d =>
      (d.setRf R.exPtprate 31 0 (Config.servo s.free).toNat).setReg R.exPtpstep (Config.servo (s.free + 1)))
  else s1

/-- A Sync of the master arrives with its origin known (R73): the offset follows, and the slave asks its peer for the delay. -/
def State.ptpSynced (s : State) (port domain : Nat) (rx origin corr : Int) : State :=
  let x := s.dev.ptp port
  let s1 := s.onDev (fun d =>
    let y : PtpSt := { x with sync := none, seq := (x.seq + 1) % 65536, t1 := none, t4 := none }
    (d.setPtp port y).setPtpQueue port (d.ptpQueue port ++ [d.ptpFrame port 2 0 domain y.seq 0 (List.replicate 20 0)]))
  s1.ptpServo port (rx - origin - corr - x.delay)

/-- The peer delay from the request's departure, its arrival at the peer, the answer's departure and its arrival here. -/
def peerDelay (t1 t2 t3 t4 corr : Int) : Int := ((t4 - t1) - (t3 - t2) - corr) / 2

/-- The dataset by which two masters are compared: the order of the best master clock algorithm. -/
def announced (m : List Byte) : Nat := beAt m 47 1 * 2 ^ 120 + beAt m 48 4 * 2 ^ 88 + beAt m 52 1 * 2 ^ 80 + beAt m 53 8 * 2 ^ 16 + beAt m 61 2

/-- A PTP frame copied to the slave with its timestamp (R73, R381), in the selector's domain. (PRESUMED, log entry 232.) -/
def State.ptpFeed (s : State) (port domain : Nat) (f : List Byte) (h : EthHead) (ts : Word) : State :=
  let m := f.drop h.body
  let x := s.dev.ptp port
  let rx := s.dev.ptpTime ts
  let src := beAt m 20 10
  let seq := beAt m 30 2
  let put (y : PtpSt) : State := s.onDev (fun d => d.setPtp port y)
  if m.length < 44 ∨ beAt m 4 1 ≠ domain then s
  else
    match beAt m 0 1 % 16 with
    | 0x0 =>
      if x.master.map (·.2) ≠ some src then s
      else if bit (word (beAt m 6 2)) 9 then put { x with sync := some (seq, rx - ptpCorr m) }
      else s.ptpSynced port domain rx (ptpStampAt m 34) (ptpCorr m)
    | 0x8 =>
      match x.sync with
      | some (n, t) =>
        if n = seq ∧ x.master.map (·.2) = some src then s.ptpSynced port domain t (ptpStampAt m 34) (ptpCorr m) else s
      | none => s
    | 0x2 =>
      s.onDev (fun d => d.setPtpQueue port (d.ptpQueue port ++
        [d.ptpFrame port 3 0x0200 domain seq 0 (ptpStampOf rx ++ bytesBE 10 src)]))
    | 0x3 =>
      match x.t1 with
      | some t1 =>
        if seq ≠ x.seq ∨ beAt m 44 10 ≠ s.dev.ptpId port then s
        else if bit (word (beAt m 6 2)) 9 then put { x with t4 := some (ptpStampAt m 34, rx - ptpCorr m) }
        else put { x with delay := peerDelay t1 0 0 rx (ptpCorr m), t1 := none }
      | none => s
    | 0xA =>
      match x.t1, x.t4 with
      | some t1, some (t2, t4) =>
        if seq ≠ x.seq ∨ beAt m 44 10 ≠ s.dev.ptpId port then s
        else put { x with delay := peerDelay t1 t2 (ptpStampAt m 34) t4 (ptpCorr m), t1 := none, t4 := none }
      | _, _ => s
    | 0xB =>
      match x.master with
      | some (best, id) => if announced m < best ∨ id = src then put { x with master := some (announced m, src) } else s
      | none => put { x with master := some (announced m, src) }
    | _ => s

/-- A frame of the PTP queue has left at a timestamp: a request's departure is kept, and a two-step answer's follows it. -/
def Dev.ptpSent (d : Dev) (port : Nat) (f : List Byte) (ts : Word) : Dev :=
  let m := f.drop 14
  let t := d.ptpTime ts
  match beAt m 0 1 % 16 with
  | 2 => d.setPtp port { d.ptp port with t1 := some t }
  | 3 => d.setPtpQueue port (d.ptpFrame port 0xA 0 (beAt m 4 1) (beAt m 30 2) 0 (ptpStampOf t ++ (m.drop 44).take 10) :: d.ptpQueue port)
  | _ => d

end Sys2Proof.Machine
end

