-- ==== Sys2Proof/Machine/Dma.lean ====
section
/-! DEFINITION. The DMA channels (14 R408, R409). -/

namespace Sys2Proof.Machine

/-- The agent number of a channel's outbound accesses. -/
def dmaAgent (c : Nat) : Nat := 0x200 + c

/-- The requester of a channel (R408). -/
def Dev.dmaReq (d : Dev) (c : Nat) : Req :=
  match dmaOwner d.felt.cfg c with
  | some (p, sec) => { pond := p, secure := sec, dev := false, dbg := false }
  | none => { pond := 32, secure := false, dev := false, dbg := false }

/-- The class of a channel's accesses (R20, R408). -/
def Dev.dmaQos (d : Dev) (c : Nat) : Nat := d.rf (R.dmaCtl c) 47 46

/-- A channel's descriptor in progress. -/
def Dev.job (d : Dev) (c : Nat) : Option DmaJob := Tab.get (fun _ => none) d.pep.jobs c
def Dev.setJob (d : Dev) (c : Nat) (j : Option DmaJob) : Dev :=
  { d with pep := { d.pep with jobs := Tab.set (fun _ => none) d.pep.jobs c j } }

/-- The address of the descriptor at HEAD. -/
def Dev.dmaDesc (d : Dev) (c : Nat) : Nat :=
  (d.reg (R.dmaBase c)).toNat + 32 * (d.rf (R.dmaHead c) 11 0 % qSize (d.rf (R.dmaCtl c) 3 0))

/-- A channel stops: an edge on source c (R409). (DEDUCED, log entry 174.) -/
def Dev.dmaStop (d : Dev) (c : Nat) : Dev := (d.setRf (R.dmaCtl c) 61 61 1).edge c

/-- Whether an address lies outside the device. -/
def outbound (pa : Nat) : Bool := match prange pa with
  | .host | .weir => true
  | _ => false

/-- The aligned pieces of up to 64 bytes of a transfer (R409). -/
def dmaPieces (pa len : Nat) : List (Nat × Nat) := splitAt4k 64 (len + 1) pa len

/-- Hand a channel's outbound piece to its path; one that the endpoint refuses is finished at once (R398). -/
def State.dmaPost (s : State) (c pa n : Nat) (wr : Bool) (data : List Byte) : State :=
  let rq := s.dev.dmaReq c
  let weir := decide (prange pa = .weir)
  let e : ExtAcc :=
    { agent := dmaAgent c, weir := weir, pond := rq.pond, secure := rq.secure, qos := s.dev.dmaQos c, otag := dmaTag c
      strict := false, pa := pa, host := s.dev.hostAddr pa, write := wr, size := n, data := data, st := .accepted, status := 0, tag := 0, timed := none, detail := 0 }
  match (if weir then none else s.dev.hostGate rq pa) with
  | some st => (s.hostBad pa st).onDev (fun d => d.post { e with st := .finished, status := st })
  | none => s.onDev (fun d => d.post e)

/-- Whether the next record of an amendment moves the channel: it starts no further descriptor (R56). -/
def Dev.chanMoving (d : Dev) (c : Nat) : Bool :=
  d.felt.busy && (match d.felt.todo.head? with
    | some (.moveDma x _ _ _) => decide (x = c)
    | _ => false)

/-- Start the descriptor at HEAD when the channel may (R409); its outbound reads are handed to their path. A descriptor whose read is
refused or poisoned stops the channel. (DEDUCED, log entry 173.) -/
def State.dmaStart (s : State) (c : Nat) : State :=
  let d := s.dev
  let ctl := d.reg (R.dmaCtl c)
  if 64 ≤ c ∨ (dmaOwner d.felt.cfg c).isNone ∨ !(bit ctl 63) ∨ bit ctl 61 ∨ (d.job c).isSome ∨ d.chanMoving c ∨
      d.rf (R.dmaHead c) 11 0 = d.rf (R.dmaTail c) 11 0 then s
  else
    let s0 := s.readNote (d.dmaReq c) (d.dmaDesc c) 32 (d.dmaQos c)
    match s.agentRead (d.dmaReq c) (d.dmaDesc c) 32 with
    | (0, bs) =>
      let w := word (leAt bs 16 8)
      if !(bit w 63) then s0
      else
        let src := leAt bs 0 8 % 2 ^ 52
        let j : DmaJob := { src := src, dst := leAt bs 8 8 % 2 ^ 52, ctl := w, posted := none }
        let s1 := s0.onDev (fun d => d.setJob c (some j))
        if outbound src then (dmaPieces src (fld w 23 0)).foldl (fun s p => s.dmaPost c p.1 p.2 false []) s1 else s1
    | _ => s0.onDev (fun d => d.dmaStop c)

/-- The prefix of pieces that succeeded: the bytes and the first failing status. (DEDUCED, log entry 175.) -/
def goodPrefix : List (Nat × List Byte) → Nat × List Byte
  | [] => (0, [])
  | (st, bs) :: rest => if st ≤ 1 then let r := goodPrefix rest; (r.1, bs ++ r.2) else (st, [])

/-- What a descriptor's reads have given: the first failing status and the bytes before it; none while a read is outstanding. -/
def State.dmaGather (s : State) (c : Nat) (j : DmaJob) : Option (Nat × List Byte) :=
  if outbound j.src then
    let es := s.dev.ext.filter (fun e => decide (e.agent = dmaAgent c) && !e.write)
    if es.any (fun e => decide (e.st ≠ .finished)) then none else some (goodPrefix (es.map (fun e => (e.status, e.data))))
  else some (goodPrefix ((dmaPieces j.src (fld j.ctl 23 0)).map (fun p => s.agentRead (s.dev.dmaReq c) p.1 p.2)))

/-- What those reads leave behind, up to and with the first that fails. -/
def State.dmaNote (c : Nat) : List (Nat × Nat) → State → State
  | [], s => s
  | p :: ps, s =>
    let s1 := s.readNote (s.dev.dmaReq c) p.1 p.2 (s.dev.dmaQos c)
    if (s.agentRead (s.dev.dmaReq c) p.1 p.2).1 ≤ 1 then State.dmaNote c ps s1 else s1

/-- Write pieces to the device's own memory until one fails: the status and the bytes written. -/
def State.dmaPut (rq : Req) (qos : Nat) (stash : Option Nat) (data : List Byte) (base : Nat) : List (Nat × Nat) → State → Nat × Nat × State
  | [], s => (0, 0, s)
  | (a, n) :: ps, s =>
    let r := s.agentWrite rq a ((data.drop (a - base)).take n) stash qos
    if r.1 ≠ 0 then (r.1, 0, r.2)
    else
      let q := State.dmaPut rq qos stash data base ps r.2
      (q.1, q.2.1 + n, q.2.2)

/-- Write a descriptor back (R409): DONE, STAT and OWN = 0; refused or poisoned, it stops the channel. -/
def State.dmaFinish (s : State) (c : Nat) (j : DmaJob) (status count : Nat) : State :=
  let w := setFld (setFld j.ctl 63 63 0) 59 56 status
  let s0 := s.onDev (fun d => ({ d with ext := d.ext.filter (fun e => decide (e.agent ≠ dmaAgent c)) } : Dev).setJob c none)
  let (st, s1) := s0.agentWrite (s0.dev.dmaReq c) (s0.dev.dmaDesc c + 16) (bytesLE 8 w.toNat ++ bytesLE 8 count) none (s0.dev.dmaQos c)
  if st ≠ 0 then s1.onDev (fun d => d.dmaStop c)
  else
    s1.onDev (fun d =>
      let n := qSize (d.rf (R.dmaCtl c) 3 0)
      let d1 := (d.setRf (R.dmaHead c) 11 0 ((d.rf (R.dmaHead c) 11 0 + 1) % n)).wrapAdd (R.dmaDonecnt c) 63 0 1
      if bit j.ctl 62 then d1.edge c else d1)

/-- Carry a channel's descriptor as far as it goes: outbound writes are posted once its reads are done, and it is finished when its
writes are. -/
def State.dmaRun (s : State) (c : Nat) : State :=
  match s.dev.job c with
  | none => s
  | some j =>
    match j.posted with
    | some (st0, _) =>
      let es := s.dev.ext.filter (fun e => decide (e.agent = dmaAgent c) && e.write)
      if es.any (fun e => decide (e.st ≠ .finished)) then s
      else
        let r := goodPrefix (es.map (fun e => (e.status, List.replicate e.size 0#8)))
        s.dmaFinish c j (if r.1 ≠ 0 then r.1 else st0) r.2.length
    | none =>
      match s.dmaGather c j with
      | none => s
      | some (st, data) =>
        let sn := if outbound j.src then s else State.dmaNote c (dmaPieces j.src (fld j.ctl 23 0)) s
        let s0 := sn.onDev (fun d => { d with ext := d.ext.filter (fun e => decide (e.agent ≠ dmaAgent c)) })
        if outbound j.dst then
          (dmaPieces j.dst data.length).foldl (fun s p => s.dmaPost c p.1 p.2 true ((data.drop (p.1 - j.dst)).take p.2))
            (s0.onDev (fun d => d.setJob c (some { j with posted := some (st, data.length) })))
        else
          let stash := if bit j.ctl 61 then some (fld j.ctl 55 48) else none
          let r := State.dmaPut (s0.dev.dmaReq c) (s0.dev.dmaQos c) stash data j.dst (dmaPieces j.dst data.length) s0
          r.2.2.dmaFinish c j (if r.1 ≠ 0 then r.1 else st) r.2.1

/-- A channel without MARK goes on with the next descriptor. -/
def State.dmaNext (s : State) (c : Nat) : State := if bit (s.dev.reg (R.dmaCtl c)) 62 then s else s.dmaStart c

/-- DMA_TAIL_WRITE (R409): a write of DMA.TAILc. -/
def execDmaTailWrite (rq : Req) (c : Nat) (value : Word) (s : State) : Host.Outcome State Fault Refusal :=
  if c < 64 then done ((s.regWrite rq (R.dmaTail c) 8 value).dmaNext c) else .next s

/-- DMA_DESCRIPTOR_COMPLETE (R409): the channel's descriptor goes on to its end, as far as its outbound accesses have completed;
then the next one starts. -/
def execDmaDescriptorComplete (c : Nat) (s : State) : Host.Outcome State Fault Refusal :=
  if 64 ≤ c then .next s
  else
    let s0 := if (s.dev.job c).isSome then s else s.dmaNext c
    let s1 := s0.dmaRun c
    done (if (s1.dev.job c).isSome then s1 else s1.dmaNext c)

/-- DMA_RESTART (R409): a write of DMA.CTLc with RESTART = 1 and its other fields as they are. -/
def execDmaRestart (rq : Req) (c : Nat) (s : State) : Host.Outcome State Fault Refusal :=
  if c < 64 then done ((s.regWrite rq (R.dmaCtl c) 8 (setBit (s.dev.reg (R.dmaCtl c)) 60 true)).dmaNext c) else .next s

end Sys2Proof.Machine
end

