-- ==== Sys2Proof/Machine/CohEvents.lean ====
section
/-! DEFINITION. The messages of the coherence protocol as steps: requests at a home, answers of holders, evictions and their
acknowledgement (09 R243 to R254). -/

namespace Sys2Proof.Machine

/-- Whether an agent number names a private cache of the part. -/
def Dev.isCache (d : Dev) (agent : Nat) : Bool :=
  d.part.order.core agent || (decide (256 ≤ agent) && decide (agent < 260)) || decide (agent = 0x1FF)

/-! ### Requests -/

/-- The agent number of a sender. -/
def senderAgent : Sender → Nat
  | .core k => k
  | .dma c => dmaAgent c
  | .eth p _ => portAgent p
  | .weir p _ => portAgent p
  | .host => 0x2FF

/-- The QoS class of a sender's requests (R20): a core's, a DMA channel's, that of the receive ring, that of the packet; the endpoint's is
control. (DESIGN CHOICE for the endpoint, log entry 252.) -/
def Dev.senderQos (d : Dev) : Sender → Nat
  | .core k => d.coreQos k
  | .dma c => d.dmaQos c
  | .eth p r => d.rf (R.ethRxctl p r) 47 46
  | .weir _ q => q % 4
  | .host => 1

/-- The pond and world of a sender's requests: those of a core and of a DMA channel; else those that the request carries. -/
def State.senderReq (s : State) (f : Sender) (rq : Req) : Req :=
  match f with
  | .core k => s.dev.coreReq k (s.core k).secure
  | .dma c => s.dev.dmaReq c
  | _ => rq

/-- Whether a sender's requests take an I/O tracker (R247). -/
def senderIo : Sender → Bool
  | .core _ => false
  | _ => true

/-- A request reaches its home, which makes its checks (R26, R29, R295, R455): one that is refused is answered with its status and not
acted on; one whose DRAM sleeps waits. -/
def State.askHome (s : State) (agent qos : Nat) (rq : Req) (pa n : Nat) (wr : Bool) (t : Txn) (f : State → State) :
    Host.Outcome State Fault Refusal :=
  if prange pa ≠ .dram then .next s
  else
    match s.gate rq pa n wr with
    | (none, s1) => done ((f s1).request agent (pa / 64) qos rq t)
    | (some .wait, s1) => done s1
    | (some a, s1) =>
      let st := match a with
        | .bad st => st
        | _ => 3
      let h := flitHead (s1.dev.requestHead agent (pa / 64) qos 0 rq t)
      done (s1.onDev (fun d => d.inject (clusterStop (d.home pa)) (h.answer st) []))

/-- The misses of a private cache that are in progress (R247). -/
def State.misses (s : State) (agent : Nat) : Nat :=
  let mine (t : Txn) : Bool := decide (t.agent = agent) && [TxnKind.getCopy, .getOwn, .promote].contains t.kind
  (s.mem.dir.map (fun e => (e.2.busy.toList ++ e.2.waitq).countP mine)).sum + (s.mem.inq.map (fun e => e.2.countP (fun x => mine x.2))).sum

/-- Whether a private cache can send a request: an application core has at most 64 misses outstanding (R247). -/
def State.maySend (s : State) (agent : Nat) : Bool := s.dev.isCache agent && (isSvc agent || decide (s.misses agent < 64))

/-- A private cache's read request (R244, R247): the cache misses and the request reaches the home. -/
def cacheReq (kind : TxnKind) (agent line : Nat) (s : State) : Host.Outcome State Fault Refusal :=
  if s.maySend agent && decide (s.mem.l2st agent line = .i) then
    s.askHome agent (s.dev.coreQos agent) (s.dev.coreReq agent (s.core agent).secure) (line * 64) 64 false (Txn.plain kind agent)
      (fun s => s.noteMiss agent line)
  else .next s

/-- GETCOPY (R244): a read for a copy. -/
def execGetcopy (agent : Nat) (line : Nat) (s : State) : Host.Outcome State Fault Refusal := cacheReq .getCopy agent line s
/-- GETOWN (R244): a read with the right to write. -/
def execGetown (agent : Nat) (line : Nat) (s : State) : Host.Outcome State Fault Refusal := cacheReq .getOwn agent line s
/-- PROMOTE (R244): the right to write a copy held in S; a GetOwn once that copy has been invalidated. -/
def execPromote (agent : Nat) (line : Nat) (s : State) : Host.Outcome State Fault Refusal :=
  if s.maySend agent && decide (s.mem.l2st agent line = .s) then
    s.askHome agent (s.dev.coreQos agent) (s.dev.coreReq agent (s.core agent).secure) (line * 64) 64 true (Txn.plain .promote agent) id
  else .next s

/-- PEEKLINE (R250): the current data without a copy. -/
def execPeekline (sender : Sender) (rq : Req) (line : Nat) (s : State) : Host.Outcome State Fault Refusal :=
  s.askHome (senderAgent sender) (s.dev.senderQos sender) (s.senderReq sender rq) (line * 64) 64 false
    { Txn.plain .peek (senderAgent sender) with io := senderIo sender } id

/-- PUTFULL (R250, R251): a whole line, with an optional stash hint acted on for a write-back line. -/
def execPutfull (sender : Sender) (rq : Req) (line : Nat) (data : List Byte) (stash : Option Nat) (wbAttr room : Bool) (s : State) :
    Host.Outcome State Fault Refusal :=
  if data.length = 64 then
    let r1 := s.senderReq sender rq
    let hint := if wbAttr then stash else none
    let r := s.stashFor r1 line 64 hint room
    s.askHome (senderAgent sender) (s.dev.senderQos sender) r1 (line * 64) 64 true
      { Txn.write 0 data r.1 none (senderIo sender) with decl := hint.isSome && r.1.isNone }
      (fun s => (s.stashFor r1 line 64 hint room).2.endLag (line * 64) 64)
  else .next s

/-- PUTPARTIAL (R250): 1 to 64 bytes of one line. -/
def execPutpartial (sender : Sender) (rq : Req) (pa : Nat) (data : List Byte) (s : State) : Host.Outcome State Fault Refusal :=
  if 1 ≤ data.length ∧ pa % 64 + data.length ≤ 64 then
    s.askHome (senderAgent sender) (s.dev.senderQos sender) (s.senderReq sender rq) pa data.length true
      (Txn.write (pa % 64) data none none (senderIo sender)) (fun s => s.endLag pa data.length)
  else .next s

/-! ### Evictions -/

/-- A private cache evicts a line into its writeback buffer (R236, R248); while the buffer's 16 entries are in use the eviction waits for
one. -/
def State.evictLine (s : State) (agent line : Nat) : State :=
  if (s.mem.wb.filter (fun w => decide (w.agent = agent))).length < 16 then (s.evictOut agent line).evictArrive agent line
  else if s.mem.evq.contains (agent, line) then s
  else s.onMem (fun m => { m with evq := m.evq ++ [(agent, line)] })

/-- A private cache evicts a line it holds in one of the given states, and the eviction reaches the home. -/
def evictRow (sts : List LineSt) (agent line : Nat) (s : State) : Host.Outcome State Fault Refusal :=
  if s.dev.isCache agent && sts.contains (s.mem.l2st agent line) then done (s.evictLine agent line) else .next s

/-- DROPDIRTY (R249): an eviction of a line held in M, with its data. -/
def execDropdirty (agent : Nat) (line : Nat) (s : State) : Host.Outcome State Fault Refusal := evictRow [.m] agent line s
/-- DROPCLEAN (R248): notice that a line held in E or S has left the cache. -/
def execDropclean (agent : Nat) (line : Nat) (s : State) : Host.Outcome State Fault Refusal := evictRow [.e, .s] agent line s

/-- The evictions of a cache that waited for a writeback entry go on, those that it still holds. -/
def State.evictNext (s : State) (agent : Nat) : State :=
  let l := (s.mem.evq.filter (fun e => decide (e.1 = agent))).map (·.2)
  let s1 := s.onMem (fun m => { m with evq := m.evq.filter (fun e => decide (e.1 ≠ agent)) })
  l.foldl (fun s x => if s.mem.l2st agent x = .i then s else s.evictLine agent x) s1

/-- EVICTION_ACK (R249): the cache frees its writeback entry, and an eviction that waits for one takes it (R248). -/
def execEvictionAck (agent : Nat) (line : Nat) (s : State) : Host.Outcome State Fault Refusal :=
  let s1 := s.onMem (fun m => m.freeWb agent line)
  if s1.mem.evq = [] then plain s1 else done (s1.evictNext agent)

/-! ### Snoops -/

/-- Whether a snoop target still owes an answer to a snoop of one of the given kinds: a private cache, or a quadrant's ring as
0x300 + quadrant (R241). -/
def State.snoopDue (s : State) (target line : Nat) (kinds : List TxnKind) : Bool :=
  match (s.mem.dirE line).busy with
  | some t => t.out.contains target && kinds.contains t.kind
  | none => false

/-- The cores behind a snoop target that keep the line after an atomic (R254). -/
def State.holding (s : State) (target line : Nat) : List Nat :=
  (s.mem.reached target line).filter (fun k => (s.core k).holds line)

/-- The hold of a line, with a snoop waiting for its end. -/
def Core.snoopWaits (c : Core) (line : Nat) : Core :=
  { c with hold := c.hold.map (fun h => if h.1 = line then (line, true) else h) }

/-- A snoop reaches a target (R244, R254): while an atomic keeps the line the answer waits; else the target answers, and the
transaction completes with the last answer. -/
def snoopRow (kinds : List TxnKind) (agent line : Nat) (s : State) : Host.Outcome State Fault Refusal :=
  if !(s.snoopDue agent line kinds) then .next s
  else if s.holding agent line = [] then done (s.answer line agent)
  else plain ((s.holding agent line).foldl (fun s k => s.modCore k (fun c => c.snoopWaits line)) s)

/-- PROBEDEMOTE (R244): the holder moves to S. -/
def execProbedemote (agent : Nat) (line : Nat) (s : State) : Host.Outcome State Fault Refusal := snoopRow [.getCopy] agent line s
/-- PROBETAKE (R244): the holder invalidates and its data goes to the requester. -/
def execProbetake (agent : Nat) (line : Nat) (s : State) : Host.Outcome State Fault Refusal :=
  snoopRow [.getOwn, .promote] agent line s
/-- PROBEPEEK (R244): a copy of the holder's data goes to the home. -/
def execProbepeek (agent : Nat) (line : Nat) (s : State) : Host.Outcome State Fault Refusal := snoopRow [.peek] agent line s
/-- PROBECLEAR (R244): the holder invalidates and M data goes to the home. -/
def execProbeclear (agent : Nat) (line : Nat) (s : State) : Host.Outcome State Fault Refusal := snoopRow [.put] agent line s

/-- PROBE_TAKE (R158, R159): an invalidating snoop reaches a core's caches: every operand-buffer entry that covers a byte of the
line is killed, and the snoop is answered. No instruction of the model stands uncompleted, so nothing is replayed. -/
def execProbeTake (core : Nat) (line : Nat) (s : State) : Host.Outcome State Fault Refusal :=
  let kinds := [TxnKind.getOwn, .promote, .put]
  let target := if s.snoopDue core line kinds then core else 0x300 + core / 64
  if s.snoopDue target line kinds then snoopRow kinds target line s else plain (s.killOps core line)

/-- ATOMIC_HOLD_EXPIRY (R254): after 32 cycles the line of the core's oldest atomic is free, and a snoop that waited for it is
answered. -/
def execAtomicHoldExpiry (core : Nat) (s : State) : Host.Outcome State Fault Refusal :=
  match (s.core core).hold with
  | [] => .next s
  | (l, waiting) :: rest =>
    let s1 := s.modCore core (fun c => { c with hold := rest })
    let kinds := [TxnKind.getCopy, .getOwn, .promote, .peek, .put]
    let target := if s1.snoopDue core l kinds then core else 0x300 + core / 64
    if waiting && s1.snoopDue target l kinds && decide (s1.holding target l = []) then done (s1.answer l target)
    else plain s1

/-- The word LLC.DIRDATA shows of a line's entry (LLC.DIRDATA). (DEDUCED, log entry 72.) -/
def MemSt.dirWord (m : MemSt) (line : Nat) : Word :=
  let e := m.dirE line
  let st := if e.owner.isSome then 2 else if e.held then 1 else 0
  let ps := match e.owner with
    | some o => if 256 ≤ o then [] else [o]
    | none => e.ptrs
  let em := match e.owner with
    | some o => if 256 ≤ o then 2 ^ engineBit o else 0
    | none => e.emask
  let w0 : Word := setFld (setFld (setFld (setFld (setBit (setBit (setFld 0 63 62 st) 61 e.mask) 60 e.busy.isSome) 59 58 ps.length)
    57 53 em) 52 49 e.qmask) 48 41 (ps.getD 2 0)
  setBit (setBit (setBit (setFld (setFld w0 40 33 (ps.getD 1 0)) 32 25 (ps.getD 0 0)) 24 e.llcv) 23 e.llcd) 22
    (e.llcv && e.llcp)

/-- DIRPROBE (LLC.DIRPROBE): GO looks up the entry of the line at ADDR. -/
def execDirprobe (slice : Nat) (s : State) : Host.Outcome State Fault Refusal :=
  let v := s.dev.reg (R.llcDirprobe slice)
  if bit v 63 then
    let line := fld v 51 6
    let hit := decide (s.dev.home (line * 64) = slice) && (s.mem.dirE line).held
    done (s.onDev (fun d => (d.setReg (R.llcDirprobe slice) (setBit (setBit v 63 false) 62 hit)).setReg (R.llcDirdata slice)
      (if hit then s.mem.dirWord line else 0)))
  else .next s

end Sys2Proof.Machine
end

