-- ==== Sys2Proof/Machine/SluiceEvents.lean ====
section
/-! DEFINITION. The commands of the sluices and of the interrupt controller (10 R266 to R289). -/

namespace Sys2Proof.Machine

/-- SLUICE_EVENT (R277): an event reaches the sluice of the cluster it names. -/
def execSluiceEvent (ev : SluiceEv) (s : State) : Host.Outcome State Fault Refusal :=
  done (s.onDev (fun d => (d.sluiceEvent ev).2))

/-- Whether a core stands at an eligible boundary but for its long operations (R280): in B0, not in monitor mode, no event
of R120 to be taken. -/
def State.eligible (s : State) (k : Nat) : Bool :=
  let c := s.core k
  s.atBoundary k && !c.inB1 && decide (c.mode ≠ 3) && c.mcNext.isNone && (s.fastNext k).isNone && (s.irqNext k).isNone &&
  !c.ssPend

/-- Why the context that runs on a core is to leave it: it waits, yielded or was stopped, or another is assigned (R278,
R279, R275). -/
def State.leaveDue (s : State) (k x : Nat) : Bool :=
  decide (s.dev.ctxState x ≠ stRunning) || (s.dev.cslu k).assigned.isSome

/-- A switch-out that is withheld for a short chain (R283): CHAINSHORT; an assigned context returns to its ready list, a
yielding one stays RUNNING, a waiting one waits in place, a stopped one runs on. -/
def State.withhold (s : State) (k x : Nat) : State :=
  let d := s.dev.alarm (x / 1024) 1
  let d1 := match (d.cslu k).assigned with
    | some a => (d.makeReady a (d.ctx a).byEvent).setCslu k { d.cslu k with assigned := none }
    | none => d
  let st := d1.ctxState x
  if st = stWaiting then { s with dev := d1.setCslu k { d1.cslu k with inPlace := true } }
  else if st = stReady then
    ({ s with dev := ((d1.unready x).setCtxState x stRunning).setCslu k { d1.cslu k with waitCsh := none } }).modCore k (fun c => { c with run := .running })
  else { s with dev := d1 }

/-- SWITCH_OUT (R280, R282, R283): at an eligible boundary the running context is saved if a reason calls for it. A context
that was running joins the tail of its priority. -/
def execSwitchOut (core : Nat) (s : State) : Host.Outcome State Fault Refusal :=
  match (s.dev.cslu core).ctx with
  | none => .next s
  | some x =>
    if !(s.eligible core) || !(s.leaveDue core x) then .next s
    else if cfcOf (s.core core) (s.dev.ctxSecure x) < 4 then done (s.withhold core x)
    else s.atQuiet core (fun s1 =>
      let run := decide (s1.dev.ctxState x = stRunning)
      let r := s1.switchOut core x
      if r.2 && run then r.1.onDev (fun d => d.makeReady x false) else r.1)

/-- CONTEXT_RESTORE (R282): an idle core restores the context assigned to it. -/
def execContextRestore (core : Nat) (s : State) : Host.Outcome State Fault Refusal :=
  match (s.dev.cslu core).assigned with
  | some x =>
    if s.eligible core && decide ((s.dev.cslu core).ctx = none) && decide ((s.core core).run = .idle) then
      done (s.restoreCtx core x)
    else .next s
  | none => .next s

/-- SLICE_EXPIRY (R281): a running context whose slice is over gives way to a READY one of equal priority; the pre-emption
is withheld under R283 when the chain is short. (DESIGN CHOICE, log entry 33.) -/
def execSliceExpiry (core : Nat) (s : State) : Host.Outcome State Fault Refusal :=
  let cs := s.dev.cslu core
  match cs.ctx with
  | none => .next s
  | some x =>
    if s.dev.rf (R.cluSlice (core / 8)) 15 0 = 0 ∨ cs.assigned.isSome ∨ s.dev.ctxState x ≠ stRunning then .next s
    else
      match (s.dev.ready (core / 8)).find? (fun e => decide (e.2 = s.dev.ctxPrio x) && decide (s.dev.runner e.1 = none)) with
      | none => .next s
      | some e =>
        if cfcOf (s.core core) (s.dev.ctxSecure x) < 4 then done (s.onDev (fun d => d.alarm (core / 8) 1))
        else done (s.onDev (fun d => (d.unready e.1).setCslu core { cs with assigned := some e.1 }))

/-- Whether placement moves a context (R287), and where. -/
def Dev.placement (d : Dev) (c k : Nat) : Option Nat :=
  let st := d.ctxState k
  let top := fld (d.cd k 7) 36 32
  let ctl := d.reg (R.cluPlacectl c)
  if (st = stWaiting ∨ st = stReady) ∧ d.runner k = none ∧ d.assignee k = none ∧ !(bit (d.cd k 0) 58) ∧
      fld (d.cd k 0) 42 40 = 0 ∧ fld ctl 31 16 ≤ fld (d.cd k 7) 63 48 ∧ fld ctl 7 0 ≤ fld (d.cd k 7) 47 40 ∧ top ≠ c ∧
      (pondAffinity d.felt.cfg ((clusterOwner d.felt.cfg c).getD 0xFF)).testBit top then d.freeSlot top else none

/-- The slots of a cluster that hold a context, ascending. -/
def Dev.heldSlots (d : Dev) (c : Nat) : List Nat :=
  (d.slu.ctxs.map (·.1)).filter (fun k => decide (k / 1024 = c) && decide (d.ctxState k ≠ stFree) && decide (d.ctxState k ≠ stAway))

/-- PLACEMENT_INTERVAL (R287): each waiting or ready context may migrate; then every HOLD counts down. -/
def execPlacementInterval (cluster : Nat) (s : State) : Host.Outcome State Fault Refusal :=
  if !(bit (s.dev.reg (R.cluPlacectl cluster)) 63) then .next s
  else
    let slots := s.dev.heldSlots cluster
    done (s.onDev (fun d => slots.foldl (fun d k =>
      match d.placement cluster k with
      | some dst => (d.dropHolds (d.ctx k).home).migrate k dst
      | none =>
        let h := fld (d.cd k 0) 42 40
        if h = 0 then d else d.setCd k 0 (setFld (d.cd k 0) 42 40 (h - 1))) d))

/-- A command of CTXCMD (R275): it acts when GO is 1 with its number, on the slot that CTXSEL names and the context it
holds. -/
def ctxRow (n cluster : Nat) (s : State) (f : Nat → State) : Host.Outcome State Fault Refusal :=
  let cmd := s.dev.reg (R.cluCtxcmd cluster)
  if bit cmd 63 && decide (fld cmd 3 0 = n) then done (f (s.dev.selHolder cluster)) else .next s

/-- The answer of a CTXCMD command: its status. -/
def State.ctxAns (s : State) (c st : Nat) : State := s.onDev (fun d => d.ctxDone c st 0)

/-- In whose name CREATE reads the area: the pond of the cluster, in the context's world (R275). -/
def State.createReq (s : State) (c k : Nat) : Req :=
  { pond := (clusterOwner s.dev.felt.cfg c).getD 32, secure := s.dev.ctxSecure k, dev := false, dbg := false }

/-- The check of CREATE's area (R275): 0, or the status it completes with. -/
def State.createCheck (s : State) (c k : Nat) : Nat :=
  let sec := s.dev.ctxSecure k
  match s.agentRead (s.createReq c k) (areaAddr (s.dev.cd k 1)) 192 with
  | (0, bs) =>
    let m := (areaWords bs).getD 18 0
    if fld (areaHdr bs) 63 62 ≠ 1 ∨ bit (areaHdr bs) 61 ≠ sec ∨ bit m 2 ≠ sec ∨ fld m 1 0 = 3 then 3 else 0
  | (6, _) => 6
  | _ => 3

/-- What that read leaves behind (R455). -/
def State.createNote (s : State) (c k : Nat) : State := s.readNote (s.createReq c k) (areaAddr (s.dev.cd k 1)) 192

/-- CTX_CREATE (R275, R287): the selected FREE slot becomes WAITING, or with PLACE the lowest free slot of the lowest cluster
of the pond's affinity mask takes its descriptor. (DEDUCED, log entry 85.) -/
def execCtxCreate (cluster : Nat) (s : State) : Host.Outcome State Fault Refusal :=
  ctxRow 1 cluster s (fun k =>
    if s.dev.ctxState k ≠ stFree then s.ctxAns cluster 3
    else
      let s0 := s.createNote cluster k
      match s.createCheck cluster k with
      | 0 =>
        if bit (s.dev.reg (R.cluCtxcmd cluster)) 8 then
          let aff := pondAffinity s.dev.felt.cfg ((clusterOwner s.dev.felt.cfg cluster).getD 0xFF)
          match (setBits aff 32).findSome? (fun c => s.dev.freeSlot c) with
          | some t => s0.onDev (fun d =>
              ((d.setCtx t { Ctx.free t with d := (d.ctx k).d }).setCtxState t stWaiting).ctxDone cluster 0 t)
          | none => s0.ctxAns cluster 2
        else s0.onDev (fun d => (d.setCtxState k stWaiting).ctxDone cluster 0 k)
      | st => s0.ctxAns cluster st)

/-- CTX_WAKE (R275, R526): a software event with source 0xFFFF. -/
def execCtxWake (cluster : Nat) (s : State) : Host.Outcome State Fault Refusal :=
  ctxRow 2 cluster s (fun _ =>
    let ev : SluiceEv := { kind := 6, src := 0xFFFF, angle := s.dev.reg R.atbNow, cluster := cluster
                           slot := s.dev.rf (R.cluCtxsel cluster) 9 0, pond := (clusterOwner s.dev.felt.cfg cluster).getD 32 }
    let r := s.dev.sluiceEvent ev
    { s with dev := r.2.ctxDone cluster r.1 0 })

/-- CTX_STOP (R275, R283): the context reads STOPPED at once; one that runs is switched out later. -/
def execCtxStop (cluster : Nat) (s : State) : Host.Outcome State Fault Refusal :=
  ctxRow 3 cluster s (fun k =>
    let st := s.dev.ctxState k
    if st = stWaiting ∨ st = stReady ∨ st = stRunning then
      let s1 := s.onDev (fun d =>
        let d1 := match d.assignee k with
          | some core => d.setCslu core { d.cslu core with assigned := none }
          | none => d
        ((d1.unready k).setCtxState k stStopped).ctxDone cluster 0 0)
      match s.dev.runner k with
      | some core => (s1.onDev (fun d => d.setCslu core { d.cslu core with inPlace := false, waitCsh := none }))
      | none => s1
    else s.ctxAns cluster 3)

/-- CTX_START (R275): a STOPPED context that no core still runs becomes READY. -/
def execCtxStart (cluster : Nat) (s : State) : Host.Outcome State Fault Refusal :=
  ctxRow 4 cluster s (fun k =>
    if s.dev.ctxState k = stStopped ∧ s.dev.runner k = none then
      s.onDev (fun d => (d.makeReady k false).ctxDone cluster 0 0)
    else s.ctxAns cluster 3)

/-- CTX_RELEASE (R275): a STOPPED context becomes FREE, its queued events discarded. -/
def execCtxRelease (cluster : Nat) (s : State) : Host.Outcome State Fault Refusal :=
  ctxRow 5 cluster s (fun k =>
    if s.dev.ctxState k = stStopped ∧ s.dev.runner k = none then
      s.onDev (fun d => ((d.dropHolds (d.ctx k).home).freeCtx k).ctxDone cluster 0 0)
    else s.ctxAns cluster 3)

/-- A READY context that a core is to take returns to its ready list. -/
def Dev.unassign (d : Dev) (k : Nat) : Dev :=
  match d.assignee k with
  | some core => (d.setCslu core { d.cslu core with assigned := none }).makeReady k (d.ctx k).byEvent
  | none => d

/-- CTX_MOVE (R275, R287): a context that no core runs migrates to the cluster in DATA, which must be of its pond and have a
free slot. (DEDUCED, log entry 84.) -/
def execCtxMove (cluster : Nat) (s : State) : Host.Outcome State Fault Refusal :=
  ctxRow 6 cluster s (fun k =>
    let st := s.dev.ctxState k
    let dst := s.dev.rf (R.cluCtxcmd cluster) 36 32
    if (st = stWaiting ∨ st = stReady ∨ st = stStopped) ∧ s.dev.runner k = none ∧
        clusterOwner s.dev.felt.cfg dst = clusterOwner s.dev.felt.cfg cluster ∧ s.dev.part.order.cluster dst then
      if dst = k / 1024 then s.ctxAns cluster 0
      else
        let home := (s.dev.ctx k).home
        match (if dst = home / 1024 then some home else s.dev.freeSlot dst) with
        | some t => s.onDev (fun d => (((d.unassign k).dropHolds home).migrate k t).ctxDone cluster 0 0)
        | none => s.ctxAns cluster 2
    else s.ctxAns cluster 3)

/-- CTXDATA_WRITE (R274): a write of a descriptor word through the selected slot's window. -/
def execCtxdataWrite (rq : Req) (cluster : Nat) (j : Nat) (value : Word) (s : State) : Host.Outcome State Fault Refusal :=
  done (s.regWrite rq (R.cluCtxdata cluster (j % 8)) 8 value)

/-- CLUSTER_TIMER_EXPIRY (R276, CLU.TMRCTL): an enabled timer whose count is 0 raises a timer event; a periodic one reloads
PERIOD, at least 1,000 ns, a single-shot one is disabled. -/
def execClusterTimerExpiry (cluster : Nat) (n : Nat) (s : State) : Host.Outcome State Fault Refusal :=
  let i := n % 16
  let ctl := s.dev.reg (R.cluTmrctl cluster i)
  if bit ctl 63 && decide (s.dev.rf (R.cluTmrcnt cluster i) 31 0 = 0) then
    let ev : SluiceEv := { kind := 5, src := i, angle := s.dev.reg R.atbNow, cluster := cluster, slot := fld ctl 9 0
                           pond := (clusterOwner s.dev.felt.cfg cluster).getD 32 }
    done (s.onDev (fun d =>
      let d1 := if bit ctl 62 then d.setRf (R.cluTmrcnt cluster i) 31 0 (max 1000 (d.rf (R.cluTmrcnt cluster i) 63 32))
        else d.setRf (R.cluTmrctl cluster i) 63 63 0
      (d1.sluiceEvent ev).2))
  else .next s

/-- SOURCE_EDGE (R267): the input of an interrupt source changes. -/
def execSourceEdge (src : Nat) (level : Bool) (s : State) : Host.Outcome State Fault Refusal :=
  done (s.onDev (fun d => d.srcInput (src % 2048) level))

/-- BOUND_EVENT_REOFFER (R273): the cluster's queue has freed an entry, so refused bound sources are offered again. -/
def execBoundEventReoffer (cluster : Nat) (s : State) : Host.Outcome State Fault Refusal :=
  if (s.dev.evq cluster).length < 256 then
    done (s.onDev (fun d => { d with ic := { d.ic with refused := d.ic.refused.filter (fun e =>
      !(bit (d.srcCfg e.1) 31 &&
        decide (d.holder (slotKey (fld (d.srcCfg e.1) 30 26) (fld (d.srcCfg e.1) 25 16)) / 1024 = cluster))) } }))
  else .next s

/-- EOI (R267): end of interrupt of a source by its owner. -/
def execEoi (rq : Req) (src : Nat) (s : State) : Host.Outcome State Fault Refusal :=
  done (s.regWrite rq R.icEoi 8 (word (src % 2048)))

/-- PENDSET (R269): software sets pending bits it owns. -/
def execPendset (rq : Req) (j : Nat) (bits : Word) (s : State) : Host.Outcome State Fault Refusal :=
  done (s.regWrite rq (R.icPendset (j % 32)) 8 bits)

/-- PENDCLR (R269): software clears pending bits it owns. -/
def execPendclr (rq : Req) (j : Nat) (bits : Word) (s : State) : Host.Outcome State Fault Refusal :=
  done (s.regWrite rq (R.icPendclr (j % 32)) 8 bits)

/-- MASKSET (R268): software masks sources it owns. -/
def execMaskset (rq : Req) (j : Nat) (bits : Word) (s : State) : Host.Outcome State Fault Refusal :=
  done (s.regWrite rq (R.icMaskset (j % 32)) 8 bits)

/-- MASKCLR (R268): software unmasks sources it owns. -/
def execMaskclr (rq : Req) (j : Nat) (bits : Word) (s : State) : Host.Outcome State Fault Refusal :=
  done (s.regWrite rq (R.icMaskclr (j % 32)) 8 bits)

end Sys2Proof.Machine
end

