-- ==== Sys2Proof/Machine/AtbEvents.lean ====
section
/-! DEFINITION. The commands of the angle time base (03 R67 to R78, R85). -/

namespace Sys2Proof.Machine

/-- Why an evaluation cycle is invalid, 0 for a valid one (R70, ATB.SRCSTAT.REASON); of several reasons the lowest code.
(DEDUCED, log entry 104.) -/
def Dev.cycleReason (d : Dev) (p kind inst nominal sel : Nat) (o : CycleObs) : Nat :=
  let outRange := decide (o.freq < 42000000) || decide (68000000 < o.freq)
  match kind with
  | 1 => if outRange then 2 else if o.amp < 50 ∨ o.clipped then 3 else 0
  | 2 => if outRange then 2 else if (o.rate ≠ 80 ∧ o.rate ≠ 256) ∨ (d.src p).good * 4 < o.expected * 3 then 3 else 0
  | 3 =>
    let x := d.ptp inst
    if 3 < o.syncAge then 1 else if !x.slave ∨ 1000 * 65536 < x.offset.natAbs then 6 else 0
  | 4 =>
    if o.freq < nominal * 125 ∨ nominal * 1250 < o.freq then 2
    else if d.atb.rev then 4
    else if 1 < (d.atb.enc.natAbs : Int) - 4 * sel ∨ (d.atb.enc.natAbs : Int) - 4 * sel < -1 then 5 else 0
  | _ => if d.atb.sync = 0 then 1 else 0

/-- The signed difference from the ATB value to the source's angle the shorter way round, in units of 2^-32 turn (R75). -/
def phaseError (src now : Word) : Int := (BitVec.ofNat 32 ((src - now).toNat)).toInt

/-- A source's validity after an evaluation cycle with a reason (R71). -/
def Dev.srcCycle (d : Dev) (p reason : Nat) : Dev :=
  let off := R.atbSrcstat p
  if reason = 0 then
    let d1 := d.setRf off 23 16 (satAdd 255 (d.rf off 23 16) 1)
    if 3 ≤ d1.rf off 23 16 ∧ !(d1.srcValid p) then (d1.setSrcValid p true).setRf off 27 24 0 else d1
  else
    let d1 := d.setRf off 23 16 0
    if d1.rf off 27 24 = 0 then d1.setRf off 27 24 reason else d1

/-- The tracker at a valid cycle of its selected source (R75 to R77). (DEDUCED, log entry 105.) -/
def Dev.atbTrack (d : Dev) (p : Nat) : Dev :=
  let x := d.src p
  let d1 := (d.atbEstimate x.freq d.atb.fest).setReg R.atbPherr (wordOfInt (x.e % 4294967296))
  if d1.atbState = 2 then
    if d1.overPj x.e 1 then (d1.atbSlew p x.e).atbEvent 1 else d1.atbLock p x.e
  else
    let k := d1.atb.k + 1
    let n := d1.atb.reacq
    let d2 : Dev := { d1 with atb := { d1.atb with k := k } }
    if d2.overPj (x.e * n - d2.atb.e0 * ((n : Int) - k)) n then (d2.atbSlew p x.e).atbEvent 1
    else if n ≤ k then (d2.atbLock p x.e).atbEvent 0
    else d2.atbSetFreq (corrected d2.atb.fest d2.atb.e0 n) x.freq

/-- The angle a PTP source delivers (R73): `t × f_nom × 2^32` modulo 2^64, with the PTP clock's fraction bits (R377) and the
nominal frequency in mHz. -/
def Dev.ptpAngle (d : Dev) (nominal : Nat) : Word :=
  word (((d.reg R.exPtpnow).toNat * 2 ^ 32 + d.lane.frac) * nominal / 10 ^ 12)

/-- The ATB value a number of ticks back, at the frequency in force. -/
def Dev.atbBack (d : Dev) (v : Word) (ago : Nat) : Word := v - word (atbRate d.atbFreq * ago / 2 ^ 32)

/-- A source's angle and its difference from the ATB value at its cycle boundary (R72 to R75): a phase-only source passes fraction 0
there, at the instant its samples give; a PTP source is compared now; a fabric source was when its SYNC came (R359). -/
def Dev.srcSample (d : Dev) (p kind nominal : Nat) (o : CycleObs) : SrcSt :=
  let x := d.src p
  let at_ (angle atb : Word) (f : Nat) : SrcSt :=
    { x with angle := angle, diff := angle - atb, e := phaseError angle atb, freq := f, good := 0 }
  match kind with
  | 1 => at_ 0 (d.atbBack d.now o.ago) o.freq
  | 2 => at_ 0 (d.atbBack x.at_ o.ago) o.freq
  | 3 => at_ (d.ptpAngle nominal) d.now o.freq
  | 4 => at_ 0 d.now o.freq
  | _ => { x with good := 0 }

/-- A valid cycle has been sampled: the tracker follows (R77, whose rows apply in their order); 'valid for 50 consecutive cycles'
is VCNT of at least 50. (DEDUCED, log entry 243.) -/
def Dev.atbCycle (d : Dev) (p : Nat) : Dev :=
  let st := d.atbState
  if (st = 1 ∨ st = 2) ∧ p < d.atbSel ∧ d.srcValid p ∧ 50 ≤ d.rf (R.atbSrcstat p) 23 16 then
    (d.atbFollow p true).1.atbEvent 3
  else if (st = 1 ∨ st = 2) ∧ p = d.atbSel then d.atbTrack p
  else if st = 0 ∨ st = 3 then
    match d.bestSrc with
    | some b =>
      let r := d.atbFollow b false
      if r.2 then r.1.atbEvent 0 else r.1
    | none => d
  else d

/-- A cycle of a source ends (R70 to R77): its validity and then the tracker follow. After an invalid cycle of the selected source
the frequency in force stays and is that of the last full cycle. (DEDUCED, log entry 103.) -/
def Dev.evaluate (d : Dev) (p kind inst nominal sel : Nat) (obs : CycleObs) : Dev :=
  let reason := d.cycleReason p kind inst nominal sel obs
  let x := d.srcSample p kind nominal obs
  let seen : AtbSt := if kind = 4 then { d.atb with enc := 0, rev := false } else if kind = 5 then { d.atb with sync := 0 } else d.atb
  let d1 := ({ d with atb := seen }).srcCycle p reason
  if reason = 0 then (d1.setSrc p x).atbCycle p
  else
    let d2 := d1.setSrc p { d1.src p with good := 0 }
    if (d2.atbState = 1 ∨ d2.atbState = 2) ∧ p = d2.atbSel then { d2 with atb := { d2.atb with mean := d2.atbFreq } } else d2

/-- EVALUATION_CYCLE (R70 to R77): a source's cycle ends at a whole turn of its angle. With the converters uncalibrated (BS08, log entry 263) an
analogue source stays invalid. -/
def execEvaluationCycle (p : Nat) (obs : CycleObs) (s : State) : Host.Outcome State Fault Refusal :=
  match (if p < 8 then atbSource s.dev.felt.cfg p else none) with
  | none => .next s
  | some (kind, inst, nominal, sel) =>
    if s.dev.srcDead kind inst || (decide (kind = 1) && s.dev.atb.uncal) then .next s
    else done (s.onDev (fun d => d.evaluate p kind inst nominal sel obs))

/-- A fabric sample is accepted (R359): a message of this cycle of every fabric source; one that passes a whole turn ends the cycle
before it, with the messages that cycle had. (DEDUCED, log entry 244.) -/
def Dev.fabricSample (d : Dev) (angle : Word) (freq : Nat) : Dev :=
  let had := d.atb.sync
  let d1 := (List.range 8).foldl (fun d p => match atbSource d.felt.cfg p with
    | some (5, inst, nominal, sel) =>
      let x := d.src p
      let d1 := d.setSrc p { x with angle := angle, diff := angle - d.now, e := phaseError angle d.now, freq := freq }
      if x.angle >>> 32 ≠ angle >>> 32 ∧ 0 < had then
        ({ d1 with atb := { d1.atb with sync := had } } : Dev).evaluate p 5 inst nominal sel
          { freq := freq, ago := 0, amp := 0, clipped := false, rate := 0, expected := 0, syncAge := 0 }
      else d1
    | _ => d) d
  { d1 with atb := { d1.atb with sync := d1.atb.sync + 1 } }

/-- SOURCE_LOST (R71, R76, R77): no valid cycle for two nominal periods; a selected source hands over to the valid source of
lowest priority number, or the ATB holds over. VCNT becomes 0. (DEDUCED, log entry 242.) -/
def execSourceLost (p : Nat) (s : State) : Host.Outcome State Fault Refusal :=
  if 8 ≤ p ∨ !(s.dev.srcValid p) then .next s
  else
    let d := (s.dev.setSrcValid p false).setRf (R.atbSrcstat p) 23 16 0
    let d1 := if d.rf (R.atbSrcstat p) 27 24 = 0 then d.setRf (R.atbSrcstat p) 27 24 1 else d
    let st := d1.atbState
    if (st = 1 ∨ st = 2) ∧ d1.atbSel = p then
      match d1.bestSrc with
      | some b => done { s with dev := (((d1.atbFollow b false).1).atbEvent 3).atbEvent 2 }
      | none =>
        let f := if st = 1 then d1.atb.fest else d1.atb.mean
        done { s with dev := ((d1.atbEnter 3 p).setReg R.atbFreq (word f)).atbEvent 2 }
    else done { s with dev := d1 }

/-- HOLDOVER_EXPIRY (R77): ATB.HOLDOVER has elapsed since the loss; the frequency then moves to nominal. -/
def execHoldoverExpiry (s : State) : Host.Outcome State Fault Refusal :=
  if s.dev.atbState = 3 then
    done (s.onDev (fun d => (({ d with atb := { d.atb with ramp := true, left := 0 } }).atbEnter 0 0).atbEvent 6))
  else .next s

/-- ATB_SETTING_WRITE (R78): a write of HOLDOVER, PJLIMIT, ROCOF or REACQ (setting 0 to 3). -/
def execAtbSettingWrite (rq : Req) (setting : Nat) (value : Word) (s : State) : Host.Outcome State Fault Refusal :=
  done (s.regWrite rq (R.atbHoldover + 8 * (setting % 4)) 8 value)

/-- ENCODER_EDGE (R72): a counted edge advances the fraction of every encoder source: after n edges it is
n × 2^32 / (4 × pulses per turn) rounded down, so no rounding accumulates. (DEDUCED, log entry 245.) -/
def execEncoderEdge (forward : Bool) (s : State) : Host.Outcome State Fault Refusal :=
  .next (s.onDev (fun d =>
    let d1 : Dev := { d with atb := { d.atb with
      enc := d.atb.enc + (if forward then 1 else -1), rev := d.atb.rev || !forward } }
    (List.range 8).foldl (fun d p =>
      match atbSource d.felt.cfg p with
      | some (4, _, _, sel) =>
        d.setSrc p { d.src p with angle := word ((d.atb.enc * 2 ^ 32 / ((4 * max sel 1 : Nat) : Int)) % 2 ^ 32).toNat }
      | _ => d) d1))

/-- MARK_REGISTER_WRITE (R82, R85): a write of 4 or 8 bytes to a register of a mark: 0 MKCTL, 1 MKANGLE, 2 MKPERIOD,
3 MKSTAT. -/
def execMarkRegisterWrite (rq : Req) (scope : Nat) (n : Nat) (j : Nat) (size : Nat) (value : Word) (s : State) :
    Host.Outcome State Fault Refusal :=
  if (scope = 0xFF ∧ n < 64) ∨ (scope < 32 ∧ n < 16) then
    done (s.regWrite rq (mkCtl scope n + 8 * (j % 4)) size value)
  else .next s

end Sys2Proof.Machine
end

