-- ==== Sys2Proof/Machine/PinEvents.lean ====
section
/-! DEFINITION. The commands of the pins and of the debug port's instruction register (19 R512 to R523). -/

namespace Sys2Proof.Machine

/-- The shortest pulse that the filter of a general pin lets through, in ns (R515, PIN.CFG.FILT). -/
def Dev.pinFilter (d : Dev) (n : Nat) : Nat :=
  let k := d.rf (R.pinCfg n) 43 40
  if k = 0 then 0 else 20 * 2 ^ (k - 1)

/-- GP_INPUT_CHANGE (R515): the level at a general pin's land changes and stays for `held` ns; INV acts before the filter, which ignores
a pulse shorter than FILT's. -/
def execGpInputChange (n : Nat) (level : Bool) (held : Nat) (s : State) : Host.Outcome State Fault Refusal :=
  if n < 256 then
    (if held < s.dev.pinFilter n then .next s else done (s.onDev (fun d => d.pinLevel n (level != bit (d.reg (R.pinCfg n)) 45))))
  else .next s

/-- PIN_STUCK_TIMEOUT (R515): an input asserted for longer than TMO sets STUCK; the time-out acts again only after STUCK has
been cleared. -/
def execPinStuckTimeout (n : Nat) (s : State) : Host.Outcome State Fault Refusal :=
  match (if n < 256 then pinOwner s.dev.felt.cfg n else none) with
  | some (_, _, 0) =>
    if s.dev.pinIn n && decide (s.dev.rf (R.pinCfg n) 31 16 ≠ 0) && !(bit (s.dev.reg (R.pinCfg n)) 0) then
      .next (s.onDev (fun d => (d.setRf (R.pinCfg n) 0 0 1).satInc R.pinStatus 47 32))
    else .next s
  | _ => .next s

/-- OUTSET (R514): drives the pins of the set bits high. -/
def execOutset (rq : Req) (j : Nat) (bits : Word) (s : State) : Host.Outcome State Fault Refusal :=
  done (s.regWrite rq (R.pinOutset (j % 4)) 8 bits)

/-- OUTCLR (R514): drives the pins of the set bits low. -/
def execOutclr (rq : Req) (j : Nat) (bits : Word) (s : State) : Host.Outcome State Fault Refusal :=
  done (s.regWrite rq (R.pinOutclr (j % 4)) 8 bits)

/-- SMBUS_TIMEOUT (R515): the clock was low for 25 ms to 35 ms; the device releases the bus. -/
def execSmbusTimeout (s : State) : Host.Outcome State Fault Refusal :=
  .next (s.onDev (fun d => { d with pins := { d.pins with busHeld := false } }))

/-- Select an instruction of the debug port. -/
def Dev.jtag (d : Dev) (i : JtagIns) : Dev := { d with pins := { d.pins with jins := i } }

/-- Select an instruction that drives lands; whether it acts is decided while it stands (R523, `Dev.portIns`). -/
def Dev.scanIns (d : Dev) (i : JtagIns) : Dev := d.jtag i

/-- BYPASS (R523): the one-bit register stands between TDI and TDO. -/
def execBypass (s : State) : Host.Outcome State Fault Refusal := .next (s.onDev (fun d => d.jtag .bypass))

/-- The IDCODE of a part (R523): the version field is 1 on B0 and 0 on A0. -/
def idcode (p : Part) : Nat :=
  (if p.order = .axj192ix then 0x0019256B else 0x0025656B) + (if p.b0 then 0x10000000 else 0)

/-- IDCODE (R523). -/
def execIdcode (s : State) : Host.Outcome State Fault Refusal :=
  .next (s.onDev (fun d =>
    let d1 := d.jtag .idcode
    { d1 with pins := { d1.pins with dr := word (idcode d.part) } }))

/-- SAMPLE_PRELOAD (R523): the levels at the general pins are captured, and the cells are loaded. -/
def execSamplePreload (levels : List Bool) (s : State) : Host.Outcome State Fault Refusal :=
  .next (s.onDev (fun d =>
    let d1 := d.jtag .sample
    { d1 with pins := { d1.pins with
      dr := d.pinValue 0x100 0
      cells := (List.range 256).foldl (fun t n => Tab.set (fun _ => false) t n (levels.getD n false)) [] } }))

/-- EXTEST (R523): the cells drive the lands of the outputs. -/
def execExtest (s : State) : Host.Outcome State Fault Refusal := .next (s.onDev (fun d => d.scanIns .extest))

/-- CLAMP (R523): the cells hold the lands and BYPASS stands between TDI and TDO. -/
def execClamp (s : State) : Host.Outcome State Fault Refusal := .next (s.onDev (fun d => d.scanIns .clamp))

/-- HIGHZ (R523): the lands of the outputs are high impedance. -/
def execHighz (s : State) : Host.Outcome State Fault Refusal := .next (s.onDev (fun d => d.scanIns .highz))

/-- DEBUG (R523, R431): opens the debug access of the port. -/
def execDebug (s : State) : Host.Outcome State Fault Refusal := .next (s.onDev (fun d => d.jtag .debug))

end Sys2Proof.Machine
end

