-- ==== Sys2Proof/Machine/DmcEvents.lean ====
section
/-! DEFINITION. The commands of the DRAM channels (11). -/

namespace Sys2Proof.Machine

/-- Whether a channel runs (DMC.STATUS.STATE). -/
def Dev.chanRuns (d : Dev) (ch : Nat) : Bool := d.part.order.channel ch && decide (d.rf (R.dmcStatus ch) 2 0 = 3)

/-- The protect signal (R87). -/
def Dev.protect (d : Dev) : Bool := bit (d.reg R.atbWinstat) 8

/-- The record of a migration's progress in standing block 4 (R317): retired ranks, spare in use, migration incomplete. -/
def State.saveSpare (s : State) (ch : Nat) : State :=
  let c := s.dev.chan ch
  s.modBlock 4 (fun bs => putBit (putBit (putNibble bs 0x20 ch (match c.mig with
    | some (f, _) => c.retired ||| 2 ^ f
    | none => c.retired)) 0x28 ch (c.used || c.mig.isSome)) 0x2A ch c.mig.isSome)

/-- An error on a rank, with the start record kept in step (R313 to R317). -/
def State.rankErr (s : State) (ch rank : Nat) (cmd : Bool) : State :=
  let s1 := s.onDev (fun d => d.rankError ch rank cmd)
  if (s1.dev.chan ch).mig ≠ (s.dev.chan ch).mig then s1.saveSpare ch else s1

/-- What a read's error code leads to (R310). `found`: by scrub or migration, which raises a machine check (R481). -/
def State.eccResult (s : State) (ch la : Nat) (pa : Option Nat) (ecc : EccRes) (found : Bool) : State :=
  let rank := s.dev.rankAt ch la
  let pois := match pa with
    | some a => s.mem.poisoned (a / 64)
    | none => false
  if pois then s
  else
    match ecc with
    | .clean | .poison => s
    | .corrected => s.onDev (fun d =>
        ((d.satInc (R.dmcEcccnt ch) (16 * rank + 15) (16 * rank)).dmcBit ch 0).dramReport ch rank la pa 0 false)
    | .uncorrectable =>
      let s1 := match pa with
        | some a => s.onMem (fun m => m.setPoison (a / 64) true)
        | none => s
      let s2 := s1.onDev (fun d =>
        ((d.satInc (R.dmcUecnt ch) (16 * rank + 15) (16 * rank)).dmcBit ch 1).dramReport ch rank la pa 1 found)
      s2.rankErr ch rank false

/-- The answer to a read leaves the channel: DONE, or POISONED where the line is poisoned (R297, R302, R310). -/
def State.chanAnswer (s : State) (ch : Nat) (r : ChanReq) (pois : Bool) : State :=
  s.onDev (fun d => (d.histCount ch r.pond r.qos ((d.chan ch).time - r.arr)).modChan ch (fun c =>
    { c with out := c.out ++ [(r.line, pois || s.mem.poisoned r.line)] }))

/-- A channel takes a request of its stop (R297, R298): a write is merged into the entry of its line or takes one, a read of a
queued write is answered from it or waits for its merge read, any other read takes an entry; none where its queue is full. -/
def State.chanTake (s : State) (ch : Nat) (r : ChanReq) : Option State :=
  let c := s.dev.chan ch
  let put (f : Chan → Chan) : Option State := some (s.onDev (fun d => d.modChan ch f))
  match r.wr, c.wq.find? (fun w => decide (w.line = r.line)) with
  | true, some _ =>
    let waited := c.rq.any (fun x => x.wait && decide (x.req.line = r.line))
    put (fun c => { c with wq := c.wq.map (fun w =>
      if w.line = r.line then { w with merging := w.merging && (r.part || waited), reqs := w.reqs ++ [r] } else w) })
  | true, none =>
    if 64 ≤ c.wq.length then none
    else put (fun c => { c with wq := c.wq ++ [{ line := r.line, merging := r.part, urgent := false, reqs := [r] }] })
  | false, some w =>
    if !w.merging then some (s.chanAnswer ch r false)
    else if 64 ≤ c.rq.length then none
    else put (fun c => { c with rq := c.rq ++ [{ req := r, wait := true }] })
  | false, none => if 64 ≤ c.rq.length then none else put (fun c => { c with rq := c.rq ++ [{ req := r, wait := false }] })

/-- The requests waiting at a channel's stop enter as their queues have room; one never passes an earlier one of its line. -/
def State.chanEnter (s : State) (ch : Nat) : State :=
  let q := (s.dev.chan ch).inq
  let step (x : State × List ChanReq) (r : ChanReq) : State × List ChanReq :=
    if x.2.any (fun y => decide (y.line = r.line)) then (x.1, x.2 ++ [r])
    else match x.1.chanTake ch r with
      | some s1 => (s1, x.2)
      | none => (x.1, x.2 ++ [r])
  let (s1, left) := q.foldl step (s, [])
  s1.onDev (fun d => d.modChan ch (fun c => { c with inq := left }))

/-- A read of DRAM by a channel: the page policy acts, and the error code decides (R303, R310). -/
def State.chanFetch (s : State) (ch line : Nat) (ecc : EccRes) : State :=
  match dramMap s.dev.felt.cfg (line * 64) with
  | some (_, la) => (s.onDev (fun d => d.dramAccess ch la)).eccResult ch la (some (line * 64)) ecc false
  | none => s

/-- The merge read of a queued partial write (R298): the reads that wait for it are answered from the entry. -/
def State.chanMerge (s : State) (ch line : Nat) (ecc : EccRes) : State :=
  let mine (r : RdEnt) : Bool := r.wait && decide (r.req.line = line)
  let readers := (s.dev.chan ch).rq.filter mine
  let s1 := (s.onDev (fun d => d.modChan ch (fun c =>
    { c with rq := c.rq.filter (fun r => !(mine r))
             wq := c.wq.map (fun w => if w.line = line then { w with merging := false, urgent := !readers.isEmpty } else w) }))).chanFetch
      ch line ecc
  readers.foldl (fun s r => s.chanAnswer ch r.req false) s1

/-- A queued write is issued and performed (R299, R302). -/
def State.chanIssue (s : State) (ch : Nat) (w : WrEnt) : State :=
  s.onDev (fun d =>
    let d1 := d.modChan ch (fun c => { c with wq := c.wq.filter (fun x => decide (x.line ≠ w.line)) })
    let d2 := match dramMap d.felt.cfg (w.line * 64) with
      | some (_, la) => d1.dramAccess ch la
      | none => d1
    w.reqs.foldl (fun d r => d.histCount ch r.pond r.qos ((d.chan ch).time - r.arr)) d2)

/-- A queued read reaches DRAM and is answered (R310). -/
def State.chanServe (s : State) (ch : Nat) (r : ChanReq) (ecc : EccRes) : State :=
  ((s.onDev (fun d => d.modChan ch (fun c => { c with rq := c.rq.filter (fun x => decide (x ≠ { req := r, wait := false })) }))).chanFetch
    ch r.line ecc).chanAnswer ch r (decide (ecc = .poison) || decide (ecc = .uncorrectable))

/-- Whether an earlier read of a queued write's line is still to be made. -/
def Chan.readFirst (c : Chan) (line : Nat) : Bool := c.rq.any (fun r => !r.wait && decide (r.req.line = line))

/-- A queued write that a read depends on (R299): its merge read, and then the write, come at once. -/
def Chan.dependedOn (c : Chan) : Option WrEnt :=
  c.wq.find? (fun w => (w.merging && c.rq.any (fun r => r.wait && decide (r.req.line = w.line))) ||
    (w.urgent && !(c.readFirst w.line)))

/-- Whether a burst of writes runs at this slot (R299): it starts with 48 entries or where no read waits, and runs until 16 are left. -/
def Chan.inBurst (c : Chan) : Bool :=
  decide (16 < c.wq.length) && (c.burst || decide (48 ≤ c.wq.length) || !(c.rq.any (fun r => !r.wait)))

/-- A command slot of a channel (R299): a write that a read depends on at once; else, in a burst, a queued write, whose merge read
comes first; else a read. -/
def State.chanSlot (s : State) (ch : Nat) (x : ChanSlot) : State :=
  let s1 := s.onDev (fun d => d.modChan ch (fun c => { c with time := c.time + x.ns, burst := c.inBurst }))
  let c := s1.dev.chan ch
  let wr (s : State) (w : WrEnt) : State := if w.merging then s.chanMerge ch w.line x.ecc else s.chanIssue ch w
  match c.dependedOn with
  | some w => wr s1 w
  | none =>
    let at_ (r : ChanReq) : Option (ChanReq × DramCoord) := (s1.dev.lineAt ch r.line).map (fun y => (r, y))
    let ws := c.wq.filter (fun w => if c.burst then !(c.readFirst w.line) else w.merging)
    let reqs := ws.filterMap (·.reqs.head?) ++ (if c.burst then [] else (c.rq.filter (fun r => !r.wait)).map (·.req))
    let xs := (reqs.foldr insertReq []).filterMap at_
    let (pick, c1) := c.choose (s1.dev.rf (R.dmcAgemax ch) 15 0) (fun p => s1.dev.rf (R.dmcShare ch p) 6 0) xs
    let s2 := s1.onDev (fun d => d.setChan ch c1)
    match pick with
    | none => s2
    | some (r, _) =>
      if r.wr then
        match c.wq.find? (fun w => decide (w.line = r.line)) with
        | some w => wr s2 w
        | none => s2
      else s2.chanServe ch r x.ecc

/-- A request arrives at a channel's stop and the channel works through the command slots that follow it (R297 to R300). -/
def State.chanRequest (s : State) (ch : Nat) (r : ChanReq) (slots : List ChanSlot) : State :=
  let s1 := (s.onDev (fun d => d.modChan ch (fun c =>
    { c with inq := c.inq ++ [{ r with arr := c.time }], out := [] }))).chanEnter ch
  let s2 := if (s1.dev.chan ch).inq.length ≤ (s.dev.chan ch).inq.length then s1
    else s1.onDev (fun d => d.wrapAdd (R.dmcWaitq ch) 63 0 1)
  slots.foldl (fun s x => (s.chanSlot ch x).chanEnter ch) s2

/-- Whether a channel receives a request for an address (R295). -/
def Dev.chanGets (d : Dev) (ch pa : Nat) : Bool :=
  d.chanRuns ch && d.dramExists pa && decide ((dramMap d.felt.cfg pa).map (·.1) = some ch)

/-- CHANNEL_READ (R297 to R300, R302, R303, R310): a read of one line arrives; it waits, is queued or is answered from a queued
write, and the command slots that follow perform the channel's requests. (DEDUCED, log entry 130; DESIGN CHOICE, log entry 255.) -/
def execChannelRead (ch : Nat) (pa : Nat) (pond : Nat) (qos : Nat) (slots : List ChanSlot) (s : State) :
    Host.Outcome State Fault Refusal :=
  if !(s.dev.chanGets ch pa) then .next s
  else done (s.chanRequest ch { line := pa / 64, wr := false, part := false, pond := pond, qos := qos, arr := 0 } slots)

/-- CHANNEL_WRITE (R297 to R300, R302): a write of a line or of part of one arrives; it waits, is merged into the queued write of
its line, or is queued, and the command slots that follow perform the channel's requests. -/
def execChannelWrite (ch : Nat) (pa : Nat) (size : Nat) (pond : Nat) (qos : Nat) (slots : List ChanSlot) (s : State) :
    Host.Outcome State Fault Refusal :=
  if !(s.dev.chanGets ch pa) ∨ size = 0 ∨ 64 < size then .next s
  else done (s.chanRequest ch { line := pa / 64, wr := true, part := decide (size < 64), pond := pond, qos := qos, arr := 0 } slots)

/-- The owed count of a rank (R306), and the channel with it set. -/
def Chan.owedOf (c : Chan) (r : Nat) : Int := c.owed.getD r 0
def Chan.setOwed (c : Chan) (r : Nat) (n : Int) : Chan := { c with owed := c.owed.set r n }

/-- Note the highest owed count (DMC.PROTSTAT.MAXOWED). -/
def Dev.noteOwed (d : Dev) (ch : Nat) (n : Int) : Dev :=
  if d.rf (R.dmcProtstat ch) 7 0 < n.toNat then d.setRf (R.dmcProtstat ch) 7 0 n.toNat else d

/-- Whether a channel refreshes its ranks: it is trained, and not in self-refresh (R308). -/
def Dev.refreshes (d : Dev) (ch : Nat) : Bool :=
  d.part.order.channel ch && (decide (d.rf (R.dmcStatus ch) 2 0 = 2) || decide (d.rf (R.dmcStatus ch) 2 0 = 3))

/-- Whether angle-critical reads wait for a rank (R306). -/
def Dev.criticalRead (d : Dev) (ch rank : Nat) : Bool :=
  (d.chan ch).rq.any (fun r => decide (r.req.qos % 4 = 0) &&
    (dramMap d.felt.cfg (r.req.line * 64)).any (fun x => decide (d.rankAt ch x.2 = rank)))

/-- REFRESH_DUE (R306 to R308): a rank's refresh falls due. With the protect signal low it is issued unless a pull-in
covers it or angle-critical reads wait for the rank, up to an owed count of 1; with the signal high it is postponed, and one
that would take the count above 4 is forced. (DEDUCED, log entry 131.) -/
def execRefreshDue (ch : Nat) (rank : Nat) (s : State) : Host.Outcome State Fault Refusal :=
  let c := s.dev.chan ch
  if !(s.dev.refreshes ch) || !(c.ranks.testBit rank) || decide (4 ≤ rank) then .next s
  else
    let n := c.owedOf rank + 1
    if s.dev.protect then
      if 4 < n then
        done (s.onDev (fun d => ((d.noteOwed ch 4).wrapAdd (R.dmcProtstat ch) 63 32 1).dmcEvent ch 7))
      else .next (s.onDev (fun d => (d.modChan ch (fun c => c.setOwed rank n)).noteOwed ch n))
    else
      let n1 := if n ≤ 0 then n else if s.dev.criticalRead ch rank && decide (n ≤ 1) then n else 0
      .next (s.onDev (fun d => (d.modChan ch (fun c => c.setOwed rank n1)).noteOwed ch n1))

/-- PROTECT_RISE (R87, R307): the protect signal rises; every trained channel issues what its ranks owe and pulls refreshes in
until the count is -2. -/
def execProtectRise (s : State) : Host.Outcome State Fault Refusal :=
  if s.dev.protect || !s.dev.protectDue then .next s
  else .next (s.onDev (fun d => (List.range 16).foldl (fun d ch =>
    if d.refreshes ch then d.modChan ch (fun c => { c with owed := c.owed.map (fun _ => -2) }) else d)
      (d.setRf R.atbWinstat 8 8 1)))

/-- PROTECT_FALL (R87, R307): the protect signal falls; every trained channel issues the refreshes its ranks owe. -/
def execProtectFall (s : State) : Host.Outcome State Fault Refusal :=
  if !s.dev.protect || s.dev.protectDue then .next s
  else .next (s.onDev (fun d => (List.range 16).foldl (fun d ch =>
    if d.refreshes ch then d.modChan ch (fun c => { c with owed := c.owed.map (fun n => min n 0) }) else d)
      (d.setRf R.atbWinstat 8 8 0)))

/-- ZQ_CALIBRATION (R306, R307): it changes nothing that software sees. -/
def execZqCalibration (_ch : Nat) (_rank : Nat) (s : State) : Host.Outcome State Fault Refusal := .next s

/-- RETRAINING (R304, R306, R307): a step of write-timing retraining leaves new interface parameters, and the read-centring loop its
phases as they now stand; with the protect signal high no step begins and only the phases move. (DESIGN CHOICE, log entry 254.) -/
def execRetraining (ch : Nat) (train : Nat) (phase : Nat) (s : State) : Host.Outcome State Fault Refusal :=
  if !(s.dev.chanRuns ch) then .next s
  else .next (s.onDev (fun d => d.modChan ch (fun c => { c with train := if d.protect then c.train else train, phase := phase })))

/-- SCRUB_READ (R312): the patrol scrub, a bulk request of share 0, reads the next line of the ranks in service and handles the
result under R310; a read of a queued write is answered from it (R298). -/
def execScrubRead (ch : Nat) (ecc : EccRes) (s : State) : Host.Outcome State Fault Refusal :=
  let c := s.dev.chan ch
  if !(s.dev.chanRuns ch) || !(bit (s.dev.reg (R.dmcScrub ch)) 63) || s.dev.protect || s.dev.demand ch || decide (c.capacity = 0)
  then .next s
  else
    let la := c.scrub * 64 % c.capacity
    let pa := dramUnmap s.dev.felt.cfg ch la
    let s1 := s.onDev (fun d => d.modChan ch (fun c => { c with scrub := (c.scrub + 1) % (c.capacity / 64) }))
    if pa.any (fun a => c.wq.any (fun w => decide (w.line = a / 64))) then .next s1 else done (s1.eccResult ch la pa ecc true)

/-- ROW_IDLE_TIMEOUT (R303): an open row with no access for TIMEOUT is closed; its predictor keeps its value. -/
def execRowIdleTimeout (ch : Nat) (bank : Nat) (s : State) : Host.Outcome State Fault Refusal :=
  .next (s.onDev (fun d => d.modChan ch (fun c => { c with rows := c.rows.map (fun e =>
    if e.1 = bank ∧ e.2.isOpen then (e.1, { e.2 with isOpen := false, pred := false }) else e) })))

/-- Every read outstanding on a rank completes as uncorrectable (R311). -/
def State.failReads (s : State) (ch rank : Nat) : State :=
  let c := s.dev.chan ch
  let on (line : Nat) : Bool := (dramMap s.dev.felt.cfg (line * 64)).any (fun x => decide (s.dev.rankAt ch x.2 = rank))
  let s1 := (c.wq.filter (fun w => w.merging && on w.line)).foldl (fun s w => s.chanMerge ch w.line .uncorrectable) s
  (c.rq.filter (fun r => !r.wait && on r.req.line)).foldl (fun s r => s.chanServe ch r.req .uncorrectable) s1

/-- CRC_ALERT (R311): the affected commands are re-issued up to twice; the third failure is a command failure of the rank. -/
def execCrcAlert (ch : Nat) (rank : Nat) (parity : Bool) (failures : Nat) (s : State) : Host.Outcome State Fault Refusal :=
  if !(s.dev.chanRuns ch) || decide (4 ≤ rank) then .next s
  else
    let s1 := s.onDev (fun d => d.dmcEvent ch (if parity then 2 else 3))
    done (if 3 ≤ failures then
        ((s1.onDev (fun d => d.modChan ch (fun c => { c with out := [] }))).failReads ch rank).rankErr ch rank true else s1)

/-- SPARECMD (R313, R315): GO starts the migration of RANK. (DEDUCED, log entry 132.) -/
def execSparecmd (ch : Nat) (s : State) : Host.Outcome State Fault Refusal :=
  let v := s.dev.reg (R.dmcSparecmd ch)
  if !(bit v 63) then .next s
  else
    let rank := fld v 1 0
    let c := s.dev.chan ch
    let fin (s : State) (st : Nat) : State := s.onDev (fun d =>
      (d.setRf (R.dmcSparecmd ch) 63 63 0).setRf (R.dmcSparecmd ch) 11 8 st)
    if c.mig.isSome then done (fin s 2)
    else
      match c.spareFor rank with
      | some t => done (fin ((s.onDev (fun d => d.startMig ch rank t false)).saveSpare ch) 0)
      | none => done (fin s 3)

/-- MIGRATION_COPY (R314): the next line of the failing rank is copied to the spare; after the last the spare takes its
position and it is retired. -/
def execMigrationCopy (ch : Nat) (ecc : EccRes) (s : State) : Host.Outcome State Fault Refusal :=
  let c := s.dev.chan ch
  match c.mig with
  | none => .next s
  | some (frm, tgt) =>
    if !(s.dev.chanRuns ch) || s.dev.protect || s.dev.demand ch then .next s
    else
      let n := s.dev.rf (R.dmcMigptr ch) 36 6
      let la := c.pos.idxOf frm * c.rankSize + n * 64
      let pa := dramUnmap s.dev.felt.cfg ch la
      let s1 := if c.cmdFail then (match pa with
          | some a => s.onMem (fun m => m.setPoison (a / 64) true)
          | none => s) else s.eccResult ch la pa ecc true
      if n + 1 < c.rankSize / 64 then done (s1.onDev (fun d => d.setRf (R.dmcMigptr ch) 36 6 (n + 1)))
      else
        let s2 := s1.onDev (fun d => ((d.modChan ch (fun c => { c with
            pos := c.pos.map (fun r => if r = frm then tgt else r), used := true, retired := c.retired ||| 2 ^ frm
            mig := none, cmdFail := false })).showRanks ch 2 frm tgt).dmcEvent ch 5)
        done (s2.saveSpare ch)

/-- SHARE_WRITE (R301): a write of DMC.SHARE of a pond. -/
def execShareWrite (rq : Req) (ch : Nat) (pond : Nat) (value : Word) (s : State) : Host.Outcome State Fault Refusal :=
  done (s.regWrite rq (R.dmcShare ch (pond % 32)) 8 value)

/-- HSEL_CLR (R302): a write of DMC.HSEL with CLR. -/
def execHselClr (rq : Req) (ch : Nat) (value : Word) (s : State) : Host.Outcome State Fault Refusal :=
  done (s.regWrite rq (R.dmcHsel ch) 8 (setBit value 63 true))

end Sys2Proof.Machine
end

