-- ==== Sys2Proof/Machine/PwrOps.lean ====
section
/-! DEFINITION. Power domains move between their states: what an entry writes back, what is lost, what a wake starts (16 R450 to
R457, R460; 15 R443). -/

namespace Sys2Proof.Machine

/-- PWR.STATUS.DEVSTATE while the device is up: run when a present cluster domain is on, else idle (R460). -/
def Dev.showDevState (d : Dev) : Dev :=
  match d.pwr.mode with
  | .up => d.setRf R.pwrStatus 1 0
      (if (List.range 32).any (fun c => d.part.order.cluster c && decide (d.domState (21 + c) = 0)) then 0 else 1)
  | .watch => d.setRf R.pwrStatus 1 0 2
  | _ => d

/-- Whether a core holds its cluster from being idle (R453). -/
def State.coreBusy (s : State) (k : Nat) : Bool :=
  let c := s.core k
  match c.run with
  | .retired | .stopped | .inReset => false
  | .idle => decide (c.lops ≠ []) || (s.dev.cslu k).ctx.isSome || (s.dev.cslu k).assigned.isSome
  | _ => true

/-- Whether a cluster is idle (R453). -/
def State.clusterIdle (s : State) (c : Nat) : Bool :=
  (List.range 8).all (fun i => !(s.dev.part.order.core (8 * c + i)) || !(s.coreBusy (8 * c + i)))

/-- A cluster enters retention or off (R454): stores drain, caches are written back and invalidated, the TLBs are emptied. -/
def State.clusterEntry (s : State) (c : Nat) : State :=
  (List.range 8).foldl (fun s i =>
    let k := 8 * c + i
    (((s.drainStores k).flushAgent k).ackTlb k).modCore k (fun x => { x.noTlb with opbuf := [], early := [], seen := [], hold := [] })) s

/-- The lines of which a quadrant's slices are the homes. -/
def State.quadLines (s : State) (q : Nat) : List Nat :=
  (s.mem.dir.map (·.1)).filter (fun l => decide (quadOf (s.dev.home (l * 64)) = q))

/-- What a domain does before it leaves on (R450, R454): a cluster's entry; an uncore's slices are written back and
invalidated. -/
def State.domEntry (s : State) (dom tgt : Nat) : State :=
  if tgt < 2 then s
  else if 21 ≤ dom then s.clusterEntry (dom - 21)
  else if 5 ≤ dom ∧ dom ≤ 8 then (s.quadLines (dom - 5)).foldl (fun s l => s.cwbi l) s
  else s

/-- Whether a register lies in a domain; the power unit's own registers stay in every domain's loss (DEDUCED, log entry 19). -/
def inDom (dom off : Nat) : Bool :=
  match blockOf off with
  | some (.pwr, _, _) => false
  | some (b, i, o) => decide (blkDom b i o = dom)
  | none => false

/-- The registers of a domain return to their reset values. (DEDUCED, log entry 198.) -/
def Dev.clearDom (d : Dev) (dom : Nat) : Dev := { d with regs := d.regs.filter (fun e => !(inDom dom e.1)) }

/-- The registers of a domain as another device state has them. -/
def Dev.takeDom (d full : Dev) (dom : Nat) : Dev :=
  (full.regs.filter (fun e => inDom dom e.1)).foldl (fun d e => d.setReg e.1 e.2) (d.clearDom dom)

/-- The contents of a domain are lost (R450). -/
def State.domLose (s : State) (dom : Nat) : State :=
  let s0 := s.onDev (fun d => { d with pwr := { d.pwr with void := Tab.set (fun _ => false) d.pwr.void dom true } })
  let s1 : State :=
    if dom = 4 then s0.onDev (fun d => { d with pep := Pep.off, hregs := [] })
    else if 13 ≤ dom ∧ dom ≤ 20 then s0.onDev (fun d =>
      ((List.range 16).map (fun i => 16 * (dom - 13) + i)).foldl (fun d p =>
        if d.weirPort p then d.linkDown p else if (ethOwner d.felt.cfg p).isSome then d.ethLink p false else d) d)
    else if 9 ≤ dom ∧ dom ≤ 12 then s0.onMem (fun m => { m with img := m.img.filter (fun e =>
      match dramMap s.dev.felt.cfg e.1 with
      | some (ch, _) => decide (ch / 4 ≠ dom - 9) || decide (nvBase ≤ e.1)
      | none => true) })
    else if 5 ≤ dom ∧ dom ≤ 8 then
      ((s0.quadLines (dom - 5)).foldl (fun s l => s.cinv l) s0).onDev (fun d => { d with slu := { d.slu with
        ctxs := d.slu.ctxs.filter (fun e => decide (quadOf (e.1 / 1024) ≠ dom - 5))
        evq := d.slu.evq.filter (fun e => decide (quadOf e.1 ≠ dom - 5))
        ready := d.slu.ready.filter (fun e => decide (quadOf e.1 ≠ dom - 5)) } })
    else if dom = 1 then s0.onDev (fun d => { d with atb := AtbSt.off, pins := { d.pins with out := [] } })
    else s0
  s1.onDev (fun d => d.clearDom dom)

/-- Whether the saved settings of lanes, channels or rails belong to this board (R490, R491). -/
def State.savedHere (s : State) : Bool :=
  decide (s.dev.reg R.errSerial ≠ 0) && decide (s.blockF 1 0 8 = (s.dev.reg R.errSerial).toNat)

/-- A lane that the start record retires, and one with saved settings for this board (R368, R491). -/
def State.laneRetired (s : State) (l : Nat) : Bool := s.blockBit 4 0 l
/-- DEDUCED, log entry 220. -/
def State.laneSaved (s : State) (l : Nat) : Option (Word × Nat) :=
  if s.savedHere && s.blockBit 1 0x10 l then some ((s.keptLane l).1, (s.keptLane l).2.1) else none

/-- CAP, SHORT, DENS and the ranks of a channel as its registers show them (R292, R295, DMC.STATUS, DMC.CONFIG). -/
def Dev.showChan (d : Dev) (ch state why train : Nat) : Dev :=
  let c := d.chan ch
  let gib := 2 ^ 30
  let used := (dramRanges d.felt.cfg).foldl (fun n r =>
    if r.2.1.testBit ch then n + (r.2.2.2 + 256 * (setBits r.2.1 16).length - 1) / (256 * (setBits r.2.1 16).length) * 256 else n) 0
  let short := (used - c.capacity + gib - 1) / gib
  let dimms := (if c.ranks % 4 = 0 then 0 else 1) + (if c.ranks / 4 = 0 then 0 else 1)
  let cfg0 : Word := setFld 0 63 48 short
  let cfg : Word := if c.ranks = 0 then cfg0 else
    setFld (setFld (setFld (setFld (setFld cfg0 47 32 (c.capacity / gib)) 31 24 (c.rankSize / gib)) 5 4 (c.rbits - 15))
      3 2 dimms) 1 0 (if c.ranks.testBit 1 || c.ranks.testBit 3 then 2 else 1)
  let st := R.dmcStatus ch
  (((((d.setRf st 2 0 state).setRf st 10 8 why).setRf st 25 24 train).setRf st 19 16 c.ranks).setReg (R.dmcConfig ch) cfg).refreshRanks ch

/-- A domain whose contents were lost comes up from reset (R443, R456): what blocking loads is loaded again, lanes train, and
the cores of a started pond's cluster begin at vector 0. -/
def State.domStart (s : State) (dom : Nat) : State :=
  let full := (s.dev.loadCfg).lanesStart s.laneRetired s.laneSaved
  let full1 := (List.range 16).foldl (fun d ch =>
    if d.part.order.channel ch then d.showChan ch (s.dev.rf (R.dmcStatus ch) 2 0) (s.dev.rf (R.dmcStatus ch) 10 8) (s.dev.rf (R.dmcStatus ch) 25 24)
    else d) full
  let s1 := s.onDev (fun d =>
    let d1 := d.takeDom full1 dom
    { d1 with pwr := { d1.pwr with void := Tab.set (fun _ => false) d1.pwr.void dom false } })
  if 21 ≤ dom then
    (List.range 8).foldl (fun s i =>
      let k := 8 * (dom - 21) + i
      match (s.core k).run with
      | .inReset | .retired | .selfTest => s
      | _ => if s.dev.part.order.core k then (s.onDev (fun d => d.dropCore k)).startCore k else s) s1
  else s1

/-- Whether the contents of a domain are gone. -/
def Dev.isVoid (d : Dev) (dom : Nat) : Bool := Tab.get (fun _ => false) d.pwr.void dom

/-- The channels of a DRAM group enter or leave self-refresh (R450). -/
def Dev.selfRefresh (d : Dev) (dom : Nat) (on : Bool) : Dev :=
  if 9 ≤ dom ∧ dom ≤ 12 then
    (List.range 4).foldl (fun d i =>
      let r := R.dmcStatus (4 * (dom - 9) + i)
      if on then (if d.rf r 2 0 = 3 then d.setRf r 2 0 4 else d) else if d.rf r 2 0 = 4 then d.setRf r 2 0 3 else d) d
  else d

/-- A domain has reached a state: what it keeps, what it starts, and DEVSTATE; a wake event that came during an entry begins
the wake at once (R459). -/
def State.domReach (s : State) (dom st : Nat) : State :=
  let s1 := s.onDev (fun d => (d.setDomState dom st).selfRefresh dom (decide (2 ≤ st)))
  let s2 := if st = 3 then s1.domLose dom else if st = 0 ∧ s1.dev.isVoid dom then s1.domStart dom else s1
  s2.onDev (fun d =>
    let woken := Tab.get (fun _ => false) d.wakes dom
    let d1 := if st = 0 then { d with wakes := Tab.set (fun _ => false) d.wakes dom false }
      else if woken then d.beginTrans dom { tgt := 0, req := false, exit := false, idle := false } else d
    d1.showDevState)

/-- Move a domain to a state at once, entry and all. -/
def State.domMove (s : State) (dom st : Nat) : State :=
  if s.dev.domState dom = st ∨ !(s.dev.part.order.domain dom) then s
  else ((if s.dev.domState dom < st then s.domEntry dom st else s).domReach dom st)

/-- The service core writes the training record of a group's running channels (R305); their records are valid for this board
(R491). -/
def State.saveDram (s : State) (chs : List Nat) : State :=
  let run := chs.filter (fun ch => decide (3 ≤ s.dev.rf (R.dmcStatus ch) 2 0) && s.dev.part.order.channel ch)
  if run = [] ∨ s.dev.reg R.errSerial = 0 then s
  else
    let s1 := run.foldl (fun s ch =>
      let c := s.dev.chan ch
      ((s.saveIds ch c.ids).savePred ch c.pred).saveTrain ch c.train c.phase) s
    s1.modBlock 1 (fun bs =>
      let b0 := if leAt bs 0 8 = (s.dev.reg R.errSerial).toNat then bs
        else lePut (List.replicate 64 0#8) 0 8 (s.dev.reg R.errSerial).toNat
      run.foldl (fun bs ch => putBit bs 8 ch true) b0)

end Sys2Proof.Machine
end

