-- ==== Sys2Proof/Machine/Evict.lean ====
section
/-! DEFINITION. Contexts leave a core or a cluster (02 R56; 10 R289), asynchronous machine checks (17 R481, R482) and the finished
error record (17 R478, R480). -/

namespace Sys2Proof.Machine

/-- A context is freed because no area or slot is left for it: its record, with D1 and D2, and CLU.ALARM.EVICT (R289). `c` is the
cluster whose sluice holds it. -/
def Dev.evictFree (d : Dev) (x : Nat) : Dev :=
  let c := x / 1024
  let pond := (clusterOwner d.felt.cfg c).getD 0xFF
  let fl := if d.ctxSecure x then 9 else 8
  let d1 := d.report (quadOf c) 12 11 x 2 0 pond fl 0 (bytesLE 8 (d.cd x 1).toNat ++ bytesLE 8 (d.cd x 2).toNat)
  let d2 := d1.alarm c 3
  { (d2.freeCtx x) with err := { d2.err with waiting := d2.err.waiting.map (fun r =>
      if r.kind = 11 ∧ r.inst = x then { r with act := 10 } else r) } }

/-- The context that runs on a core is saved at its next instruction boundary (R56, R289), the reserve areas included; a core in
its fast bank saves the interrupted bank. A save that fails frees the context. None: a long operation still waits. -/
def State.evictCtx (s : State) (k x : Nat) : Option State :=
  if s.midInsn k then none else
  match s.quiesce k with
  | .wait _ => none
  | .clear s1 | .taken s1 =>
    let s2 := s1.modCore k (fun c => { c with inB1 := false, pfx := none })
    match s2.saveCtx k x with
    | .ok s3 =>
      some (if s3.dev.ctxState x = stRunning then s3.onDev (fun d => d.makeReady x false) else s3)
    | .error _ =>
      some ((s2.modCore k (fun c => { c with run := .idle })).onDev (fun d => (d.leaveCore k).evictFree x))

/-- A core is emptied at an instruction boundary with no long operation outstanding (R176): its context leaves it, its stores are
performed, its caches written back and its TLBs emptied (R484, R289). -/
def State.emptyCore (s : State) (k : Nat) : Option State :=
  let s1? := match (s.dev.cslu k).ctx with
    | some x => s.evictCtx k x
    | none =>
      if s.midInsn k then none
      else match s.quiesce k with
        | .wait _ => none
        | .clear s1 | .taken s1 => some s1
  s1?.map (fun s1 => ((((s1.drainStores k).flushAgent k).ackTlb k).onDev (fun d => d.dropCore k)).bareCore k)

/-- A context moves to a slot of another cluster that becomes its home as well, when its own home lies on the cluster it leaves. -/
def Dev.rehome (d : Dev) (x dst : Nat) : Dev :=
  let t := d.migrate x dst
  let w := t.ctx dst
  if w.home / 1024 = x / 1024 then (t.setCtx dst { w with home := dst }).setCtx w.home (Ctx.free w.home) else t

/-- Every context held by a cluster moves to the lowest cluster of a set that has a free slot, or becomes FREE (R289). -/
def Dev.evacSlots (d : Dev) (c : Nat) (to_ : List Nat) : Dev :=
  (List.range 1024).foldl (fun d i =>
    let x := slotKey c i
    let st := d.ctxState x
    if st = stFree ∨ st = stAway then d
    else
      match to_.findSome? (fun b => d.freeSlot b) with
      | some dst => d.rehome x dst
      | none => d.evictFree x) d

/-- Contexts away on other clusters whose home slots lie on the cluster that leaves: the slot that holds one becomes its home. -/
def Dev.evacHomes (d : Dev) (c : Nat) : Dev :=
  (List.range 1024).foldl (fun d i =>
    let x := slotKey c i
    if d.ctxState x = stAway then
      let h := d.holder x
      (d.setCtx h { d.ctx h with home := h }).setCtx x (Ctx.free x)
    else d) d

/-- A cluster gives up a pond's contexts (R56, R289): those running are saved, then all move. `left` is the pond's affinity mask
without the cluster. None: a long operation still waits. (DEDUCED, log entry 212.) -/
def State.evacuate (s : State) (c left : Nat) : Option State :=
  let s1? := (List.range 8).foldl (fun (acc : Option State) i =>
    acc.bind (fun s => if s.dev.part.order.core (8 * c + i) then s.emptyCore (8 * c + i) else some s)) (some s)
  s1?.map (fun s1 => s1.onDev (fun d => ((d.evacSlots c (setBits left 32)).evacHomes c)))

/-! ### Machine checks and records -/

/-- Whether a core can be a machine check's target (R482): none of retired, stopped, held in reset, or owned by another pond. -/
def State.mcCore (s : State) (pond k : Nat) : Bool :=
  s.dev.part.order.core k && decide (clusterOwner s.dev.felt.cfg (k / 8) = some pond) &&
  (match (s.core k).run with
   | .retired | .stopped | .inReset | .selfTest => false
   | _ => true)

/-- An asynchronous machine check for a pond (R481, R482): to MCTGT's core, else to the pond's next core. -/
def State.machineCheck (s : State) (pond : Nat) (secure : Bool) (seq addr : Nat) : State :=
  let k0 := s.dev.rf (R.errMctgt pond) 7 0
  let order := (List.range 256).map (fun i => (k0 + i) % 256)
  match order.find? (fun k => s.mcCore pond k) with
  | some k => s.modCore k (fun c => { c with mcPend := c.mcPend ++
      [{ secure := secure || pondSecure s.dev.felt.cfg pond, seq := seq, addr := addr }] })
  | none => s

/-- The 64 bytes of a record (R478). -/
def ErrRec.bytes (r : ErrRec) (seq start : Nat) : List Byte :=
  let b := bytesLE 4 seq ++ bytesLE 1 r.unit ++ bytesLE 1 r.kind ++ bytesLE 2 r.inst ++ bytesLE 1 r.sev ++ bytesLE 1 r.cls ++
    bytesLE 1 r.act ++ bytesLE 1 r.stat ++ bytesLE 1 r.pond ++ bytesLE 1 r.flags ++ bytesLE 2 r.count ++
    bytesLE 8 (if r.flags.testBit 1 then r.addr else 0) ++ bytesLE 8 r.angle ++ bytesLE 8 r.tick ++
    (r.detail ++ List.replicate 16 0#8).take 16 ++ bytesLE 4 start
  b ++ bytesLE 4 (crc32 b)

/-- A record is written to the error log (R480, R488). -/
def State.logWrite (s : State) (bs : List Byte) : State :=
  let i := s.dev.rf R.errLoghead 13 0
  (s.nvWrite (nvBase + 0xB00000 + 64 * i) bs).onDev (fun d =>
    let d1 := d.setRf R.errLoghead 13 0 (i + 1)
    if i = 16383 then d1.wrapAdd R.errLoghead 63 32 1 else d1)

/-- The ponds that own DRAM on a rank of a channel (R293, R481). (DEDUCED, log entry 135.) -/
def Dev.rankPonds (d : Dev) (ch rank : Nat) : List Nat :=
  let c := d.chan ch
  let own (r : Nat × Nat × Nat × Nat) : Bool :=
    let base := chbase d.felt.cfg r.2.2.1 ch
    let len := r.2.2.2 / (setBits r.2.1 16).length
    r.2.1.testBit ch && (List.range c.pos.length).any (fun i =>
      decide (c.pos.getD i 4 = rank) && decide (base < (i + 1) * c.rankSize) && decide (i * c.rankSize < base + len))
  (((dramRanges d.felt.cfg).filter own).map (·.1)).eraseDups

/-- The ponds to which a record's asynchronous machine check goes (R481): bank nesting, discarded stores and freed contexts to the
record's pond; DRAM errors marked with one to the owner of the address or of the rank; device-fatal ones to every started
pond. -/
def Dev.mcPonds (d : Dev) (r : ErrRec) : List Nat :=
  if r.sev = 3 then setBits d.pwr.started 32
  else if (r.kind = 9 ∧ r.unit = 1) ∨ r.kind = 10 ∨ r.kind = 11 then (if r.pond < 32 then [r.pond] else [])
  else if r.unit = 5 ∧ r.flags.testBit 3 then (if r.pond < 32 then [r.pond] else d.rankPonds (r.inst / 4) (r.inst % 4))
  else []

/-- A complete record is taken (R480): SEQ, the error log or the wait for supply, LAST and PONDREC, the edge on source 0x144 + q;
then its machine checks (R481, R482) and the digest's counts (R500). -/
def State.finishRec (s : State) (r : ErrRec) : State :=
  let to_ := s.dev.mcPonds r
  let r1 := if to_ = [] then r else { r with flags := r.flags ||| 8 }
  let seq := (s.dev.err.seq + 1) % 2 ^ 32
  let bs := r1.bytes seq s.startNo
  let s1 := s.onDev (fun d => { d with err := { d.err with
    seq := seq
    cor := if r.unit = 5 ∧ r.sev = 0 ∧ 1 ≤ r.kind ∧ r.kind ≤ 3 then satAdd (2 ^ 32 - 1) d.err.cor (1 + r.count) else d.err.cor
    unc := if 1 ≤ r.sev then satAdd (2 ^ 32 - 1) d.err.unc 1 else d.err.unc
    trans := if r.cls = 1 then satAdd (2 ^ 32 - 1) d.err.trans 1 else d.err.trans
    lasting := if r.cls = 2 then satAdd (2 ^ 32 - 1) d.err.lasting 1 else d.err.lasting
    last := if 2 ≤ r.sev ∨ r.cls = 2 then bs else d.err.last } })
  let s2 := if s1.dev.belowFloor then
      s1.onDev (fun d => (({ d with err := { d.err with defer := d.err.defer ++ [bs] } }).wrapAdd R.errStatus 31 16 1))
    else s1.logWrite bs
  let s3 := s2.onDev (fun d =>
    let d1 := (List.range 8).foldl (fun d i => d.setReg (R.errLast i) (word (leAt bs (8 * i) 8))) d
    let d2 := if r.pond < 32 then (List.range 8).foldl (fun d i => d.setReg (R.errPondrec r.pond i) (word (leAt bs (8 * i) 8))) d1
      else d1
    d2.edge (0x144 + r.quad))
  to_.foldl (fun s p => s.machineCheck p (r.flags.testBit 0) seq (if r.flags.testBit 1 then r.addr else 0)) s3

/-- A device-fatal error (R483). -/
def Dev.fatal (d : Dev) : Dev := d.setRf R.errStatus 0 0 1

end Sys2Proof.Machine
end

