-- ==== Sys2Proof/Machine/PwrEvents.lean ====
section
/-! DEFINITION. Commands of the power unit: domain requests, idleness, wakes, watch, frequency, voltage, power cap and thermal
limits (16). -/

namespace Sys2Proof.Machine

/-- Whether the device has started and runs: R460's run, idle or watch. -/
def Dev.alive (d : Dev) : Bool := decide (d.pwr.mode = .up) || decide (d.pwr.mode = .watch)

/-- Whether a start is under way whose service cores run (R487, BS02; log entry 264). -/
def Dev.starting (d : Dev) : Bool := decide (d.pwr.mode = .reset) && decide (2 < d.pwr.step)

/-- Drop a domain's transition. -/
def Dev.endTrans (d : Dev) (dom : Nat) : Dev := { d with pwr := { d.pwr with trans := Tab.del d.pwr.trans dom } }

/-- A cluster that a transition waits for is idle: the entry begins (R452, R454). -/
def State.startEntry (s : State) (dom : Nat) : State :=
  match s.dev.transOf dom with
  | some t =>
    if t.idle && s.clusterIdle (dom - 21) then
      (s.domEntry dom t.tgt).onDev (fun d => d.beginTrans dom { t with idle := false })
    else s
  | none => s

/-- A DOMCTL request: GO with a state in REQ (R452), the other fields as they are. -/
def domRequest (st : Nat) (rq : Req) (dom : Nat) (s : State) : Host.Outcome State Fault Refusal :=
  if 53 ≤ dom then .next s
  else
    let v := setFld (setBit (s.dev.reg (R.pwrDomctl dom)) 63 true) 62 60 st
    let s1 := s.regWrite rq (R.pwrDomctl dom) 8 v
    done (match s1.dev.transOf dom, s.dev.transOf dom with
      | some t, none => if t.idle then s1.startEntry dom else s1.domEntry dom t.tgt
      | _, _ => s1)

/-- DOMAIN_REQUEST_ON (R452). -/
def execDomainRequestOn (rq : Req) (dom : Nat) (s : State) : Host.Outcome State Fault Refusal := domRequest 0 rq dom s
/-- DOMAIN_REQUEST_CLOCK_GATE (R452). -/
def execDomainRequestClockGate (rq : Req) (dom : Nat) (s : State) : Host.Outcome State Fault Refusal := domRequest 1 rq dom s
/-- DOMAIN_REQUEST_RETENTION (R452). -/
def execDomainRequestRetention (rq : Req) (dom : Nat) (s : State) : Host.Outcome State Fault Refusal := domRequest 2 rq dom s
/-- DOMAIN_REQUEST_OFF (R452). -/
def execDomainRequestOff (rq : Req) (dom : Nat) (s : State) : Host.Outcome State Fault Refusal := domRequest 3 rq dom s

/-- The place of a domain in the order of R464. -/
def exitRank (dom : Nat) : Nat :=
  if 5 ≤ dom ∧ dom ≤ 8 then 0 else if 9 ≤ dom ∧ dom ≤ 12 then 1 else if dom = 2 then 2
  else if 13 ≤ dom ∧ dom ≤ 20 then 3 else if dom = 4 then 4 else 5

/-- Whether an earlier domain of the exit from watch still wakes (R464). -/
def Dev.exitWaits (d : Dev) (dom : Nat) (t : Trans) : Bool :=
  t.exit && d.pwr.trans.any (fun e => e.2.exit && decide (exitRank e.1 < exitRank dom))

/-- DOMAIN_TRANSITION_DONE (R452, R454, R464): a domain reaches the state its transition leads to. A DRAM group enters
retention or off once the protect signal is low, after its training record is written. -/
def execDomainTransitionDone (dom : Nat) (s : State) : Host.Outcome State Fault Refusal :=
  match s.dev.transOf dom with
  | none => .next s
  | some t =>
    let low := 2 ≤ t.tgt ∧ 9 ≤ dom ∧ dom ≤ 12
    if (t.idle && !(s.clusterIdle (dom - 21))) || s.dev.exitWaits dom t || (decide low && s.dev.protect) then .next s
    else
      let s0 := if t.idle then s.domEntry dom t.tgt else s
      let s1 := if low then s0.saveDram ((List.range 4).map (fun i => 4 * (dom - 9) + i)) else s0
      let s2 := (s1.onDev (fun d => d.endTrans dom)).domReach dom t.tgt
      done (if t.req then s2.onDev (fun d => d.domComplete dom 0) else s2)

/-- DOMAIN_REQUEST_TIMEOUT (R452): a cluster request that waited 10 ms completes with TIMEOUT. -/
def execDomainRequestTimeout (dom : Nat) (s : State) : Host.Outcome State Fault Refusal :=
  match s.dev.transOf dom with
  | none => .next s
  | some t => if t.idle && t.req then done (s.onDev (fun d => (d.endTrans dom).domComplete dom 7)) else .next s

/-- Whether a domain other than a cluster has no request outstanding (R453): SEC0 no command, an uncore no transaction of its slices,
a DRAM group no queued access. (DEDUCED, log entry 194.) -/
def State.domQuiet (s : State) (dom : Nat) : Bool :=
  if dom = 3 then !(bit (s.dev.reg R.secKeycmd) 63) && !(bit (s.dev.reg R.secDbucmd) 63) && !(bit (s.dev.reg R.feltCmdstat) 31)
  else if 5 ≤ dom ∧ dom ≤ 8 then s.mem.dir.all (fun e => e.2.busy.isNone || decide (quadOf (s.dev.home (e.1 * 64)) ≠ dom - 5)) && decide (s.mem.inq = []) &&
    decide (s.dev.err.waiting = [])
  else if 9 ≤ dom ∧ dom ≤ 12 then
    (List.range 4).all (fun i =>
      let c := s.dev.chan (4 * (dom - 9) + i)
      decide (c.inq = []) && decide (c.rq = []) && decide (c.wq = []))
  else decide (dom = 2)

/-- A domain other than a cluster is clock-gated by the device when it has no request outstanding, within its hold (R453). -/
def State.gateIdle (s : State) (dom : Nat) : Host.Outcome State Fault Refusal :=
  if !(s.dev.alive) ∨ !(s.dev.domPermits dom 1) ∨ !(s.domQuiet dom) ∨ (s.dev.transOf dom).isSome ∨ s.dev.domState dom ≠ 0 ∨
      s.dev.domLowest dom = 0 then .next s
  else done (s.domMove dom 1)

/-- CLUSTER_IDLE (R453): an idle cluster begins the entry a request waits for, or is clock-gated at once when AUTO is at least 1
and the hold permits it. An operand of 32 or above names a domain that is no cluster, 32 + d for domain d. (DEDUCED, log entry 194.) -/
def execClusterIdle (cluster : Nat) (s : State) : Host.Outcome State Fault Refusal :=
  let dom := 21 + cluster
  if 32 ≤ cluster then (if cluster < 53 then s.gateIdle (cluster - 32) else .next s)
  else if !(s.dev.alive) ∨ !(s.clusterIdle cluster) then .next s
  else match s.dev.transOf dom with
    | some _ => done (s.startEntry dom)
    | none =>
      if s.dev.domState dom = 0 ∧ 1 ≤ s.dev.rf (R.pwrDomctl dom) 42 40 ∧ 1 ≤ s.dev.domLowest dom then done (s.domMove dom 1)
      else .next s

/-- IDLE_TIMEOUT (R453, R454): a cluster idle for IDLEUS with AUTO 2 or 3 enters retention or off, or the lowest state the hold
permits. -/
def execIdleTimeout (cluster : Nat) (s : State) : Host.Outcome State Fault Refusal :=
  let dom := 21 + cluster
  let auto := s.dev.rf (R.pwrDomctl dom) 42 40
  let tgt := min auto (s.dev.domLowest dom)
  if 32 ≤ cluster ∨ !(s.dev.alive) ∨ !(s.clusterIdle cluster) ∨ auto < 2 ∨ (s.dev.transOf dom).isSome ∨ tgt ≤ s.dev.domState dom ∨
      3 < s.dev.domState dom then .next s
  else if tgt = 1 then done (s.domMove dom 1)
  else done ((s.domEntry dom tgt).onDev (fun d => d.beginTrans dom { tgt := tgt, req := false, exit := false, idle := false }))

/-- Begin the wake of a domain that is below on; during an entry the wake is kept for its end (R455, R459). -/
def Dev.beginWake (d : Dev) (dom : Nat) (exit : Bool) : Dev :=
  if d.domState dom = 0 ∨ !(d.part.order.domain dom) ∨ Tab.get (fun _ => false) d.pwr.down dom then d
  else match d.transOf dom with
    | some t => if t.tgt = 0 ∨ t.idle then d else d.wake dom
    | none => d.beginTrans dom { tgt := 0, req := false, exit := exit, idle := false }

/-- Leave watch for a wake source (R463, R464). -/
def State.watchExit (s : State) (src : Nat) : State :=
  if s.dev.pwr.mode ≠ .watch then s
  else
    s.onDev (fun d =>
      let slept := (List.range 4).filter (fun q => decide (d.domState (5 + q) = 2))
      let d1 := d.setReg R.pwrWakecause (d.reg R.pwrWakecause ||| word (2 ^ src))
      let d2 : Dev := { d1 with pwr := { d1.pwr with mode := .up, seqRun := [] } }
      let role (g : Nat) : Bool := (List.range 16).any (fun i => match portRec d.felt.cfg (16 * g + i) with
        | some (_, _, r, _) => decide (r ≠ 0)
        | none => false)
      let doms := [5, 6, 7, 8] ++ ([9, 10, 11, 12].filter (fun x => rangesUse d.felt.cfg x)) ++ [2] ++
        (([13, 14, 15, 16, 17, 18, 19, 20] : List Nat).filter (fun x => role (x - 13))) ++ [4] ++
        (((List.range 32).filter (fun c => (clusterOwner d.felt.cfg c).isSome && decide (d.rf (R.pwrDomctl (21 + c)) 42 40 = 0))).map
          (fun c => 21 + c))
      let d3 := doms.foldl (fun d x => d.beginWake x true) d2
      let d4 := (d3.armed.filter (fun c => decide (0x01000000 ≤ c) && slept.contains ((c - 0x01000000) / 0x10000 / 8))).foldl
        (fun d c => d.markSkip c) d3
      (d4.pwrEvent 5).showDevState)

/-- A wake source acts: the device leaves watch when WAKEEN enables it. -/
def State.wakeSource (s : State) (src : Nat) : State :=
  if bit (s.dev.reg R.pwrWakeen) src then s.watchExit src else s

/-- Whether an input-pin source is pending and unmasked (R463). -/
def Dev.pinWakes (d : Dev) : Bool := d.pendingSrcs.any (fun n => decide (0x300 ≤ n) && decide (n < 0x400) && !(d.masked n))

/-- Whether a cluster has a wake event: an interrupt assigned to one of its cores, or a READY context while no core of SLCORES
is on (R455). (DEDUCED, log entry 87.) -/
def Dev.clusterWoken (d : Dev) (c : Nat) : Bool :=
  d.ic.asg.any (fun e => match e.2 with
    | some k => decide (k / 8 = c)
    | none => false) ||
  (decide ((d.ready c) ≠ []) && decide (d.rf (R.cluSlcores c) 7 0 ≠ 0))

/-- DOMAIN_WAKE (R455, R463): a domain below on wakes when a wake event waits for it; in watch an access to a domain of 5 to 12,
or an enabled pin source, ends watch. -/
def execDomainWake (dom : Nat) (s : State) : Host.Outcome State Fault Refusal :=
  let asked := Tab.get (fun _ => false) s.dev.wakes dom
  if 53 ≤ dom ∨ !(s.dev.alive) ∨ s.dev.domState dom = 0 then
    .next (if asked && decide (s.dev.domState dom = 0) then s.onDev (fun d => { d with wakes := Tab.set (fun _ => false) d.wakes dom false }) else s)
  else if s.dev.pwr.mode = .watch then
    if asked ∧ 5 ≤ dom ∧ dom ≤ 12 then done (s.watchExit 4)
    else if s.dev.pinWakes then done (s.wakeSource 5)
    else if asked ∧ dom < 21 then done (s.onDev (fun d => d.beginWake dom false))
    else .next s
  else if asked || (decide (21 ≤ dom) && s.dev.clusterWoken (dom - 21)) then done (s.onDev (fun d => d.beginWake dom false))
  else .next s

/-- WAKE_LEAD (R457): a cluster begins to wake LEAD µs before an enabled mark of action 0. DEDUCED (log entry 25): LEAD in angle
units is rounded to the nearest, as the worked example of 16 gives it. -/
def execWakeLead (cluster : Nat) (s : State) : Host.Outcome State Fault Refusal :=
  let dom := 21 + cluster
  let lead := s.dev.rf (R.pwrDomctl dom) 23 12
  let l := (lead * 1000 * atbRate s.dev.atbFreq + 2 ^ 31) / 2 ^ 32
  if 32 ≤ cluster ∨ !(decide (s.dev.pwr.mode = .up)) ∨ lead = 0 ∨ s.dev.domState dom = 0 then .next s
  else if (List.range 16).any (fun m =>
      let w := s.dev.reg (R.cluMkctl cluster m)
      bit w 31 && decide (fld w 29 27 = 0) && atOrAfter s.dev.now (s.dev.reg (R.cluMkangle cluster m) - word l)) then
    done (s.onDev (fun d => d.beginWake dom false))
  else .next s

/-- Whether DEVCMD holds a command in progress. -/
def Dev.devGo (d : Dev) (n : Nat) : Bool := bit (d.reg R.pwrDevcmd) 63 && decide (d.rf R.pwrDevcmd 1 0 = n)

/-- DEVCMD completes. -/
def Dev.devDone (d : Dev) (st : Nat) : Dev := (d.setRf R.pwrDevcmd 63 63 0).setRf R.pwrDevcmd 11 8 st

/-- The state of a cluster in watch, limited by its hold (R441, R461). -/
def Dev.watchState (d : Dev) (c : Nat) : Nat := min (d.rf (R.pwrDomctl (21 + c)) 11 9) (d.domLowest (21 + c))

/-- The clusters that watch entry must still change (R461). -/
def Dev.watchLeft (d : Dev) : List Nat :=
  (List.range 32).filter (fun c => d.part.order.cluster c && decide (d.domState (21 + c) ≠ d.watchState c))

/-- The domains a quadrant's stops carry: clusters, DRAM group, lane groups and the I/O stop's domain (R14, R461). (DEDUCED, log entry 197.) -/
def carried (q : Nat) : List Nat :=
  ((List.range 8).map (fun i => 21 + 8 * q + i)) ++ [9 + q, 13 + 2 * q, 14 + 2 * q] ++
  (if q = 0 then [4] else if q = 1 then [1] else if q = 2 then [3] else [2])

/-- The service cores write the AVS records of all rails (R473); they are valid for this board (R491). -/
def State.saveAvs (s : State) (qs : List Nat) : State :=
  if s.dev.reg R.errSerial = 0 then s
  else (qs.foldl (fun s q => s.nvRecord (savedRail q) (bytesLE 64 (s.dev.rf (R.pwrAvs q) 31 16))) s).modBlock 1 (fun bs =>
    let b0 := if leAt bs 0 8 = (s.dev.reg R.errSerial).toNat then bs
      else lePut (List.replicate 64 0#8) 0 8 (s.dev.reg R.errSerial).toNat
    qs.foldl (fun bs q => putBit bs 0x0A q true) b0)

/-- Watch is entered: the domains other than clusters take their states, each limited by its hold (R461). -/
def State.enterWatch (s : State) : State :=
  let mv (s : State) (dom st : Nat) : State := s.domMove dom (min st (s.dev.domLowest dom))
  let s0 := s.saveAvs [0, 1, 2, 3]
  let allLow := (List.range 32).all (fun c => !(s.dev.part.order.cluster c) || decide (2 ≤ s.dev.domState (21 + c)))
  let s1 := if allLow then
      (((List.range 4).map (fun i => 9 + i)).filter (fun x => decide (s.dev.domState x < 2))).foldl
        (fun s x => mv (s.saveDram ((List.range 4).map (fun i => 4 * (x - 9) + i))) x 2) s0
    else s0
  let s2 := ([4, 13, 14, 15, 16, 17, 18, 19, 20, 2] : List Nat).foldl (fun s x => mv s x 3) s1
  let s3 := mv s2 3 1
  let s4 := (List.range 4).foldl (fun s q =>
    if (carried q).all (fun x => !(s.dev.part.order.domain x) || decide (2 ≤ s.dev.domState x)) then mv s (5 + q) 2 else s) s3
  s4.onDev (fun d => (({ d with pwr := { d.pwr with mode := .watch, seqRun := [] } }).devDone 0).showDevState)

/-- WATCH (R461): clusters that are idle and have no request in progress take their watch states; once every one has, the device
enters watch. -/
def execWatch (s : State) : Host.Outcome State Fault Refusal :=
  if !(s.dev.devGo 1) || decide (s.dev.pwr.mode ≠ .up) then .next s
  else
    let s1 := s.dev.watchLeft.foldl (fun s c =>
      if s.clusterIdle c && (s.dev.transOf (21 + c)).isNone then s.domMove (21 + c) (s.dev.watchState c) else s) s
    done (if s1.dev.watchLeft = [] then s1.enterWatch else s1)

/-- WATCH_ENTRY_TIMEOUT (R461): a cluster that must change was not idle within 10 ms. -/
def execWatchEntryTimeout (s : State) : Host.Outcome State Fault Refusal :=
  if s.dev.devGo 1 && decide (s.dev.pwr.mode = .up) && s.dev.watchLeft.any (fun c => !(s.clusterIdle c)) then
    done (s.onDev (fun d => d.devDone 7))
  else .next s

/-- WATCH_SEQUENCER_INTERVAL (R462): the RMS values of the sense inputs compared are recorded and judged; the WCOUNT-th
consecutive one out of range is a sequencer wake. -/
def execWatchSequencerInterval (rms : List Nat) (s : State) : Host.Outcome State Fault Refusal :=
  if s.dev.pwr.mode ≠ .watch ∨ !(bit (s.dev.reg R.pwrWatchctl) 63) then .next s
  else
    let s1 := s.onDev (fun d => (List.range 6).foldl (fun d i =>
      let w := d.reg (R.pwrWatchthr i)
      if bit w 0 then
        let v := min 0xFFFF (rms.getD i 0)
        let n := if v < fld w 47 32 ∨ fld w 63 48 < v then Tab.get (fun _ => 0) d.pwr.seqRun i + 1 else 0
        let d1 := d.setRf (R.pwrWatchthr i) 31 16 v
        { d1 with pwr := { d1.pwr with seqRun := Tab.set (fun _ => 0) d1.pwr.seqRun i n } }
      else d) d)
    let due := (List.range 6).any (fun i => decide (s1.dev.rf R.pwrWatchctl 7 4 ≤ Tab.get (fun _ => 0) s1.dev.pwr.seqRun i) &&
      decide (1 ≤ Tab.get (fun _ => 0) s1.dev.pwr.seqRun i))
    done (if due then s1.wakeSource 2 else s1)

/-- The frequency of a cluster and the limit in force (R471); 5: no measurement since the start, the starting value (R473). -/
def Dev.freqOf (d : Dev) (c : Nat) : Nat × Nat :=
  match Tab.find d.pwr.fmax c with
  | none => (1000, 5)
  | some fm =>
    let pin := (clusterOwner d.felt.cfg c).bind (freqPin d.felt.cfg)
    let lims : List (Nat × Nat) := (match pin with
      | some m => [(m, 1)]
      | none => [(d.rf (R.cluFreqreq c) 15 0, 0), (d.pwr.capLim, 2)]) ++ [(d.pwr.thLim, 3), (fm, 4)]
    let best := lims.foldl (fun a b => if b.1 < a.1 then b else a) (topMhz + 1, 0)
    (best.1 / 25 * 25, best.2)

/-- FREQSTAT and CAPACT show the frequencies (R471, PWR.STATUS). -/
def Dev.showFreq (d : Dev) : Dev :=
  let d1 := ((List.range 32).filter d.part.order.cluster).foldl (fun d c =>
    let f := d.freqOf c
    (d.setRf (R.cluFreqstat c) 63 48 f.1).setRf (R.cluFreqstat c) 47 44 f.2) d
  d1.setRf R.pwrStatus 7 7 ((List.range 32).any (fun c => d1.part.order.cluster c && decide ((d1.freqOf c).2 = 2))).toNat

/-- FREQREQ_WRITE (R471): a bound-checked write of CLU.FREQREQ. -/
def execFreqreqWrite (rq : Req) (cluster : Nat) (value : Word) (s : State) : Host.Outcome State Fault Refusal :=
  let s1 := s.regWrite rq (R.cluFreqreq (cluster % 32)) 8 value
  done (if s1.dev.alive then s1.onDev (fun d => d.showFreq) else s1)

/-- CAP_WRITE (R475): a bound-checked write of PWR.CAP. -/
def execCapWrite (rq : Req) (value : Word) (s : State) : Host.Outcome State Fault Refusal := done (s.regWrite rq R.pwrCap 8 value)

/-- AVS_LOOP_STEP (R471, R472): every 10 µs a quadrant's rail moves 5 mV towards the highest voltage any of its running clusters
needs (`need`, in mV with the margin, and `fmax`, in MHz, as measured for its eight clusters), within the part's limits. (DEDUCED, log entry 196.) -/
def execAvsLoopStep (quad : Nat) (need fmax : List Nat) (vout iout : Nat) (inBand : Bool) (s : State) :
    Host.Outcome State Fault Refusal :=
  if 4 ≤ quad ∨ !(s.dev.alive) then .next s
  else
    done (s.onDev (fun d =>
      let cs := (List.range 8).filter (fun i => d.part.order.cluster (8 * quad + i) && decide (d.domState (21 + 8 * quad + i) ≤ 1))
      let tgt := max d.part.vmin (min (d.part.vmax / 5 * 5) (((cs.map (fun i => need.getD i 0)).foldl max 0 + 4) / 5 * 5))
      let r := R.pwrAvs quad
      let v := d.rf r 31 16
      let v1 := if cs = [] ∨ v = tgt then v else if v < tgt then min tgt (v + 5) else max tgt (v - 5)
      let n := if inBand then min 100 (Tab.get (fun _ => 0) d.pwr.band quad + 1) else 0
      let d1 := (((d.setRf r 31 16 v1).setRf r 63 48 vout).setRf r 47 32 iout).setRf r 0 0 (decide (n = 100)).toNat
      let d2 : Dev := { d1 with pwr := { d1.pwr with
        band := Tab.set (fun _ => 0) d1.pwr.band quad n
        fmax := cs.foldl (fun t i => Tab.ins t (8 * quad + i) (fmax.getD i 0)) d1.pwr.fmax } }
      d2.showFreq))

/-- DROOP (R472): a droop stretches a cluster's clock for some cycles. -/
def execDroop (cluster cycles : Nat) (s : State) : Host.Outcome State Fault Refusal :=
  if s.dev.part.order.cluster cluster && s.dev.alive then .next (s.onDev (fun d => d.wrapAdd (R.cluFreqstat cluster) 31 0 cycles))
  else .next s

/-- AVS_ALERT (R470): a regulator's alert is counted. -/
def execAvsAlert (quad : Nat) (s : State) : Host.Outcome State Fault Refusal :=
  if quad < 4 ∧ s.dev.alive then done (s.onDev (fun d => (d.satInc (R.pwrAvs quad) 15 8).pwrEvent 6)) else .next s

/-- The device power in mW (R474): V × I on the AVSBus rails as last read, and `others`, the fused estimates for the other rails in
the present domain states. -/
def Dev.powerNow (d : Dev) (others : Nat) : Nat :=
  others + (List.range 4).foldl (fun n q => n + d.rf (R.pwrAvs q) 63 48 * d.rf (R.pwrAvs q) 47 32 / 100) 0

/-- The samples of the last millisecond, and their mean (R474). -/
def Dev.powerSamples (d : Dev) (others : Nat) : List Nat := (d.powerNow others :: d.pwr.samples).take 10
def Dev.powerMean (d : Dev) (others : Nat) : Nat := (d.powerSamples others).sum / (d.powerSamples others).length

/-- POWER_CAP_STEP (R474): every 100 µs the device forms its power, PWR.POWER shows the mean over 1 ms, and the cap limit moves.
(DEDUCED, log entry 195.) -/
def execPowerCapStep (others : Nat) (s : State) : Host.Outcome State Fault Refusal :=
  if !(s.dev.alive) then .next s
  else
    done (s.onDev (fun d =>
      let cap := d.rf R.pwrCap 15 0 * 1000
      let mw := d.powerMean others
      let d00 : Dev := { d with pwr := { d.pwr with samples := d.powerSamples others } }
      let d0 := d00.setRf R.pwrPower 31 0 mw
      let d1 : Dev := { d0 with pwr := { d0.pwr with capFail := d0.pwr.capFail && decide (cap < mw) } }
      let set (lim low : Nat) (d : Dev) : Dev := ({ d with pwr := { d.pwr with capLim := lim, capLow := low } }).showFreq
      if cap < mw then
        let d2 := set (max 400 (d.pwr.capLim - 100)) 0 d1
        if d.pwr.capLim ≤ 400 ∧ (List.range 32).all (fun c => !(d.part.order.cluster c) ||
            ((clusterOwner d.felt.cfg c).bind (freqPin d.felt.cfg)).isSome || decide ((d.freqOf c).1 ≤ 400)) then
          (if d.pwr.capFail then d2 else { d2 with pwr := { d2.pwr with capFail := true } }.pwrEvent 3) else d2
      else if mw * 100 < cap * 95 then
        if 10 ≤ d.pwr.capLow + 1 then set (min topMhz (d.pwr.capLim + 100)) 0 d1 else set d.pwr.capLim (d.pwr.capLow + 1) d1
      else set d.pwr.capLim 0 d1))

/-- THERMAL_LIMIT_STEP (R476): every 100 µs the hottest reading is shown and the thermal limit moves. -/
def execThermalLimitStep (hot : Int) (sensor : Nat) (s : State) : Host.Outcome State Fault Refusal :=
  if !(s.dev.alive) then .next s
  else
    done (s.onDev (fun d =>
      let tlim : Int := d.rf R.pwrThermctl 7 0
      let d1 := (d.setRf R.pwrTherm 63 56 (BitVec.ofInt 8 hot).toNat).setRf R.pwrTherm 45 40 sensor
      let set (lim low : Nat) (d : Dev) : Dev := ({ d with pwr := { d.pwr with thLim := lim, thLow := low } }).showFreq
      if tlim ≤ hot then
        let d2 := (set (max 400 (d.pwr.thLim - 200)) 0 d1).setRf R.pwrStatus 6 6 1
        if bit (d.reg R.pwrStatus) 6 then d2 else d2.pwrEvent 4
      else if hot < tlim - 2 then
        if 10 ≤ d.pwr.thLow + 1 then
          let lim := min topMhz (d.pwr.thLim + 100)
          (set lim 0 d1).setRf R.pwrStatus 6 6 (decide (lim < topMhz)).toNat
        else set d.pwr.thLim (d.pwr.thLow + 1) d1
      else set d.pwr.thLim 0 d1))

end Sys2Proof.Machine
end

