-- ==== Sys2Proof/Machine/ErrEvents.lean ====
section
/-! DEFINITION. Error records at the service cores, self-tests and repairs (17 R478 to R487). -/

namespace Sys2Proof.Machine

/-- What a record is about, for R487: two records with the same value concern one resource. -/
def ErrRec.res (r : ErrRec) : Nat :=
  (r.unit * 2 ^ 16 + r.inst) * 2 ^ 64 + (if r.unit = 6 ∨ r.unit = 4 then 0 else leAt r.detail 0 8)

/-- Whether a record is of an SRAM row or way, or of a core's arrays (R484). (DEDUCED, log entry 210.) -/
def ErrRec.sram (r : ErrRec) : Bool := [1, 2, 3, 12, 13].contains r.unit && (decide (r.kind = 1) || decide (r.kind = 2))
def ErrRec.arrays (r : ErrRec) : Bool := (decide (r.unit = 1) || decide (r.unit = 2)) && decide (r.kind = 3)

/-- The SRAM structure, row and way of a record (R478 DETAIL). -/
def ErrRec.array (r : ErrRec) : Nat := leAt r.detail 0 2

/-- The leaky bucket of a record's resource (R486): its BKTCFG and its key. (DEDUCED, log entry 134.) -/
def ErrRec.bucket (r : ErrRec) : Nat × Nat :=
  let key (u : Nat) : Nat := (u * 2 ^ 16 + r.inst) * 2 ^ 64
  if r.sram then (0, key r.unit + 2 ^ 63 + leAt r.detail 0 6)
  else if r.unit = 6 then (2, key 6)
  else if r.unit = 5 then (3, key 5)
  else if r.unit = 4 then (4, key 4)
  else (1, key 1)

/-- The error that hardware reports as a record of R478: an array's structure, row and way in DETAIL. -/
def Dev.observe (d : Dev) (quad : Nat) (e : HwErr) : Dev :=
  let fl := (if e.secure then 1 else 0) + (if e.addr.isSome then 2 else 0)
  let det := if 1 ≤ e.kind ∧ e.kind ≤ 3 then bytesLE 2 e.array ++ bytesLE 2 e.row ++ bytesLE 2 e.way else []
  if [1, 2, 3, 12, 13].contains e.unit && decide (e.kind ≤ 3) then
    d.reportTest quad e.unit e.kind e.inst e.sev e.pond fl (e.addr.getD 0) false det
  else d.report quad e.unit e.kind e.inst e.sev 0 e.pond fl (e.addr.getD 0) det

/-- Whether an observation is one that hardware can make: units 4 to 6 report through commands of their own. (DEDUCED, log entry 211.) -/
def hwErrOk (e : HwErr) (o : Order) (quad : Nat) : Bool :=
  decide (1 ≤ e.kind) && decide (e.kind ≤ 5) && decide (1 ≤ e.unit) && decide (e.unit ≤ 15) &&
  !([4, 5, 6].contains e.unit) && decide (e.sev ≤ 3) && (decide (e.pond < 32) || decide (e.pond = 0xFF)) &&
  (if e.unit ≤ 2 then o.core e.inst && decide (quadOf (e.inst / 8) = quad)
   else if e.unit = 3 then o.cluster e.inst && decide (quadOf e.inst = quad)
   else if e.unit = 13 then decide (e.inst = quad) else decide (quad < 4))

/-- Whether a record concerns what another one has under test (R487). -/
def ErrRec.sameTest (r t : ErrRec) : Bool :=
  decide (r.res = t.res) || (t.arrays && decide (r.unit ≤ 2) && decide (1 ≤ r.unit) && decide (r.inst = t.inst))

/-- The dirty lines of a cache's row are written back before its test (R484). -/
def State.rowOut (s : State) (r : ErrRec) : State :=
  let row := leAt r.detail 2 2
  let agent := if r.unit = 13 then 256 + r.inst else r.inst
  let ls := if r.array = 7 then
      (s.mem.dir.filter (fun e => e.2.llcd && decide (e.1 % 4096 = row) && decide (s.dev.home (e.1 * 64) = r.inst))).map (·.1)
    else if r.array = 4 ∨ r.array = 10 then
      (sameSet s.mem.l2 agent (row + (s.dev.l2Geom agent).1 * 2 ^ 36) (s.dev.l2Geom agent).1).filter (fun l => decide (s.mem.l2st agent l = .m))
    else []
  ls.foldl (fun s l => s.cwb l) s

/-- A record's test begins (R484): a core's arrays are tested after its contexts have left it, a cache's row after its dirty lines have
been written back. None: it cannot begin yet. -/
def State.beginTest (s : State) (r : ErrRec) : Option State :=
  let put (s : State) (stopped : Bool) : State := s.onDev (fun d => { d with err := { d.err with testing := d.err.testing ++ [(r, stopped)] } })
  if r.arrays then
    let stopped := decide ((s.core r.inst).run = .stopped)
    (s.emptyCore r.inst).map (fun s1 => put (s1.modCore r.inst (fun c => { c with run := .selfTest })) stopped)
  else some (put (if r.sram then s.rowOut r else s) false)

/-- A line whose data an array has lost (R255): the copy held there is poisoned; L1I refetches its line from L2. -/
def MemSt.poisonIn (m : MemSt) (unit inst array line : Nat) : MemSt :=
  if unit = 1 ∧ array = 1 then { m with l1i := setKeyed m.l1i inst line false }
  else
    let agent := if unit = 13 then 256 + inst else inst
    if unit = 3 then (if (m.dirE line).llcv then m.setDir line { m.dirE line with llcp := true } else m)
    else if (unit ≤ 2 ∨ unit = 13) ∧ m.l2st agent line ≠ .i then m.setPois agent line true
    else m.poisonNewest line

/-- A read of the record store's MRAM was corrected, or was uncorrectable and returns POISONED (R510, NVS.EVENT): the line does so until
it is written again. (DEDUCED, log entry 211.) -/
def State.nvRead (s : State) (corr : Bool) (a : Nat) : State :=
  if corr then s.onDev (fun d => d.nvsEvent 1)
  else (s.onDev (fun d => d.nvsEvent 2)).onMem (fun m => m.setPoison (a / 64) true)

/-- ERROR_RECORD (R480, R487): an error that hardware reports with the command joins the records waiting at the quadrant's service
core, which takes the oldest: it joins a test in progress, or its test begins, or it is complete. -/
def execErrorRecord (quad : Nat) (obs : Option HwErr) (s : State) : Host.Outcome State Fault Refusal :=
  let bad : Bool := match obs with
    | some e => !(hwErrOk e s.dev.part.order quad)
    | none => false
  if bad ∨ 4 ≤ quad ∨ !(s.dev.alive || s.dev.starting) ∨ 1 < s.dev.domState (5 + quad) then .next s
  else
    let s0 := match obs with
      | some e =>
        let s1 := s.onDev (fun d => d.observe quad e)
        match e.addr with
        | some a => if e.unit = 10 ∧ e.kind = 1 ∧ nvBase ≤ a ∧ a < nvBase + nvSize then s1.nvRead (decide (e.sev = 0)) a
          else if e.sev = 1 ∧ s1.dev.dramExists a then s1.onMem (fun m => m.poisonIn e.unit e.inst e.array (a / 64)) else s1
        | none => s1
      | none => s
    match s0.dev.err.waiting.find? (fun r => decide (r.quad = quad)) with
    | none => .next s0
    | some r =>
      let s1 := s0.onDev (fun d => { d with err := { d.err with waiting := d.err.waiting.erase r } })
      if r.cls ≠ 0 then done (s1.finishRec r)
      else if s.dev.starting then done (s1.finishRec { r with cls := 3 })
      else if s1.dev.err.testing.any (fun t => r.sameTest t.1) then
        done (s1.onDev (fun d => { d with err := { d.err with testing := d.err.testing.map (fun t =>
          if r.sameTest t.1 then ({ t.1 with count := satAdd 0xFFFF t.1.count 1 }, t.2) else t) } }))
      else
        match s1.beginTest r with
        | some s2 => done s2
        | none => done s0

/-! ### The end of a test -/

/-- Whether a test can end: a lane's needs the lane freed (R371). -/
def Dev.testReady (d : Dev) (r : ErrRec) : Bool :=
  if r.unit = 6 then decide (d.laneState r.inst = 4) && !(bit (d.reg (R.laneTest r.inst)) 63) else true

/-- A core is retired (R485): its caches are written back (R255), it is emptied, leaves every invalidation and CLU.SLCORES, and the start record names it; a cluster
whose present cores are all retired is retired too. -/
def State.retireCore (s : State) (k : Nat) : State :=
  let c := k / 8
  let s1 := ((s.flushAgent k).ackTlb k).onDev (fun d => (d.dropCore k).setRf (R.cluSlcores c) (k % 8) (k % 8) 0)
  let s2 := (s1.bareCore k).modCore k (fun x => { x with run := .retired, mcPend := [] })
  let all := (List.range 8).all (fun i => !(s2.dev.part.order.core (8 * c + i)) || decide ((s2.core (8 * c + i)).run = .retired))
  s2.modBlock 2 (fun bs => let b1 := putBit bs 0 k true; if all then putBit b1 0x20 c true else b1)

/-- A core enters shared-port mode (R175, R176, R485): its L1I is retired in the start record. -/
def State.sharedPort (s : State) (k : Nat) : State :=
  let s1 := s.modCore k (fun c => { c with
    b0 := { c.b0 with ms := setBit c.b0.ms 8 true }, b1 := { c.b1 with ms := setBit c.b1.ms 8 true } })
  s1.modBlock 3 (fun bs => putBit bs 0 k true)

/-- The ways of a structure (R233; a TLB's are a free value, log entry 20). -/
def arrayWays (a : Nat) : Nat :=
  if a = 1 then 4 else if a = 2 ∨ a = 4 ∨ a = 10 then 8 else if a = 3 then Config.tlbWays else if a = 7 ∨ a = 8 then 16 else 0

/-- A core retires, or enters shared-port mode, for a row of its caches. None: its contexts cannot leave yet. -/
def State.rowCore (s : State) (k : Nat) (l1i : Bool) : Option (State × Nat) :=
  (s.emptyCore k).map (fun s1 => if l1i then (s1.sharedPort k, 4) else (s1.retireCore k, 3))

/-- The repair of a lasting fault in an SRAM row (R485): a spare; a way disabled, up to half the ways; then the core, or a
device-fatal error. The answer holds ACTION and whether the error is device-fatal. -/
def State.repairRow (s : State) (r : ErrRec) (spare : Bool) : Option (State × Nat × Bool) :=
  if spare then some (s, 1, false)
  else
    let key := (r.unit * 2 ^ 16 + r.inst) * 2 ^ 16 + r.array
    let n := Tab.get (fun _ => 0) s.dev.err.ways key
    if n < arrayWays r.array / 2 then
      some (s.onDev (fun d => { d with err := { d.err with ways := Tab.set (fun _ => 0) d.err.ways key (n + 1) } }), 2, false)
    else if r.unit ≤ 2 then (s.rowCore r.inst (decide (r.array = 1))).map (fun x => (x.1, x.2, false))
    else if r.unit = 12 then some (s, 0, false)
    else some (s, 0, true)

/-- A tested core returns to service, from reset: the test has used its arrays (log entry 21). -/
def State.backInService (s : State) (k : Nat) (stopped : Bool) : State :=
  if stopped then s.modCore k (fun c => { c with run := .stopped })
  else s.startCore k

/-- ACTION of an uncorrectable DRAM error: the migration or failure of the rank it led to (R313, R316). -/
def State.dramAct (s : State) (r : ErrRec) : Nat :=
  let c := s.dev.chan (r.inst / 4)
  if r.sev = 0 then 0
  else if (c.mig.map (·.1)) = some (r.inst % 4) then 7 else if c.failed.testBit (r.inst % 4) then 8 else 0

/-- The repair of a lasting fault, with its ACTION and whether it is device-fatal (R485). `over`: it is lasting by its bucket. -/
def State.repair (s : State) (r : ErrRec) (stopped excess l1i spare : Bool) : Option (State × Nat × Bool) :=
  if r.sram then s.repairRow r spare
  else if r.arrays then
    if l1i then some ((s.sharedPort r.inst).backInService r.inst stopped, 4, false)
    else some (s.retireCore r.inst, 3, false)
  else if r.unit = 6 then
    let freed := Tab.get (fun _ => false) s.dev.lane.freed r.inst
    let l := r.inst
    let g := l / 17
    let s1 := s.onDev (fun d => d.laneTested l false)
    let s2 := s1.modBlock 4 (fun bs =>
      let b1 := putBit bs 0 l true
      if s1.dev.spareState g = 3 then lePut b1 (0x18 + g) 1 (0x80 + s1.dev.rf (spareReg g) 11 8) else b1)
    some (s2, if freed then 5 else 6, false)
  else if r.unit = 5 then
    let ch := r.inst / 4
    let rank := r.inst % 4
    let c := s.dev.chan ch
    if excess ∧ c.mig = none then
      match c.spareFor rank with
      | some t => some ((s.onDev (fun d => d.startMig ch rank t false)).saveSpare ch, 7, false)
      | none => some (s, s.dramAct r, false)
    else some (s, s.dramAct r, false)
  else if r.unit = 4 then some (s, 9, true)
  else some (s, 0, true)

/-- A tested resource returns to service (R485). -/
def State.passed (s : State) (r : ErrRec) (stopped : Bool) : State :=
  if r.arrays then s.backInService r.inst stopped
  else if r.unit = 6 then s.onDev (fun d => d.laneTested r.inst true)
  else if r.unit = 4 then s.onDev (fun d => ({ d with net := Tab.set (fun _ => 0) d.net r.inst 0 } : Dev).nocRun)
  else s

/-- SELF_TEST_COMPLETE (R485, R486): the oldest test of the quadrant that can end ends. A passing one is transient and adds to the
resource's bucket; a failing one, or a bucket above its limit, is lasting and is repaired. A rank's bucket takes every error. -/
def execSelfTestComplete (quad : Nat) (pass l1i spare : Bool) (s : State) : Host.Outcome State Fault Refusal :=
  match s.dev.err.testing.find? (fun t => decide (t.1.quad = quad) && s.dev.testReady t.1) with
  | none => .next s
  | some t =>
    let r := t.1
    let (k, key) := r.bucket
    let lim := s.dev.rf (R.errBktcfg k) 63 48
    let lvl := Tab.get (fun _ => 0) s.dev.err.bucket key + (if r.unit = 5 ∧ r.sev = 0 then 1 + r.count else if pass then 1 else 0)
    let excess := decide (lim < lvl) && (pass || decide (r.unit = 5))
    let s1 := s.onDev (fun d => { d with err := { d.err with
      testing := d.err.testing.erase t, bucket := Tab.set (fun _ => 0) d.err.bucket key lvl } })
    if pass && !excess then done ((s1.passed r t.2).finishRec { r with cls := 1, act := if r.unit = 5 then s1.dramAct r else 0 })
    else
      match s1.repair r t.2 excess l1i spare with
      | none => .next s
      | some (s2, act, fatal) =>
        let r1 := { r with cls := 2, act := act, sev := if fatal then 3 else r.sev, flags := if excess then r.flags ||| 4 else r.flags }
        done ((if fatal then s2.onDev Dev.fatal else s2).finishRec r1)
/-- BUCKET_LEAK (R486): after LEAKSEC seconds a bucket above 0 loses one. -/
def execBucketLeak (key : Nat) (s : State) : Host.Outcome State Fault Refusal :=
  let n := Tab.get (fun _ => 0) s.dev.err.bucket key
  if n = 0 then .next s
  else .next (s.onDev (fun d => { d with err := { d.err with bucket := Tab.set (fun _ => 0) d.err.bucket key (n - 1) } }))

end Sys2Proof.Machine
end

