-- ==== Sys2Proof/Machine/LaneEvents.lean ====
section
/-! DEFINITION. The commands of lanes: training, spares, faults and tests (13 R366 to R373, R386). -/

namespace Sys2Proof.Machine

/-- The far end's unique ID of a lane: of the spare, of a weir port's neighbour, or 0 (R368). -/
def Dev.farUid (d : Dev) (l : Nat) : Word :=
  if d.lanePort l = 0xFF then d.reg (R.laneSpnuid l)
  else match d.portOf (d.lanePort l) with
    | some (f, _, 1, _) => d.reg (R.wptNuid f)
    | _ => 0

/-- The service cores write the settings of lanes (R368); they are valid for this board (R491). -/
def State.saveLaneList (s : State) (ls : List Nat) : State :=
  if ls = [] ∨ s.dev.reg R.errSerial = 0 then s
  else
    let s1 := ls.foldl (fun s l =>
      s.saveLaneRec l (s.dev.reg (R.laneEq l)) (Tab.get (fun _ => 0) s.dev.lane.rx l) (s.dev.farUid l)) s
    s1.modBlock 1 (fun bs =>
      let b0 := if leAt bs 0 8 = (s.dev.reg R.errSerial).toNat then bs
        else lePut (List.replicate 64 0#8) 0 8 (s.dev.reg R.errSerial).toNat
      ls.foldl (fun bs l => putBit bs 0x10 l true) b0)

/-- The records of a weir port's lanes whose far end reports another unique ID are replaced (R368). -/
def State.relane (s : State) (p : Nat) : State :=
  s.saveLaneList ((s.dev.portLanes p).filter (fun l => s.blockBit 1 0x10 l && decide ((s.keptLane l).2.2 ≠ s.dev.farUid l)))

/-- LANE_TRAINING_DONE (R366 to R369): a lane locks with its equaliser settings, which the quadrant's service core saves; the last
lane of an Ethernet port brings its link up. `ctle`, `taps` and `rx` are the settings found. -/
def execLaneTrainingDone (lane ctle taps rx : Nat) (s : State) : Host.Outcome State Fault Refusal :=
  if s.dev.laneState lane ≠ 1 ∨ !(s.dev.part.order.lane lane) then .next s
  else
    let g := lane / 17
    let d0 := s.dev.setReg (R.laneEq lane) (setFld (setFld 0 63 60 ctle) 29 0 taps)
    let d1 : Dev := { d0 with lane := { d0.lane with rx := Tab.set (fun _ => 0) d0.lane.rx lane (rx % 2 ^ 384) } }
    let fin (d : Dev) : Host.Outcome State Fault Refusal := done (({ s with dev := d } : State).saveLaneList [lane])
    if lane = s.dev.spareLane g ∧ s.dev.lanePort lane = 0xFF then
      fin ((d1.setLane lane 3).setRf (spareReg g) 62 60 2)
    else
      let d2 := d1.setLane lane 2
      match d2.portOf (d2.lanePort lane) with
      | some (f, _, 2, _) => fin (if d2.portLocked f then d2.ethLink f true else d2)
      | _ => fin d2

/-- SAVED_TRAINING_TIMEOUT (R368): no FEC lock within 20 ms from saved settings: the full search begins. -/
def execSavedTrainingTimeout (lane : Nat) (s : State) : Host.Outcome State Fault Refusal :=
  if s.dev.laneState lane = 1 ∧ bit (s.dev.reg (R.laneStatus lane)) 1 then
    done (s.onDev (fun d => d.setRf (R.laneStatus lane) 1 1 0))
  else .next s

/-- RESERVE_CODEWORD (R369, R370, R373): the far end's unique ID, and its request or acknowledgement. (DEDUCED, log entry 162.) -/
def execReserveCodeword (group : Nat) (uid request : Word) (s : State) : Host.Outcome State Fault Refusal :=
  let st := s.dev.spareState group
  if 8 ≤ group ∨ (st ≠ 2 ∧ st ≠ 3) then .next s
  else
    let d := s.dev.setReg (R.laneSpnuid (s.dev.spareLane group)) uid
    let sp := d.spare group
    let l := fld request 3 0
    let d1 :=
      if bit request 8 then
        (match sp.ask with
         | some (a, t) => if a = l then d.setSpare group { sp with ask := none, sw := some (l, t) } else d
         | none => d)
      else d
    let sp1 := d1.spare group
    if !(bit request 7) ∨ st = 3 ∨ sp1.sw.isSome then done { s with dev := d1 }
    else
      match sp1.ask with
      | some (a, t) =>
        if a = l then done { s with dev := d1.setSpare group { sp1 with ask := none, sw := some (l, t), ack := some l } }
        else if d1.part.uid < uid.toNat then done { s with dev := d1 }
        else
          let d2 := d1.askRefused group
          done { s with dev := d2.setSpare group { d2.spare group with sw := some (l, false), ack := some l } }
      | none => done { s with dev := d1.setSpare group { sp1 with sw := some (l, false), ack := some l } }

/-- SPARE_REQUEST_TIMEOUT (R370): no acknowledgement within 1 ms. (DEDUCED, log entry 160.) -/
def execSpareRequestTimeout (group : Nat) (s : State) : Host.Outcome State Fault Refusal :=
  if group < 8 ∧ (s.dev.spare group).ask.isSome then done (s.onDev (fun d => d.askRefused group)) else .next s

/-- SPARE_GO (R371): LANE.SPARE.GO has been written 1: LLANE is moved to the spare with no test. -/
def execSpareGo (group : Nat) (s : State) : Host.Outcome State Fault Refusal :=
  let r := s.dev.reg (spareReg group)
  if 8 ≤ group ∨ !(bit r 63) ∨ (s.dev.spare group).ask.isSome ∨ (s.dev.spare group).sw.isSome then .next s
  else if s.dev.spareUsable group (fld r 3 0) then done (s.onDev (fun d => d.askSpare group (fld r 3 0) false))
  else done (s.onDev (fun d => (d.setRf (spareReg group) 51 48 3).setRf (spareReg group) 63 63 0))

/-- LANE_FAULT (R371, R372): an error that starts the lane's self-test. A weir port's lane moves to a usable spare first, any
other takes its port out of service. -/
def execLaneFault (lane : Nat) (s : State) : Host.Outcome State Fault Refusal :=
  let st := s.dev.laneState lane
  if st ≠ 2 ∨ !(s.dev.part.order.lane lane) then .next s
  else
    done (s.onDev (fun d =>
      let g := lane / 17
      let l := d.rf (R.laneStatus lane) 27 24
      let d1 := d.reportTest (g / 2) 6 15 lane 2 0xFF 0 0 false []
      if (d1.logicalPort g l).isSome && d1.spareUsable g l then d1.askSpare g l true else d1.portFault lane))

/-- Whether a lane carries no port traffic (R386). -/
def Dev.laneFree (d : Dev) (l : Nat) : Bool := decide (d.lanePort l = 0xFF) || decide (d.laneState l = 5)

/-- Start a lane test of a mode (R386): on any other lane it is refused, and so is a mode the table does not name. (DESIGN CHOICE, log
entry 258.) -/
def laneTest (mode lane : Nat) (s : State) : Host.Outcome State Fault Refusal :=
  let r := s.dev.reg (R.laneTest lane)
  if !(s.dev.part.order.lane lane) ∨ !(bit r 63) ∨ (fld r 62 60 ≠ mode ∧ 1 ≤ fld r 62 60 ∧ fld r 62 60 ≤ 3) ∨ s.dev.laneState lane = 4 then .next s
  else if s.dev.laneFree lane ∧ fld r 62 60 = mode then
    done (s.onDev (fun d =>
      let d1 := (d.setReg (R.laneErrcnt lane) 0).setRf (R.laneStatus lane) 23 20 4
      { d1 with lane := { d1.lane with was := Tab.set (fun _ => 0) d1.lane.was lane (d.laneState lane) } }))
  else done (s.onDev (fun d => (d.setRf (R.laneTest lane) 43 40 3).setRf (R.laneTest lane) 63 63 0))

/-- NEAR_END_LOOPBACK. -/
def execNearEndLoopback (lane : Nat) (s : State) : Host.Outcome State Fault Refusal := laneTest 1 lane s
/-- FAR_END_LOOPBACK. -/
def execFarEndLoopback (lane : Nat) (s : State) : Host.Outcome State Fault Refusal := laneTest 2 lane s
/-- PRBS_TEST. -/
def execPrbsTest (lane : Nat) (s : State) : Host.Outcome State Fault Refusal := laneTest 3 lane s

/-- LANE_TEST_END (R386): the duration ends with the errors counted. -/
def execLaneTestEnd (lane : Nat) (errors : Nat) (s : State) : Host.Outcome State Fault Refusal :=
  if bit (s.dev.reg (R.laneTest lane)) 63 && decide (s.dev.laneState lane = 4) then
    done (s.onDev (fun d =>
      let d1 := (d.setRf (R.laneTest lane) 43 40 0).setRf (R.laneTest lane) 63 63 0
      let d2 := d1.setReg (R.laneErrcnt lane) (word (min errors (2 ^ 64 - 1)))
      (d2.setRf (R.laneStatus lane) 23 20 (Tab.get (fun _ => 0) d2.lane.was lane))))
  else .next s

end Sys2Proof.Machine
end

