-- ==== Sys2Proof/Machine/Reset.lean ====
section
/-! DEFINITION. Device resets, power, supply and the loss of domains (08 R230; 14 R417; 15 R443, R444; 16 R463 to R469, R477; 17 R494,
R502; 19 R518, R521, R522). -/

namespace Sys2Proof.Machine

/-- Memory as a reset leaves it: the record store keeps its bytes, DRAM is zero before any core leaves reset (R296), caches and
buffers are discarded (R230). -/
def MemSt.afresh (m : MemSt) : MemSt := { MemSt.empty with
  img := m.img.filter (fun e => decide (nvBase ≤ e.1)), poison := m.poison.filter (fun e => decide (nvBase ≤ e.1 * 64)) }

/-- The pins as a reset leaves them: inputs, the debug port and PWRCYC_REQ_N stay (R513, R521, R523). -/
def PinSt.afresh (p : PinSt) : PinSt := { p with out := [], busHeld := false }

/-- What DEVRESET keeps of the endpoint (R417): the link, configuration space, MSI-X tables; the tags of reads sent before are not
used again for their time (R400). -/
def Dev.keepLink (d old : Dev) : Dev :=
  ({ d with
    hregs := old.hregs.filter (fun e => decide (0x2000 ≤ e.1 % 2 ^ 25) && decide (e.1 % 2 ^ 25 < 0x2410))
    pep := { Pep.off with
      cfg := old.pep.cfg, ans := old.pep.ans, b2log := old.pep.b2log, errs := old.pep.errs, squash := old.pep.squash ++ old.pep.reads.map (fun r => (r.tag, r.fn)) } } : Dev).setRf
    R.pepStatus 63 55 (old.rf R.pepStatus 63 55)

/-- A device reset begins (R230, R417): `cause` is its RSTCAUSE bit, none for a wake from off; RSTCAUSE is kept. `link`: the reset
keeps the link. -/
def State.afresh (s : State) (cause : Option Nat) (link : Bool) : State :=
  let d := s.dev
  let c := d.rf R.pwrRstcause 7 0 ||| (match cause with
    | some b => 2 ^ b
    | none => 0)
  let n := Dev.off d.part c
  let n1 := (n.setRf R.pwrStatus 5 5 (d.rf R.pwrStatus 5 5)).setRf R.errStartctl 62 62 (d.rf R.errStartctl 62 62)
  let n2 : Dev := { n1 with
    pins := d.pins.afresh, digest := d.digest
    pwr := { n1.pwr with snap := d.pwr.snap, resets := if cause.isSome then (d.pwr.resets + 1) % 65536 else d.pwr.resets } }
  { s with mem := s.mem.afresh, cores := [], dev := if link then n2.keepLink d else n2 }

/-- The rails come up from nothing (R518): a power-on. -/
def State.powerOn (s : State) : State :=
  let n := Dev.off s.dev.part 1
  { s with mem := s.mem.afresh, cores := []
           dev := { n with pins := { PinSt.off with inp := s.dev.pins.inp, resetLow := s.dev.pins.resetLow } } }

/-- RESET_N (R230, R513, R522): its fall resets the device and releases THERMTRIP_N; its rise lets a start begin. -/
def execResetN (low : Bool) (s : State) : Host.Outcome State Fault Refusal :=
  if low = s.dev.pins.resetLow then .next s
  else if low then
    .next ((s.afresh (some 1) false).onDev (fun d => { d with pins := { d.pins with resetLow := true, therm := false } }))
  else .next (s.onDev (fun d => { d with pins := { d.pins with resetLow := false } }))

/-- POWER_ON (R518). -/
def execPowerOn (s : State) : Host.Outcome State Fault Refusal := .next s.powerOn

/-- The reset of DEVRESET (R417); in off nothing but RESET_N, a wake or power starts the device (R465, R477). -/
def State.devReset (s : State) : State := if s.dev.pwr.mode = .off then s else s.afresh (some 2) true

/-- UNDERVOLTAGE (R469): a rail below its limit resets the device; with VAON lost it is a power-on. -/
def execUndervoltage (vaon : Bool) (s : State) : Host.Outcome State Fault Refusal :=
  if vaon then .next s.powerOn
  else if s.dev.pwr.mode = .off then .next s
  else .next (s.afresh (some 3) false)

/-- STOPPING_HOLD_EXPIRY (R494): after 2 s in a stopping failure the device resets itself as DEVRESET does. -/
def execStoppingHoldExpiry (s : State) : Host.Outcome State Fault Refusal :=
  if s.dev.pwr.mode = .stopping then .next s.devReset else .next s

/-- Every domain but 0 is off (R465, R477): only the power unit, the record store's bytes and the pins of domain 0 stay. (DEDUCED, log entry 199.) -/
def State.toOff (s : State) : State :=
  let d := s.dev
  let keep := d.regs.filter (fun e => match blockOf e.1 with
    | some (.pwr, _, _) => true
    | some (.gid, _, _) => true
    | _ => false)
  let n : Dev := { Dev.off d.part 0 with
    regs := keep, pins := d.pins.afresh, digest := d.digest
    pwr := { PwrSt.off with mode := .off, step := d.pwr.step, snap := d.pwr.snap, resets := d.pwr.resets, cause := d.pwr.cause } }
  let n1 := ((List.range 53).filter (fun x => decide (x ≠ 0) && d.part.order.domain x)).foldl (fun d x => d.setDomState x 3) n
  { s with mem := s.mem.afresh, cores := [], dev := n1 }

/-- OFF (R465): DEVCMD OFF turns every domain but 0 off, after an entry for each cluster; a cluster request in progress completes
first (R459). -/
def execOff (s : State) : Host.Outcome State Fault Refusal :=
  if s.dev.devGo 2 && s.dev.alive && !(s.dev.pwr.trans.any (fun e => decide (21 ≤ e.1) && e.2.req)) then
    .next (((List.range 32).foldl (fun s c => s.clusterEntry c) s).toOff.onDev (fun d => d.devDone 0))
  else .next s

/-- SEC0 zeroises the key slots bound to a domain (R443, R527). -/
def Dev.zeroise (d : Dev) (dom : Nat) : Dev :=
  (List.range 16).foldl (fun d n =>
    let b := d.reg (R.secKsbind n)
    if bit b 63 ∧ fld b 5 0 = dom then
      ((List.range 8).foldl (fun d j => d.setReg (R.secKslot (8 * n + j)) 0) d).setReg (R.secKsbind n) (setBit b 63 false)
    else d) d

/-- A held domain is lost (R443): its HOLDLOST bit, an error record when the bit is new (R480), and under a secure hold the key slots
bound to it are zeroised. -/
def Dev.holdLost (d : Dev) (dom p : Nat) (sec : Bool) : Dev :=
  let d1 := d.setReg R.secHoldlost (setBit (d.reg R.secHoldlost) dom true)
  let d2 := if bit (d.reg R.secHoldlost) dom then d1 else d1.report 0 11 8 dom 2 0 p (if sec then 1 else 0) 0 []
  if sec then d2.zeroise dom else d2

/-- Every held domain that has power is lost, and its record written (R443, R477, R480). -/
def State.holdsLost (s : State) : State :=
  let doms := (List.range 53).filter (fun x => s.dev.part.order.domain x && (holdOf s.dev.felt.cfg x).isSome &&
    decide (s.dev.domState x ≠ 3) && !(Tab.get (fun _ => false) s.dev.pwr.down x))
  doms.foldl (fun s x => match holdOf s.dev.felt.cfg x with
    | some (_, sec, p) =>
      let s1 := s.onDev (fun d => d.holdLost x p sec)
      match s1.dev.err.waiting.getLast? with
      | some r => if r.kind = 8 ∧ r.inst = x then s1.finishRec r else s1
      | none => s1
    | none => s) s

/-- THERMAL_SHUTDOWN (R477, R522): a sensor 15 °C above the part's maximum, or failed: THERMTRIP_N, every domain but 0 off, the
cause in RSTCAUSE. A DOMCTL request in progress is overtaken (R452); what the secure holds held is lost. -/
def execThermalShutdown (hot : Int) (sensor : Nat) (failed : Bool) (s : State) : Host.Outcome State Fault Refusal :=
  if s.dev.pwr.mode = .off ∨ 40 ≤ sensor ∨ (!failed ∧ hot < (s.dev.tlimMax : Int) + 15) then .next s
  else
    .next (s.holdsLost.toOff.onDev (fun d =>
      let d0 := s.dev.pwr.trans.foldl (fun d e => if e.2.req then (d.setRf (R.pwrDomctl e.1) 63 63 0).setRf (R.pwrDomctl e.1) 59 56 5
        else d) d
      let d1 := ((d0.setRf R.pwrTherm 63 56 (hot % 256).toNat).setRf R.pwrTherm 45 40 sensor).setRf R.pwrTherm 0 0 failed.toNat
      let d2 := d1.setReg R.pwrRstcause (setBit (d1.reg R.pwrRstcause) 4 true)
      { d2 with pins := { d2.pins with therm := true } }))

/-- WAKE_SENSE_RISE (R463, R465): leaves watch as its wake source, or begins a full start from off. -/
def execWakeSenseRise (s : State) : Host.Outcome State Fault Refusal :=
  if s.dev.pwr.mode = .watch then done (s.wakeSource 0)
  else if s.dev.pwr.mode = .off ∧ bit (s.dev.reg R.pwrWakeen) 0 ∧ !s.dev.pins.therm then
    .next ((s.afresh none false).onDev (fun d => d.setReg R.pwrWakecause 1))
  else .next s

/-! ### The NV write floor -/

/-- FLOOR (R466, R467): supply falls below the NV write floor. -/
def execFloor (s : State) : Host.Outcome State Fault Refusal :=
  if s.dev.belowFloor then .next s
  else done (s.onDev (fun d => (d.setRf R.pwrStatus 5 5 1).pwrEvent 1))

/-- FLOORUP (R466, R467, R480, R463): supply is above the floor again; records that waited are written to the log. -/
def execFloorup (s : State) : Host.Outcome State Fault Refusal :=
  if !s.dev.belowFloor then .next s
  else
    let s1 := s.onDev (fun d => d.setRf R.pwrStatus 5 5 0)
    let s2 := s1.dev.err.defer.foldl (fun s bs => s.logWrite bs) s1
    done ((s2.onDev (fun d => ({ d with err := { d.err with defer := [] } }).pwrEvent 2)).wakeSource 1)

/-- RECORD_STORE_WRITE (R232, R467, R489, R510): a write reaches the record store at a window offset: refused by its owner check with
REFUSED_POLICY, below the floor with REFUSED_SUPPLY, else performed. -/
def execRecordStoreWrite (rq : Req) (off : Nat) (data : List Byte) (s : State) : Host.Outcome State Fault Refusal :=
  if data = [] ∨ nvSize < off + data.length then .next s
  else
    match s.gate rq (nvBase + off) data.length true with
    | (none, s1) => done (s1.nvWrite (nvBase + off) data)
    | (some _, s1) => done s1

/-! ### Loss of domains -/

/-- An agent's caches lose their lines without an entry: dirty ones are discarded, DRAM's value stands (R443). -/
def State.loseAgent (s : State) (k : Nat) : State :=
  let ls := (s.mem.l2.filter (fun e => decide (l2Key k 0 ≤ e.1) && decide (e.1 < l2Key (k + 1) 0))).map (fun e => e.1 - l2Key k 0)
  let s1 := ls.foldl (fun s l =>
    let wasM := decide (s.mem.l2st k l = .m)
    let s1 := (s.answerAll l).inval k l
    s1.onMem (fun m => (if wasM then m.discard l else m).setDir l ((m.dirE l).drop k))) s
  ((s1.ackTlb k).bareCore k).modCore k (fun c => { c with sbuf := [] })

/-- HELD_DOMAIN_LOST (R443, R444): a held domain's power-good falls without an admitted transition. Domains 0 and 3 reset the
device. -/
def execHeldDomainLost (dom : Nat) (s : State) : Host.Outcome State Fault Refusal :=
  if dom = 0 ∨ dom = 3 then (if s.dev.pwr.mode = .off then .next s else .next (s.afresh (some 5) false))
  else
    match holdOf s.dev.felt.cfg dom with
    | none => .next s
    | some (_, sec, p) =>
      if !s.dev.alive ∨ !(s.dev.part.order.domain dom) ∨ s.dev.domState dom = 3 ∨ Tab.get (fun _ => false) s.dev.pwr.down dom then .next s
      else
        let req := match s.dev.transOf dom with
          | some t => t.req
          | none => false
        let s1 := s.onDev (fun d =>
          let d1 := d.endTrans dom
          let d2 := if req then d1.domComplete dom 5 else d1
          d2.holdLost dom p sec)
        let s2 := if 21 ≤ dom then
            (List.range 8).foldl (fun s i =>
              let k := 8 * (dom - 21) + i
              (s.loseAgent k).onDev (fun d => d.dropCore k)) s1
          else s1
        done ((s2.domLose dom).onDev (fun d =>
          let d1 := d.setDomState dom 3
          { d1 with pwr := { d1.pwr with down := Tab.set (fun _ => false) d1.pwr.down dom true } }))

/-- POWER_GOOD_RETURN (R443): a lost domain comes up to on from reset. -/
def execPowerGoodReturn (dom : Nat) (s : State) : Host.Outcome State Fault Refusal :=
  if Tab.get (fun _ => false) s.dev.pwr.down dom then
    done ((s.onDev (fun d => { d with pwr := { d.pwr with down := Tab.set (fun _ => false) d.pwr.down dom false } })).domReach dom 0)
  else .next s

/-! ### Requests of the SMBus and of the board -/

/-- PWRCYC_REQ_N is asserted (R418, R521); while it is asserted a request has no effect. -/
def Dev.powerCycle (d : Dev) : Dev := { d with pins := { d.pins with pwrcyc := true } }

/-- PWRCYC_RELEASE (R521): after 200 ms. -/
def execPwrcycRelease (s : State) : Host.Outcome State Fault Refusal :=
  .next (s.onDev (fun d => { d with pins := { d.pins with pwrcyc := false } }))

/-- SMBUS_PWRCYC (R502): command 0x20 with its key. -/
def execSmbusPwrcyc (key : Nat) (s : State) : Host.Outcome State Fault Refusal :=
  if key = 0x50575243 then .next (s.onDev Dev.powerCycle) else .next s

/-- CLRFAIL (R499): FAILS, the step counters and the training counters become 0, and block 5 is emptied. -/
def State.clrFail (s : State) : State :=
  ((s.modBlock 0 (fun bs => (List.range 12).foldl (fun bs i => lePut bs (0x20 + i) 1 0) (lePut bs 0x10 1 0))).modBlock 5
    (fun _ => List.replicate 64 0#8)).onDev (fun d => d.setRf R.errStartstat 31 24 0)

/-- SMBUS_CLRFAIL (R502): command 0x21 with its key. -/
def execSmbusClrfail (key : Nat) (s : State) : Host.Outcome State Fault Refusal :=
  if key = 0x434C5246 then done s.clrFail else .next s

/-- CLRFAIL (R499): ERR.STARTCTL.CLRFAIL has been written. -/
def execClrfail (s : State) : Host.Outcome State Fault Refusal :=
  if bit (s.dev.reg R.errStartctl) 63 then done (s.clrFail.onDev (fun d => d.setRf R.errStartctl 63 63 0)) else .next s

/-- SMBUS_DEVRESET (R502): command 0x22 with its key. -/
def execSmbusDevreset (key : Nat) (s : State) : Host.Outcome State Fault Refusal :=
  if key = 0x44455652 then .next s.devReset else .next s

/-! ### Hourly records -/

/-- DRAM_RECORD_SAVE (R305): every hour of run the service cores write the training records of their running channels. -/
def execDramRecordSave (s : State) : Host.Outcome State Fault Refusal :=
  if s.dev.pwr.mode = .up then done (s.saveDram (List.range 16)) else .next s

/-- The service cores write the settings of the lanes in use (R368). -/
def State.saveLanes (s : State) : State :=
  s.saveLaneList ((List.range 136).filter (fun l => decide (s.dev.laneState l = 2) || decide (s.dev.laneState l = 3)))

/-- LANE_SETTINGS_SAVE (R368). -/
def execLaneSettingsSave (s : State) : Host.Outcome State Fault Refusal :=
  if s.dev.pwr.mode = .up then done s.saveLanes else .next s

/-- AVS_RECORD_SAVE (R473): every hour of run. -/
def execAvsRecordSave (s : State) : Host.Outcome State Fault Refusal :=
  if s.dev.pwr.mode = .up then done (s.saveAvs [0, 1, 2, 3]) else .next s

end Sys2Proof.Machine
end

