-- ==== Sys2Proof/Machine/Boot.lean ====
section
/-! DEFINITION. The start sequence BS01 to BS12 and blocking (02 R46 to R48, R59; 11 R291 to R296, R304, R305, R317; 13 R366 to R369;
16 R453, R473; 17 R490 to R499). -/

namespace Sys2Proof

/-! ### What the SPD data of the DIMMs decide (R290, R291, R304) -/

/-- The identity that a DIMM's SPD data give: manufacturer (16 bits), serial number (32) and part number (30 bytes); 0 for an empty
slot. (DESIGN CHOICE, log entry 254.) -/
def Dimm.ident (x : Dimm) : Nat := 1 + 2 * (x.maker % 2 ^ 16 + 2 ^ 16 * (x.serial % 2 ^ 32) + 2 ^ 48 * (x.part % 2 ^ 240))

/-- Whether a DIMM is one that a channel supports (R290). -/
def Dimm.supported (x : Dimm) : Bool :=
  x.rdimm && x.ecc && !x.stacked && decide (x.width = 4) && (decide (x.density = 16) || decide (x.density = 32)) &&
  (decide (x.ranks = 1) || decide (x.ranks = 2)) && [4800, 5600, 6400].contains x.rated && [4800, 5600, 6400].contains x.permits

/-- A channel's DIMMs, lower slot first. -/
def ChanObs.dimms (o : ChanObs) : List Dimm := [o.slot0, o.slot1].filterMap id

/-- The identities of a channel's two slots (R304). -/
def ChanObs.ids (o : ChanObs) : List Nat :=
  let one (x : Option Dimm) : Nat := (x.map Dimm.ident).getD 0
  [one o.slot0, one o.slot1]

/-- The ranks populated: slot 0 carries ranks 0 and 1, slot 1 ranks 2 and 3 (R290). -/
def ChanObs.ranks (o : ChanObs) : Nat :=
  let one (x : Option Dimm) : Nat := (x.map (fun y => 2 ^ min y.ranks 2 - 1)).getD 0
  one o.slot0 + 4 * one o.slot1

/-- The row width of R294, of the density of the DIMMs: 0 where no supported density gives one. -/
def ChanObs.rbits (o : ChanObs) : Nat :=
  match o.dimms with
  | x :: _ => if x.density = 16 then 16 else if x.density = 32 then 17 else 0
  | [] => 16

/-- Whether a channel's DIMMs match in density, ranks and rated speed (R291). -/
def ChanObs.alike (o : ChanObs) : Bool :=
  match o.slot0, o.slot1 with
  | some x, some y => decide (x.density = y.density) && decide (x.ranks = y.ranks) && decide (x.rated = y.rated)
  | _, _ => true

/-- The speed a channel runs at: the lowest that its DIMMs' SPD data permit (R291), as DMC.STATUS.SPEED codes it. -/
def ChanObs.speed (o : ChanObs) : Nat :=
  let r := o.dimms.foldl (fun m x => min m x.permits) 6400
  if r = 4800 then 1 else if r = 5600 then 2 else 3

/-- Why a channel's DIMMs keep it from being used (R290, R291): 0 they do not, 1 none, 2 not supported, 3 they differ. -/
def ChanObs.why (o : ChanObs) : Nat :=
  if o.dimms = [] then 1 else if !(o.dimms.all Dimm.supported) then 2 else if !o.alike then 3 else 0

end Sys2Proof

namespace Sys2Proof.Machine

/-- How a boot step ends: OUTCOME, MODE and REASON of R492, and what follows: 0 the next step, 1 a halt, 2 a stopping failure, 3 the
start ends unfelted. -/
structure StepRes where
  out    : Nat
  mode   : Nat
  reason : Nat
  follow : Nat
deriving DecidableEq, Repr

def StepRes.pass (mode : Nat) : StepRes := { out := 1, mode := mode, reason := 0, follow := 0 }
def StepRes.less (mode reason : Nat) : StepRes := { out := 2, mode := mode, reason := reason, follow := 0 }
def StepRes.stop (mode reason : Nat) : StepRes := { out := 3, mode := mode, reason := reason, follow := 2 }

/-- This start is a safe start, with its channel (R498). -/
def Dev.safeStart (d : Dev) : Bool := bit (d.reg R.errStartstat) 19
def Dev.safeCh (d : Dev) : Nat := d.rf R.errStartstat 15 12
/-- ERR.STARTCTL.RETEST (R499). -/
def Dev.retest (d : Dev) : Bool := bit (d.reg R.errStartctl) 62

/-- Lane groups left out at this start or an earlier one (block 5), and the ports with a role that are down with them. -/
def State.groupsOut (s : State) : Nat := s.blockF 5 2 2
def State.portsOut (s : State) : Nat :=
  ((List.range 128).map (fun p => match portRec s.dev.felt.cfg p with
    | some (_, _, role, _) => if role ≠ 0 ∧ s.groupsOut.testBit (p / 16) then 2 ^ p else 0
    | none => 0)).sum

/-- Channels left out. -/
def Dev.chansOut (d : Dev) : Nat :=
  ((List.range 16).map (fun ch => if (d.chan ch).leftOut then 2 ^ ch else 0)).sum

/-- An entry of the step log (R492). -/
def State.logStep (s : State) (k out mode reason : Nat) : State :=
  let d := s.dev
  let spec : List Byte :=
    if k = 4 ∧ out ≠ 0 then bytesLE 1 (d.rf R.feltStatus 23 16) ++ bytesLE 1 (d.rf R.feltStatus 31 24) ++ List.replicate 6 0#8
    else if k = 5 ∧ out ≠ 0 then bytesLE 8 (((List.range 16).map (fun ch => d.rf (R.dmcStatus ch) 10 8 * 16 ^ ch)).sum)
    else List.replicate 8 0#8
  let b := bytesLE 4 0x50455453 ++ bytesLE 4 s.startNo ++ bytesLE 1 k ++ bytesLE 1 out ++ bytesLE 1 mode ++ bytesLE 1 reason ++
    bytesLE 4 0 ++ bytesLE 8 (d.reg R.exTick).toNat ++ bytesLE 4 d.pwr.leftOut ++ bytesLE 2 d.chansOut ++ bytesLE 2 s.groupsOut ++
    bytesLE 16 s.portsOut ++ spec ++ bytesLE 4 0
  (s.nvRecord (stepLogAddr d.pwr.logAt) (b ++ bytesLE 4 (crc32 b))).onDev (fun d =>
    { d with pwr := { d.pwr with logAt := (d.pwr.logAt + 1) % 960 } })

/-- A step begins (R491, R492). -/
def State.stepBegin (s : State) (k : Nat) : State :=
  ((s.onDev (fun d => { d with pwr := { d.pwr with step := k } })).modBlock 0 (fun bs => lePut bs 0x11 1 k)).logStep k 0 0 0

/-- A step ends. -/
def State.stepEnd (s : State) (k : Nat) (r : StepRes) : State :=
  (s.onDev (fun d => { d with pwr := { d.pwr with outs := d.pwr.outs.set (k - 1) (r.out, r.mode) } })).logStep k r.out r.mode r.reason

/-- MODE of a step with nothing particular about it: safe start, a retry of a step that failed last time, or normal. -/
def State.plainMode (s : State) (k : Nat) : Nat :=
  if s.dev.safeStart then 5 else if s.blockF 0 (0x20 + k - 1) 1 ≠ 0 then 4 else 0

/-! ### BS01 -/

/-- The place after the last entry of the step log: the first one that is not written or belongs to an earlier start than the one
before it. -/
def State.logPlace (s : State) : Nat :=
  let start (i : Nat) : Option Nat :=
    let bs := s.mem.bytes (stepLogAddr i) 8
    if leAt bs 0 4 = 0x50455453 then some (leAt bs 4 4) else none
  match (List.range 960).find? (fun i => match start i, (if i = 0 then start 0 else start (i - 1)) with
    | some a, some b => decide (a < b)
    | _, _ => true) with
  | some i => i
  | none => 0

/-- The SEQ of the last error record kept (R478: it goes on across starts). (DEDUCED, log entry 216.) -/
def State.lastSeq (s : State) : Nat :=
  let lo := nvBase + 0xB00000
  let ixs := ((s.mem.img.filter (fun e => decide (lo ≤ e.1) && decide (e.1 < lo + 0x100000))).map (fun e => (e.1 - lo) / 64)).eraseDups
  ixs.foldl (fun n i =>
    let bs := s.mem.bytes (lo + 64 * i) 64
    if copyOk bs then max n (leAt bs 0 4) else n) 0

/-- The geographic straps as PIN.GEOADDR shows them (R516). -/
def Part.geoReg (p : Part) : Word :=
  let ones := (setBits p.geo 16).length % 2
  word (p.geo + 65536 * (if p.geoPar then ones else 1 - ones) + (if p.geoPar ∧ p.geo ≠ 0xFFFF then 2 ^ 31 else 0))

/-- The quadrant and the channel of a safe start (R498). -/
def State.safeSet (s : State) : Nat × Nat :=
  let q := (List.range 4).find? (fun q => (List.range 64).any (fun i =>
    s.dev.part.order.core (64 * q + i) && !(s.retiredCore (64 * q + i))))
  let ch := (List.range 16).find? (fun c => s.dev.part.order.channel c && !(s.blockBit 5 0 c))
  (q.getD 0, ch.getD 0)

/-- The work of BS01 once the boot ROM is good (R490, R491, R495, R498): the start record is read, a failed last start is counted, this
start is numbered. The second value is the slot that R46 item 1 tries first, 0 none. -/
def State.bs01 (s : State) : State × Nat :=
  let b := s.block 0
  let failed := leAt b 0x12 1 % 2 = 0
  let step := leAt b 0x11 1
  let fails := if failed then satAdd 255 (leAt b 0x10 1) 1 else leAt b 0x10 1
  let old := leAt b 0x14 1
  let last := old % 4 + (if failed then 4 else 0)
  let prev := old / 8 % 8
  let alt := if last % 4 ≠ 0 ∧ last % 4 = prev % 4 ∧ failed ∧ 4 ≤ prev ∧ 4 < step then 3 - last % 4 else 0
  let n := (leAt b 4 4 + 1) % 2 ^ 32
  let serial := s.dev.part.serial.getD 0
  let safe := decide (3 ≤ fails)
  let b1 := lePut (lePut (lePut (lePut (lePut (lePut (lePut (lePut b 0 4 0x444E5453) 4 4 n) 8 8 serial) 0x10 1 fails) 0x11 1 1)
    0x12 1 (if safe then 2 else 0)) 0x13 1 s.dev.pwr.cause) 0x14 1 (8 * last)
  let b2 := if failed ∧ 1 ≤ step ∧ step ≤ 12 then lePut b1 (0x1F + step) 1 (satAdd 255 (leAt b (0x1F + step) 1) 1) else b1
  let (q, ch) := s.safeSet
  let st : Word := setFld (setFld (setFld (setFld (setFld (setFld 0 63 32 n) 31 24 fails) 23 20 (if failed then step else 0))
    19 19 safe.toNat) 18 17 q) 15 12 ch
  let place := s.logPlace
  let s1 := s.onDev (fun d =>
    let d1 := (((((d.setReg R.errStartstat st).setReg R.errSerial (word serial)).setReg R.pinGeoaddr d.part.geoReg).setReg
      R.feltSlotsel (word (leAt b 0x18 1 % 2))).setReg R.feltFloor (word (leAt b 0x1C 4)))
    { d1 with err := { d1.err with seq := s.lastSeq }, pwr := { d1.pwr with logAt := place, step := 1 } })
  (((s1.setBlock 0 b2).startCore 0x1FF).logStep 1 0 0 0, alt)

/-! ### BS04: blocking -/

/-- Validation of a slot: its first bytes give the length to read (R42). -/
def State.checkSlot (s : State) (slot : Nat) : ImageRes :=
  let base := nvBase + slot * 0x400000
  let ilen := leAt (s.mem.bytes base 16) 8 4
  validateImage s.dev.part s.fuses (s.dev.rf R.feltFloor 31 0)
    (s.mem.bytes base (if ilen ≤ 0x400000 then max ilen 64 else 64))

/-- The records that a safe start leaves in force (R498): those of the safe-start set, and of nothing owned outside it. (DEDUCED, log entry 217.) -/
def safeCfg (q : Nat) (cfg : List Rec) : List Rec :=
  let m := 255 * 2 ^ (8 * q)
  cfg.filterMap (fun r => match r with
    | .pond p w f cl af co sh => some (.pond p w f (cl &&& m) (af &&& m) co sh)
    | .port .. | .laneSpare .. | .pin .. | .expo .. | .mark .. | .role .. => none
    | r => some r)

/-- The amendment log replayed in order (R59): the configuration reached, and whether it stopped; the entry that fails and every
later one is marked void. -/
def State.replay : List LogEnt → State → State × Bool
  | [], s => (s, false)
  | e :: es, s =>
    if !e.ok ∨ e.base ≠ s.dev.felt.iver then State.replay es s
    else
      let a := checkAmendment s.dev.part s.fuses s.dev.felt e.amd
      if a.code = 0 then State.replay es (s.onDev (fun d => { d with felt := { d.felt with cfg := a.cfg, seq := a.seq } }))
      else
        ((e :: es).foldl (fun s x => s.nvRecord (x.pa + logSpan (leAt x.amd 8 4) - 64) (List.replicate 64 0#8)) s, true)

/-- Domains that blocking puts into off (R453): unowned clusters, lane groups without a lane in use, DRAM groups no range uses. (DEDUCED, log entry 218.) -/
def Dev.blockOff (d : Dev) : Dev :=
  let role (g : Nat) : Bool := (List.range 16).any (fun i => match portRec d.felt.cfg (16 * g + i) with
    | some (_, _, r, _) => decide (r ≠ 0)
    | none => false)
  let doms := ((List.range 32).filter (fun c => (clusterOwner d.felt.cfg c).isNone)).map (fun c => 21 + c) ++
    ((List.range 8).filter (fun g => !(role g))).map (fun g => 13 + g) ++
    ((List.range 4).filter (fun q => !(rangesUse d.felt.cfg (9 + q)))).map (fun q => 9 + q)
  (doms.filter (fun x => d.part.order.domain x && decide (d.domLowest x = 3))).foldl (fun d x =>
    let d1 := d.setDomState x 3
    { d1 with pwr := { d1.pwr with void := Tab.set (fun _ => false) d1.pwr.void x true } }) d

/-- BS04 (R46 to R48, R59). (DEDUCED, log entry 213.) -/
def State.bs04 (s : State) (alt : Nat) (late : Bool) : State × StepRes :=
  let a := s.checkSlot 0
  let b := s.checkSlot 1
  let pref := if alt ≠ 0 then alt - 1 else s.dev.rf R.feltSlotsel 0 0
  let first := if pref = 0 then a else b
  let other := if pref = 0 then b else a
  let pick : Option (Nat × ImageRes) :=
    if late then none else if first.code = 0 then some (pref, first) else if other.code = 0 then some (1 - pref, other) else none
  let codes : Word := setFld (setFld 0 31 24 b.code) 23 16 a.code
  match pick with
  | none =>
    (s.onDev (fun d => { (d.setReg R.feltStatus codes) with felt := Felt.none }),
     { out := 3, mode := s.plainMode 4, reason := if late then 1 else 4, follow := 3 })
  | some (slot, im) =>
    let safe := s.dev.safeStart
    let s1 := s.onDev (fun d => { d with felt :=
      { cfg := im.recs, iver := im.iver, seq := 0, slot := slot + 1, felted := true, safe := safe, todo := [], busy := false } })
    let ents := (scanLog (fun p n => s1.mem.bytes p n) 8192 logBase).1
    let (s2, bad) := State.replay ents s1
    let s3 := s2.onDev (fun d =>
      let d0 : Dev := if safe then { d with felt := { d.felt with cfg := safeCfg (d.rf R.errStartstat 18 17) d.felt.cfg } } else d
      let st := setFld (setFld (setFld (setFld (setFld (setFld codes 15 12 (min 15 im.ign)) 5 5
        (decide (alt ≠ 0) && decide (slot = pref)).toNat) 4 4 bad.toNat) 3 2 (slot + 1)) 1 1 safe.toNat) 0 0 1
      let d1 := (d0.setReg R.feltStatus st).setReg R.feltVersion (setFld (setFld 0 63 32 d0.felt.iver) 31 0 d0.felt.seq)
      let d2 := (d1.loadCfg).loadNominal
      -- what the replayed amendments have narrowed (R50, R59)
      let d3 := [1, 2, 3, 4, 5, 6, 7, 8, 9].foldl (fun d code => d.clampAll (if safe then safeCfg (d.rf R.errStartstat 18 17) im.recs else im.recs) code) d2
      d3.blockOff)
    let s4 := s3.modBlock 0 (fun bs => lePut bs 0x14 1 (leAt bs 0x14 1 / 4 * 4 + slot + 1))
    (s4, StepRes.pass (if safe then 5 else if slot ≠ s.dev.rf R.feltSlotsel 0 0 then 2 else s.plainMode 4))

/-! ### Started ponds -/

/-- Whether a channel is in service. -/
def Dev.chanServes (d : Dev) (ch : Nat) : Bool :=
  d.part.order.channel ch && !(d.chan ch).leftOut && decide ((d.chan ch).ranks ≠ 0)

/-- The ponds that are started (R497, R498). -/
def State.startedPonds (s : State) : Nat :=
  let d := s.dev
  let cores (p : Nat) : Bool := (setBits (pondClusters d.felt.cfg p) 32).any (fun c =>
    !(d.pwr.leftOut.testBit c) && (List.range 8).any (fun i => d.part.order.core (8 * c + i) && !(s.retiredCore (8 * c + i))))
  let rng (m : Nat) : Bool :=
    if d.safeStart then m.testBit d.safeCh && d.chanServes d.safeCh else (setBits m 16).all d.chanServes
  let mem (p : Nat) : Bool := (dramRanges d.felt.cfg).all (fun r => decide (r.1 ≠ p) || rng r.2.1)
  ((ponds d.felt.cfg).map (fun p => if cores p && mem p then 2 ^ p else 0)).sum

/-- A step after which some pond must meet R497. -/
def State.needPond (x : State × StepRes) : State × StepRes :=
  let m := x.1.startedPonds
  let s1 := x.1.onDev (fun d => { d with pwr := { d.pwr with started := m } })
  if m = 0 then (s1, StepRes.stop x.2.mode 3) else (s1, x.2)

/-! ### BS05 and BS06: DRAM -/

/-- The rank that a RANK_SPARE record holds as a channel's spare. -/
def rankSpareOf (cfg : List Rec) (ch : Nat) : Option Nat :=
  cfg.findSome? fun r => match r with
    | .rankSpare c k => if c = ch then some k else none
    | _ => none

/-- A channel as start sets it up (R292, R317): retired ranks and spare use from block 4, the ranks in service by position. -/
def State.chanSetup (s : State) (ch : Nat) (o : ChanObs) (leftOut : Bool) : Chan :=
  let rb := s.block 4
  let spare := (rankSpareOf s.dev.felt.cfg ch).bind (fun r => if o.ranks.testBit r then some r else none)
  let ret := if s.dev.retest then nibble rb 0x20 ch &&& o.bad else nibble rb 0x20 ch
  let used := (leAt rb 0x28 2).testBit ch && decide (ret ≠ 0) && spare.isSome
  let live := (setBits o.ranks 4).filter (fun r => decide (spare ≠ some r))
  let pos := if used then
      match live.find? (fun r => ret.testBit r) with
      | some f => (live.map (fun r => if r = f then spare.getD r else r)).filter (fun r => decide (spare = some r) || !(ret.testBit r))
      | none => live
    else live.filter (fun r => !(ret.testBit r))
  { Chan.off with ranks := o.ranks, rbits := o.rbits, pos := if leftOut then [] else pos, spare := spare
                  used := used, retired := ret, ids := o.ids, leftOut := leftOut }

/-- BS05 of one channel (R290, R291, R304, R496): why it is left out (0: it is not), how it was trained, and the state its mechanisms
start from: the saved record's, or that of full training with every counter at 3. -/
def State.bs05Chan (s : State) (ch : Nat) (o : ChanObs) (late : Bool) : State :=
  let b5 := s.block 5
  let changed := decide (s.keptIds ch ≠ o.ids)
  let cnt := if changed then 0 else nibble b5 8 ch
  let set (s : State) (why train : Nat) (f : Chan → Chan) : State :=
    s.onDev (fun d =>
      let d1 := d.setChan ch (f (s.chanSetup ch o (decide (why ≠ 0))))
      (d1.showChan ch (if why = 0 then 2 else 1) why train).setRf (R.dmcStatus ch) 33 32 (if why = 0 then o.speed else 0))
  let five (s : State) (n : Nat) (out : Bool) : State := s.modBlock 5 (fun bs => putBit (putNibble bs 8 ch n) 0 ch out)
  if o.why ≠ 0 then set s o.why 0 id
  else if 2 ≤ cnt then set (five s cnt true) 5 0 id
  else
    let valid := s.savedHere && s.blockBit 1 8 ch && !changed
    if valid ∧ o.saved ∧ !late then
      set (five s 0 false) 0 1 (fun c => { c with pred := s.keptPred ch, train := s.keptTrain ch, phase := s.keptPhase ch })
    else
      let s1 := (if s.blockBit 1 8 ch then s.modBlock 1 (fun bs => putBit bs 8 ch false) else s).saveIds ch o.ids
      if o.full ∧ !late then set (five s1 0 false) 0 2 (fun c => { c with train := o.train % 2 ^ 512, phase := o.phase % 2 ^ 640 })
      else set (five s1 (min 15 (cnt + 1)) false) 4 0 id

/-- The channels a start works on (R498). -/
def Dev.startChans (d : Dev) : List Nat :=
  (List.range 16).filter (fun ch => d.part.order.channel ch && (!d.safeStart || decide (ch = d.safeCh)))

/-- What the environment says of a channel; nothing: no module. -/
def obsChan (obs : StartObs) (ch : Nat) : ChanObs :=
  obs.chans.getD ch { slot0 := none, slot1 := none, saved := false, full := false, train := 0, phase := 0, zero := false, bad := 0 }

/-- Channels that a safe start does not work on are left out of it. -/
def State.safeOut (s : State) : State :=
  if s.dev.safeStart then
    ((List.range 16).filter (fun ch => s.dev.part.order.channel ch && decide (ch ≠ s.dev.safeCh))).foldl (fun s ch =>
      s.onDev (fun d => (d.setChan ch { Chan.off with leftOut := true }).showChan ch 1 0 0)) s
  else s

/-- BS05. (DEDUCED, log entry 215.) -/
def State.bs05 (s : State) (obs : StartObs) (late : Bool) : State × StepRes :=
  let chs := s.dev.startChans
  let s1 := chs.foldl (fun s ch => s.bs05Chan ch (obsChan obs ch) late) s.safeOut
  let out := chs.any (fun ch => decide (1 < s1.dev.rf (R.dmcStatus ch) 10 8))
  let saved := chs.any (fun ch => decide (s1.dev.rf (R.dmcStatus ch) 25 24 = 1))
  let mode := if s.dev.safeStart then 5 else if out then 3 else if saved then 1 else s.plainMode 5
  State.needPond (s1, if late then StepRes.less mode 1 else if out then StepRes.less mode 0 else StepRes.pass mode)

/-- BS06 (R296, R305, R317): a channel whose zeroing completes runs, and its record is written; one that does not is left out. (DEDUCED, log entry 214.) -/
def State.bs06 (s : State) (obs : StartObs) (late : Bool) : State × StepRes :=
  let chs := s.dev.startChans.filter s.dev.chanServes
  let s1 := chs.foldl (fun s ch =>
    if (obsChan obs ch).zero ∧ !late then
      let s1 := s.onDev (fun d => d.showChan ch 3 0 (d.rf (R.dmcStatus ch) 25 24))
      if s.dev.retest then
        s1.modBlock 4 (fun bs => putBit (putBit (putNibble bs 0x20 ch (s1.dev.chan ch).retired) 0x28 ch (s1.dev.chan ch).used) 0x2A ch false)
      else s1.modBlock 4 (fun bs => putBit bs 0x2A ch false)
    else s.onDev (fun d => (d.modChan ch (fun c => { c with leftOut := true, pos := [] })).showChan ch 1 4 0)) s
  let out := chs.any (fun ch => (s1.dev.chan ch).leftOut)
  let mode := if s.dev.safeStart then 5 else if out then 3 else s.plainMode 6
  State.needPond (s1, if late then StepRes.less mode 1 else if out then StepRes.less mode 0 else StepRes.pass mode)

/-! ### BS07 to BS12 -/

/-- A spare that the start record holds in use carries its logical lane from the start (R371, R491). -/
def State.spareStart (s : State) (g : Nat) : State :=
  let b := s.blockF 4 (0x18 + g) 1
  let old := 17 * g + b % 16
  if 128 ≤ b ∧ s.laneRetired old ∧ sparePolicy s.dev.felt.cfg g = 0 then
    s.onDev (fun d =>
      let st := d.reg (R.laneStatus old)
      let d1 := (d.laneUse (17 * g + 16) (fld st 15 8) (b % 16) (fld st 19 16)).setLane (17 * g + 16) 1
      ((d1.laneUse old 0xFF 0xF 0).setRf (spareReg g) 62 60 3).setRf (spareReg g) 11 8 (b % 16))
  else s

/-- BS07 (R366 to R369, R496): lanes begin to train; a group that failed at two consecutive starts is left out. -/
def State.bs07 (s : State) (obs : StartObs) (late : Bool) : State × StepRes :=
  if s.dev.safeStart then (s, { out := 4, mode := 5, reason := 0, follow := 0 })
  else
    let s0 := if s.dev.retest then
        s.modBlock 4 (fun bs => (List.range 136).foldl (fun bs l => if obs.lanes.contains l then bs else putBit bs 0 l false) bs)
      else s
    let gs := (List.range 8).filter (fun g => s.dev.part.order.group g && decide (s.dev.domState (13 + g) ≠ 3))
    let s1 := gs.foldl (fun s g =>
      let n := nibble (s.block 5) 0x10 g
      if 2 ≤ n then s.modBlock 5 (fun bs => putBit bs 2 g true)
      else
        let bad := late || obs.groups.testBit g
        s.modBlock 5 (fun bs => putBit (putNibble bs 0x10 g (if bad then min 15 (n + 1) else 0)) 2 g bad)) s0
    let out := s1.groupsOut
    let s2 := s1.onDev (fun d =>
      let d1 := d.lanesStart s1.laneRetired s1.laneSaved
      (List.range 136).foldl (fun d l => if out.testBit (l / 17) then d.setLane l 0 else d) d1)
    let s3 := (gs.filter (fun g => !(out.testBit g))).foldl (fun s g => s.spareStart g) s2
    let less := gs.any (fun g => out.testBit g)
    let mode := if less then 3 else s.plainMode 7
    (s3, if late then StepRes.less mode 1 else if less then StepRes.less mode 0 else StepRes.pass mode)

/-- BS09 (R473, R496): the rails start, from a saved record that is valid for this board or from nominal plus 50 mV; the clusters
of a rail whose loop does not lock are left out; a safe start works on its own quadrant's rail (R498). -/
def State.bs09 (s : State) (obs : StartObs) (late : Bool) : State × StepRes :=
  let locks (q : Nat) : Bool := obs.rails.testBit q && !late
  let qs := if s.dev.safeStart then [s.dev.rf R.errStartstat 18 17] else [0, 1, 2, 3]
  let s1 := qs.foldl (fun s q =>
    let saved := s.savedHere && s.blockBit 1 0x0A q
    let v := if saved then leAt (s.mem.bytes (savedRail q) 8) 0 8 else s.dev.part.vnom + 50
    let s1 := s.onDev (fun d => (d.setRf (R.pwrAvs q) 31 16 v).setRf (R.pwrAvs q) 0 0 (locks q).toNat)
    if locks q then s1
    else
      (if saved then s1.modBlock 1 (fun bs => putBit bs 0x0A q false) else s1).onDev (fun d =>
        { d with pwr := { d.pwr with leftOut := d.pwr.leftOut ||| (255 * 2 ^ (8 * q)) } })) s
  let s2 := s1.onDev (fun d => (d.showFreq).showDevState)
  let less := qs.any (fun q => !(locks q))
  let mode := if s.dev.safeStart then 5 else if less then 3 else s.plainMode 9
  State.needPond (s2, if late then StepRes.less mode 1 else if less then StepRes.less mode 0 else StepRes.pass mode)

/-- BS10 (R485, R496, R499): the present cores not retired are tested; those that fail are retired or put in shared-port mode. With
RETEST retired cores are tested as well, and return when they pass. -/
def State.bs10 (s : State) (obs : StartObs) (late : Bool) : State × StepRes :=
  let s0 := if s.dev.retest ∧ !late then
      s.modBlock 2 (fun bs =>
        let b1 := (List.range 256).foldl (fun bs k => if obs.cores.contains k then bs else putBit bs 0 k false) bs
        (List.range 32).foldl (fun bs c => putBit bs 0x20 c (leAt b1 c 1 = 255)) b1)
    else s
  let tested := s0.dev.part.order.cores.filter (fun k => !(s0.retiredCore k) && !late &&
    (!s.dev.safeStart || decide (k / 64 = s.dev.rf R.errStartstat 18 17)))
  let bad := tested.filter (fun k => obs.cores.contains k)
  let s1 := bad.foldl (fun s k => s.retireCore k) s0
  let s2 := (tested.filter (fun k => obs.l1i.contains k && !(obs.cores.contains k))).foldl (fun s k => s.sharedPort k) s1
  let s3 := (s2.dev.part.order.cores.filter s2.retiredCore).foldl (fun s k => s.modCore k (fun c => { c with run := .retired })) s2
  let less := decide (bad ≠ []) || tested.any (fun k => obs.l1i.contains k)
  let mode := if s.dev.safeStart then 5 else if less then 3 else s.plainMode 10
  State.needPond (s3, if late then StepRes.less mode 1 else if less then StepRes.less mode 0 else StepRes.pass mode)

/-- BS11 (R493, R121): the cores of the started ponds' clusters are released at the pond's boot area. -/
def State.bs11 (s : State) (late : Bool) : State × StepRes :=
  if late then (s, StepRes.stop (s.plainMode 11) 1)
  else if s.dev.pwr.started = 0 then (s, StepRes.stop (s.plainMode 11) 3)
  else
    let s1 := (setBits s.dev.pwr.started 32).foldl (fun s p =>
      ((setBits (pondClusters s.dev.felt.cfg p) 32).filter (fun c => s.dev.part.order.cluster c)).foldl (fun s c =>
        let s1 := s.onDev (fun d => d.setReg (R.cluBootvec c) (word (nvBase + 0xC00000 + 0x20000 * p)))
        if s.dev.pwr.leftOut.testBit c then s1
        else (List.range 8).foldl (fun s i =>
          let k := 8 * c + i
          if s.retiredCore k then s
          else
            (s.modCore k (fun x => { x with b0 := { x.b0 with ms := setBit x.b0.ms 8 (s.retiredL1i k) } })).startCore k) s1) s) s
    (s1, StepRes.pass (s.plainMode 11))

/-- The start is over (R493, R417): the device is up; functions see that a device reset completed. -/
def State.deviceUp (s : State) : State :=
  s.onDev (fun d =>
    let d1 : Dev := { d with pwr := { d.pwr with mode := .up, bs12 := (d.reg R.exTick).toNat } }
    let d2 := (d1.setRf R.errStartctl 62 62 0).showDevState
    let d3 := d2.fnShowAll
    if d3.pwr.resets = 0 then d3
    else ((List.range 129).filter d3.fnExists).foldl (fun d f => d.fnEvent f 5) d3)

/-- BS12 (R491, R493, R495): saved settings are valid for this board, block 0 is complete, and a normal start clears FAILS and the
counters of the steps that passed. -/
def State.bs12 (s : State) (late : Bool) : State × StepRes :=
  let safe := s.dev.safeStart
  let s1 := s.saveDram (List.range 16)
  let r := if late then StepRes.less (s.plainMode 12) 1 else StepRes.pass (s.plainMode 12)
  let outs := s.dev.pwr.outs.set 11 (r.out, r.mode)
  let s2 := s1.modBlock 0 (fun bs =>
    let b1 := lePut bs 0x12 1 (if safe then 3 else 1)
    if safe then b1
    else (List.range 12).foldl (fun bs i =>
      let o := (outs.getD i (0, 0)).1
      if i = 0 ∨ o = 1 ∨ o = 2 then lePut bs (0x20 + i) 1 0 else bs) (lePut b1 0x10 1 0))
  let s3 := if safe then s2 else s2.onDev (fun d => d.setRf R.errStartstat 31 24 0)
  (s3.deviceUp, r)

/-- The start ends unfelted (R47, R495). -/
def State.endUnfelted (s : State) : State :=
  (s.modBlock 0 (fun bs => lePut bs 0x12 1 (if s.dev.safeStart then 7 else 5))).deviceUp

/-- A step of the start after BS01. `late`: it exceeds its limit. -/
def State.bootDo (s : State) (k : Nat) (obs : StartObs) (late : Bool) (alt : Nat) : State × StepRes :=
  match k with
  | 2 =>
    if late then (s, StepRes.stop (s.plainMode 2) 1)
    else if obs.uncore then ((List.range 4).foldl (fun s q => s.startCore (256 + q)) s, StepRes.pass (s.plainMode 2))
    else (s, StepRes.stop (s.plainMode 2) 2)
  | 3 =>
    if s.dev.pcieLink then (s, StepRes.pass (s.plainMode 3))
    else match obs.pcie, late with
      | some (sp, w), false =>
        if 1 ≤ sp ∧ sp ≤ 5 ∧ [1, 2, 4, 8, 16].contains w then
          (s.onDev (fun d => ((d.setRf R.pepStatus 63 63 1).setRf R.pepStatus 62 60 sp).setRf R.pepStatus 59 55 w), StepRes.pass (s.plainMode 3))
        else (s, StepRes.less (s.plainMode 3) 2)
      | _, l => (s, StepRes.less (s.plainMode 3) (if l then 1 else 2))
  | 4 => s.bs04 alt late
  | 5 => s.bs05 obs late
  | 6 => s.bs06 obs late
  | 7 => s.bs07 obs late
  | 8 => (s.onDev (fun d => { d with atb := { d.atb with uncal := late || !obs.sense } }), if late then StepRes.less (s.plainMode 8) 1 else if obs.sense then StepRes.pass (s.plainMode 8) else StepRes.less (s.plainMode 8) 2)
  | 9 => s.bs09 obs late
  | 10 => s.bs10 obs late
  | 11 => s.bs11 late
  | _ => s.bs12 late

/-- The steps from BS(13 - n) on. -/
def State.bootRun (obs : StartObs) (late alt : Nat) : Nat → State → State
  | 0, s => s
  | n + 1, s =>
    let k := 12 - n
    let x := (s.stepBegin k).bootDo k obs (decide (late = k)) alt
    let s1 := x.1.stepEnd k x.2
    if x.2.follow = 0 then State.bootRun obs late alt n s1
    else if x.2.follow = 3 then s1.endUnfelted
    else s1.onDev (fun d => { d with pwr := { d.pwr with mode := if d.safeStart then .halted else .stopping } })

/-- A start (R493, R494): `late` is the step that exceeds its limit, 0 none. A halt at BS01 writes nothing. (DEDUCED, log entry 231.) -/
def State.boot (s : State) (obs : StartObs) (late : Nat) : Host.Outcome State Fault Refusal :=
  if s.dev.pwr.mode ≠ .reset ∨ s.dev.pins.resetLow then .next s
  else if !obs.rom ∨ late = 1 then
    .next (s.onDev (fun d => { d with pwr := { d.pwr with mode := .halted, step := 1 } }))
  else
    let (s1, alt) := s.bs01
    done (State.bootRun obs late alt 11 (s1.stepEnd 1 (StepRes.pass (s1.plainMode 1))))

/-- DEVICE_START (R493). (DESIGN CHOICE, log entry 32.) -/
def execDeviceStart (obs : StartObs) (s : State) : Host.Outcome State Fault Refusal := s.boot obs 0

/-- BOOT_STEP_TIMEOUT (R493): a start in which a step exceeds its limit. -/
def execBootStepTimeout (obs : StartObs) (late : Nat) (s : State) : Host.Outcome State Fault Refusal :=
  if 1 ≤ late ∧ late ≤ 12 then s.boot obs late else .next s

end Sys2Proof.Machine
end

