-- ==== Sys2Proof/Machine/SecEvents.lean ====
section
/-! DEFINITION. SEC0's commands: root keys, debug unlock, key bindings (15 R432 to R439, R527). -/

namespace Sys2Proof.Machine

/-- The bytes of consecutive registers. -/
def Dev.regBytes (d : Dev) (at_ : Nat → Nat) (n : Nat) : List Byte :=
  (List.range n).flatMap (fun i => bytesLE 8 (d.reg (at_ i)).toNat)

/-- A KEYCMD command completes (R438, R439). -/
def State.keyDone (s : State) (st : Nat) : State :=
  s.onDev (fun d => (d.setRf R.secKeycmd 63 63 0).setRf R.secKeycmd 11 8 st)

/-- Whether KEYCMD holds a command in progress. -/
def Dev.keyGo (d : Dev) (n : Nat) : Bool := bit (d.reg R.secKeycmd) 63 && decide (d.rf R.secKeycmd 1 0 = n)

/-- PROGRAM (R438): the 96 bytes of KEYBUF go into the fuses of a blank key slot. (DEDUCED, log entry 193.) -/
def execProgram (s : State) : Host.Outcome State Fault Refusal :=
  if !(s.dev.keyGo 1) then .next s
  else
    let k := s.dev.rf R.secKeycmd 5 4
    let bs := s.dev.regBytes R.secKeybuf 12
    let x := ofBytesBE (bs.take 48)
    let y := ofBytesBE (bs.drop 48)
    if (s.fuses.keys.getD k none).isSome || !(onCurve x y) then done (s.keyDone 3)
    else if s.dev.belowFloor then done (s.keyDone 4)
    else done (({ s with fuses := { s.fuses with keys := s.fuses.keys.set k (some (x, y)) } } : State).keyDone 0)

/-- The keys that verify: programmed and not revoked (R439). -/
def Fuses.live (f : Fuses) : List Nat :=
  (List.range 4).filter (fun k => (f.keys.getD k none).isSome && !(f.revoked.getD k false))

/-- REVOKE (R439): the revocation fuse of a key, unless no other key would remain. -/
def execRevoke (s : State) : Host.Outcome State Fault Refusal :=
  if !(s.dev.keyGo 2) then .next s
  else
    let k := s.dev.rf R.secKeycmd 5 4
    if s.fuses.live.filter (fun j => decide (j ≠ k)) = [] then done (s.keyDone 3)
    else if s.dev.belowFloor then done (s.keyDone 4)
    else done (({ s with fuses := { s.fuses with revoked := s.fuses.revoked.set k true } } : State).keyDone 0)

/-- Whether DBUCMD holds a command in progress. -/
def Dev.dbuGo (d : Dev) (n : Nat) : Bool := bit (d.reg R.secDbucmd) 63 && decide (d.rf R.secDbucmd 3 0 = n)

/-- A DBUCMD command completes with a status and the DETAIL of R436. -/
def Dev.dbuDone (d : Dev) (st detail : Nat) : Dev :=
  let granted := (List.range 32).foldl (fun w p => setBit w p (decide (d.rf (R.secDbgen p) 11 8 ≠ 0))) (0 : Word)
  (((d.setRf R.secDbucmd 63 63 0).setRf R.secDbustat 63 32 (fld granted 31 0)).setRf R.secDbustat 11 4 detail).setRf
    R.secDbustat 3 0 st

/-- CHALLENGE (R436): SEC0 draws a nonce, a free value, and shows it in DBUCHAL. -/
def execChallenge (s : State) : Host.Outcome State Fault Refusal :=
  if !(s.dev.dbuGo 1) then .next s
  else
    done (({ s with free := s.free + 4 } : State).onDev (fun d =>
      (((List.range 4).foldl (fun d i => d.setReg (R.secDbuchal i) (Config.nonce (s.free + i))) d).setRf
        R.secDbustat 16 16 1).dbuDone 0 0))

/-- The failure of an unlock token under R436, in the order of its codes; 0: it is accepted. (DEDUCED, log entry 192.) -/
def State.tokenCode (s : State) (tok : List Byte) : Nat :=
  let kidx := leAt tok 5 1
  let zero (o n : Nat) : Bool := decide (leAt tok o n = 0)
  if tok.take 4 ≠ [0x44#8, 0x42#8, 0x55#8, 0x4C#8] ∨ leAt tok 4 1 ≠ 1 ∨ !(zero 6 2) ∨ !(zero 0x35 11) ∨ 15 < leAt tok 0x34 1 then 1
  else if !(s.fuses.live.contains kidx) then 2
  else if leAt tok 8 8 = 0 ∨ leAt tok 8 8 ≠ s.dev.part.uid then 3
  else if !(bit (s.dev.reg R.secDbustat) 16) ∨ (tok.drop 0x10).take 32 ≠ s.dev.regBytes R.secDbuchal 4 then 4
  else match s.fuses.keys.getD kidx none with
    | some key =>
      if ecdsaVerify key (tok.take 0x40) (ofBytesBE ((tok.drop 0x40).take 48)) (ofBytesBE ((tok.drop 0x70).take 48)) then 0 else 5
    | none => 2

/-- Raise the enables that a token grants (R436). -/
def Dev.grant (d : Dev) (ponds en : Nat) : Dev :=
  (setBits ponds 32).foldl (fun d p => (d.setRf (R.secDbgen p) 11 8 (d.rf (R.secDbgen p) 11 8 ||| en)).dbgenShow p) d

/-- SUBMIT (R436, R437): the token is checked; each SUBMIT consumes the nonce; three consecutive failures with codes 2 to 5
lock out. -/
def execSubmit (s : State) : Host.Outcome State Fault Refusal :=
  if !(s.dev.dbuGo 2) then .next s
  else
    let tok := s.dev.regBytes R.secDbutok 20
    let code := if bit (s.dev.reg R.secDbustat) 17 then 6 else s.tokenCode tok
    let s1 := s.onDev (fun d => d.setRf R.secDbustat 16 16 0)
    if code = 0 then
      let ponds := leAt tok 0x30 4
      let en := leAt tok 0x34 1
      let s2 := s1.onDev (fun d => ((d.grant ponds en).setRf R.secDbustat 13 12 0).dbuDone 0 0)
      done (s2.modBlock 6 (fun bs => lePut (lePut (lePut (lePut bs 0 4 s.startNo) 4 4 ponds) 8 1 en) 0x10 8
        (s.dev.reg R.exTick).toNat))
    else
      done (s1.onDev (fun d =>
        let n := if code = 6 then d.rf R.secDbustat 13 12 else if code = 1 then 0 else min 3 (d.rf R.secDbustat 13 12 + 1)
        let d1 := d.setRf R.secDbustat 13 12 n
        (if n = 3 then d1.setRf R.secDbustat 17 17 1 else d1).dbuDone 3 code))

/-- RELOCK (R432, R437): the unlocked enables are cleared, and halted cores resume where their enable fell (R434). -/
def execRelock (s : State) : Host.Outcome State Fault Refusal :=
  if !(s.dev.dbuGo 3) then .next s
  else
    done ((s.onDev (fun d =>
      ((List.range 32).foldl (fun d p => (d.setRf (R.secDbgen p) 11 8 0).dbgenShow p) d).dbuDone 0 0)).dbgRelease)

/-- DBGEN_LOW_WRITE (R432): the secure world lowers enables of a pond. -/
def execDbgenLowWrite (rq : Req) (pond : Nat) (value : Word) (s : State) : Host.Outcome State Fault Refusal :=
  done (s.regWrite rq (R.secDbgen (pond % 32)) 8 value)

/-- KSBIND_WRITE (R527): a key slot is bound to a domain under a secure hold, or unbound. -/
def execKsbindWrite (rq : Req) (n : Nat) (value : Word) (s : State) : Host.Outcome State Fault Refusal :=
  done (s.regWrite rq (R.secKsbind (n % 16)) 8 value)

end Sys2Proof.Machine
end

