-- ==== Sys2Proof/Machine/AmendEvents.lean ====
section
/-! DEFINITION. The commands of the FELT block: slot checks, an amendment's submission, and its records as they are applied (02 R42, R50,
R53 to R58). -/

namespace Sys2Proof.Machine

/-- Whether FELT.CMD holds a command in progress and no amendment is being applied. -/
def Dev.feltGo (d : Dev) (n : Nat) : Bool :=
  bit (d.reg R.feltCmdstat) 31 && decide (d.rf R.feltCmd 3 0 = n) && !d.felt.busy

/-- A slot check ends with its code in DETAIL. (DEDUCED, log entry 119.) -/
def State.slotCommand (s : State) (slot : Nat) : State :=
  s.onDev (fun d => d.feltDone 0 (s.checkSlot slot).code)

/-- CHECK_SLOT_A (R42): FELT.CMD 1. -/
def execCheckSlotA (s : State) : Host.Outcome State Fault Refusal :=
  if s.dev.feltGo 1 then done (s.slotCommand 0) else .next s

/-- CHECK_SLOT_B (R42): FELT.CMD 2. -/
def execCheckSlotB (s : State) : Host.Outcome State Fault Refusal :=
  if s.dev.feltGo 2 then done (s.slotCommand 1) else .next s

/-- Every record of an amendment has been applied (R57): SEQ, FELT.VERSION and DONE. -/
def Dev.amendDone (d : Dev) : Dev :=
  let d1 : Dev := { d with felt := { d.felt with seq := d.felt.seq + 1, busy := false, todo := [] } }
  (d1.setReg R.feltVersion (setFld (setFld 0 63 32 d1.felt.iver) 31 0 d1.felt.seq)).feltDone 0 0

/-- Write an entry of the amendment log, record by record, then its commit record (R55). -/
def State.logAmend (s : State) (pa : Nat) (amd commit : List Byte) : State :=
  let n := (amd.length + 63) / 64
  let body := amd ++ List.replicate (64 * n - amd.length) 0#8
  let s1 := (List.range n).foldl (fun s i => s.nvRecord (pa + 64 * i) ((body.drop (64 * i)).take 64)) s
  s1.nvRecord (pa + 64 * n) commit

/-- SUBMIT_AMENDMENT (R54, R55): FELT.CMD 3. -/
def execSubmitAmendment (s : State) : Host.Outcome State Fault Refusal :=
  if !(s.dev.feltGo 3) then .next s
  else
    let buf := s.dev.regBytes R.feltAmdbuf 512
    let a := checkAmendment s.dev.part s.fuses s.dev.felt buf
    if a.code ≠ 0 then done (s.onDev (fun d => d.feltDone 3 a.code))
    else if s.dev.belowFloor then done (s.onDev (fun d => d.feltDone 4 0))
    else
      let at_ := (scanLog (fun p n => s.mem.bytes p n) 8192 logBase).2
      if logEnd < at_ + logSpan a.len then done (s.onDev (fun d => d.feltDone 2 0))
      else
        let amd := buf.take a.len
        let s1 := s.logAmend at_ amd (commitRec a.seq a.base amd)
        let s2 := s1.onDev (fun d => { d with felt := { d.felt with todo := a.recs, busy := true } })
        done (if a.recs = [] then s2.onDev (fun d => d.amendDone) else s2)

/-- The record that is applied next. (DEDUCED, log entry 110.) -/
def Dev.nextRec (d : Dev) : Option ARec := if d.felt.busy then d.felt.todo.head? else none

/-- A record has been applied: the configuration holds it, and the last one ends the amendment. -/
def Dev.recDone (d : Dev) : Dev :=
  let d1 : Dev := { d with felt := { d.felt with todo := d.felt.todo.tail } }
  if d1.felt.todo = [] then d1.amendDone else d1

/-- Put a record into the configuration in force. -/
def Dev.recApply (d : Dev) (a : ARec) : Dev := { d with felt := { d.felt with cfg := amendCfg d.felt.cfg a } }

/-- A cluster's registers after its move (R56): BOOTVEC, the reset values, PRIOMAX, and FREQREQ within the new pond's bound.
(DEDUCED, log entry 112.) -/
def Dev.clusterRegs (d : Dev) (c pond : Nat) : Dev :=
  let zero := [R.cluSlcores c, R.cluSlice c, R.cluPlacectl c] ++ (List.range 16).flatMap (fun n => [R.cluTmrctl c n, R.cluTmrcnt c n]) ++
    (List.range 8).flatMap (fun k => [R.cluIrqcore c k, R.cluCorectl c k, R.cluRuninfo c k, R.cluRunev c k] ++
      (List.range 32).map (fun i => R.cluRescue c k i))
  let d1 := zero.foldl (fun d o => d.setReg o (regReset o)) d
  let d2 := (d1.setReg (R.cluBootvec c) (word (nvBase + 0xC00000 + 0x20000 * pond))).setRf (R.cluPriomax c) 3 0 (d1.bound 9 pond).2
  d2.clampReg .clu c 0x60 15 0 (0, 65535) (d2.bound 6 pond)

/-- The marks that a pond has on a cluster are disabled (R56). (DEDUCED, log entry 120.) -/
def Dev.marksOff (d : Dev) (c pond : Nat) : Dev :=
  (List.range 16).foldl (fun d n =>
    if markPond d.felt.cfg c n = some pond then d.setRf (R.cluMkctl c n) 31 31 0 else d) d

/-- A cluster changes owner (R56). None: a long operation of a context on it still waits, or an access that its cores made outside the
device has not completed under the old owner (R27). -/
def State.moveCluster (s : State) (c frm dest : Nat) : Option State :=
  if s.dev.ext.any (fun e => decide (e.agent < 256) && decide (e.agent / 8 = c) && decide (e.st ≠ .finished)) then none else
  (s.evacuate c (pondAffinity s.dev.felt.cfg frm &&& (2 ^ 32 - 1 - 2 ^ c))).map (fun s1 =>
    let s2 := s1.onDev (fun d => ((d.marksOff c frm).recApply (.moveCluster c frm dest)))
    let s3 := (s2.domMove (21 + c) 0).onDev (fun d =>
      let d1 := d.clusterRegs c dest
      { d1 with pwr := { d1.pwr with started := d1.pwr.started ||| 2 ^ dest } })
    (List.range 8).foldl (fun s i =>
      let k := 8 * c + i
      match (s.core k).run with
      | .retired | .selfTest => s
      | _ =>
        if s.dev.part.order.core k then
          let s := s.bareCore k
          let deg := bit (s.core k).b0.ms 8
          let off := Core.off k
          let s1 := (s.onDev (fun d => (d.dropCore k).setCslu k CoreSlu.off)).setCore k
            { off with b0 := { off.b0 with ms := setBit off.b0.ms 8 deg }, tlbId := (s.core k).tlbId }
          s1.startCore k
        else s) s3)

/-- MOVE_CLUSTER (R56). -/
def execMoveCluster (s : State) : Host.Outcome State Fault Refusal :=
  match s.dev.nextRec with
  | some (.moveCluster c f t) =>
    match s.moveCluster c f t with
    | some s1 => done (s1.onDev (fun d => d.recDone))
    | none => .next s
  | _ => .next s

/-- MOVE_FUNCTION (R56, R415): the function is reset as FLR resets it, and then changes owner; it waits for the reads outstanding. (DEDUCED, log entry 113.) -/
def execMoveFunction (s : State) : Host.Outcome State Fault Refusal :=
  match s.dev.nextRec with
  | some (.moveFunction f fr t w) =>
    let d0 := s.dev.flrBegin f
    if d0.pep.reads.any (fun r => decide (r.fn = f)) then done { s with dev := d0 }
    else
      done { s with dev :=
        let d1 := (d0.fnReset f).recApply (.moveFunction f fr t w)
        let d2 : Dev := { d1 with pep := { d1.pep with flr := Tab.set (fun _ => false) d1.pep.flr f false } }
        ((((d2.setRf (R.pepFnev f) 63 63 1).edge (0x200 + f))).fnShowAll).recDone }
  | _ => .next s

/-- The queued descriptors of a channel complete with ABORTED (R56); one whose read or write back is refused ends them. (DEDUCED, log entry 111.) -/
def State.dmaAbort (c : Nat) : Nat → State → State
  | 0, s => s
  | n + 1, s =>
    let hd := s.dev.rf (R.dmaHead c) 11 0
    if hd = s.dev.rf (R.dmaTail c) 11 0 then s
    else
      let s0 := s.readNote (s.dev.dmaReq c) (s.dev.dmaDesc c) 32 (s.dev.dmaQos c)
      match s.agentRead (s.dev.dmaReq c) (s.dev.dmaDesc c) 32 with
      | (0, bs) =>
        let s1 := s0.dmaFinish c
          { src := leAt bs 0 8 % 2 ^ 52, dst := leAt bs 8 8 % 2 ^ 52, ctl := word (leAt bs 16 8), posted := none } 5 0
        if s1.dev.rf (R.dmaHead c) 11 0 = hd then s1 else State.dmaAbort c n s1
      | _ => s0.onDev (fun d => d.dmaStop c)

/-- MOVE_DMA (R56): once the descriptor in progress is complete, the queued ones are aborted and the channel changes owner. -/
def execMoveDma (s : State) : Host.Outcome State Fault Refusal :=
  match s.dev.nextRec with
  | some (.moveDma c f t w) =>
    if (s.dev.job c).isSome then .next s
    else done ((State.dmaAbort c 4096 s).onDev (fun d => (d.recApply (.moveDma c f t w)).recDone))
  | _ => .next s

/-- MOVE_IRQ (R56, R271): the source is cleared and masked, its target set is the new pond's, and it has been assigned to no core. -/
def execMoveIrq (s : State) : Host.Outcome State Fault Refusal :=
  match s.dev.nextRec with
  | some (.moveIrq n f t w fl) =>
    done (s.onDev (fun d =>
      let d1 := (((d.setIcBit R.icPendset n false).setIcBit R.icActive n false).setIcBit R.icOvr n false).setIcBit R.icMaskset n true
      let d2 := d1.setReg (R.icSrccfg n) (srcCfgOf t w fl)
      let d3 : Dev := { d2 with ic := { d2.ic with
        asg := Tab.set (fun _ => none) d2.ic.asg n none
        last := Tab.set (fun _ => 255) d2.ic.last n 255
        noTgt := Tab.set (fun _ => false) d2.ic.noTgt n false
        refused := Tab.set (fun _ => false) d2.ic.refused n false } }
      (d3.recApply (.moveIrq n f t w fl)).recDone))
  | _ => .next s

/-- SET_BOUND (R50): the bound changes, and where it is narrowed the registers outside it move to its nearer end. -/
def execSetBound (s : State) : Host.Outcome State Fault Refusal :=
  match s.dev.nextRec with
  | some (.setBound code p lo hi) => done (s.onDev (fun d => ((d.recApply (.setBound code p lo hi)).clampAll d.felt.cfg code).recDone))
  | _ => .next s

/-- SET_HOLD (R459): the hold is in force at once; a domain below its new lowest state wakes to that state, and the record is
complete after the wake. -/
def execSetHold (s : State) : Host.Outcome State Fault Refusal :=
  match s.dev.nextRec with
  | some (.setHold dom l w p) =>
    let d := (s.dev.recApply (.setHold dom l w p)).loadHold dom
    if (d.transOf dom).isSome then done { s with dev := d }
    else if d.domState dom ≤ l then done { s with dev := d.recDone }
    else done { s with dev := d.beginTrans dom { tgt := l, req := false, exit := false, idle := false } }
  | _ => .next s

/-- CLEAR_HOLD (R53). -/
def execClearHold (s : State) : Host.Outcome State Fault Refusal :=
  match s.dev.nextRec with
  | some (.clearHold dom) => done (s.onDev (fun d => ((d.recApply (.clearHold dom)).loadHold dom).recDone))
  | _ => .next s

/-- SET_DEBUG (R432): FELT is loaded and LOW cleared; a core whose invasive enable falls leaves halt (R434). -/
def execSetDebug (s : State) : Host.Outcome State Fault Refusal :=
  match s.dev.nextRec with
  | some (.setDebug p e) =>
    done ((s.onDev (fun d =>
      ((((d.recApply (.setDebug p e)).setRf (R.secDbgen p) 3 0 e).setRf (R.secDbgen p) 7 4 0).dbgenShow p).recDone)).dbgRelease)
  | _ => .next s

/-- SET_MARK (R82): the mark is loaded and enabled. -/
def execSetMark (s : State) : Host.Outcome State Fault Refusal :=
  match s.dev.nextRec with
  | some (.setMark sc n m a p an pe t) =>
    done (s.onDev (fun d => ((d.recApply (.setMark sc n m a p an pe t)).loadMark sc n m a p an pe t).recDone))
  | _ => .next s

/-- SET_SHARE (R53): the pond's share is loaded, as blocking loads it, into every channel. -/
def execSetShare (s : State) : Host.Outcome State Fault Refusal :=
  match s.dev.nextRec with
  | some (.setShare p x) =>
    done (s.onDev (fun d =>
      let d1 := d.recApply (.setShare p x)
      (((List.range 16).filter d.part.order.channel).foldl (fun d ch => d.setRf (R.dmcShare ch p) 6 0 x) d1).recDone))
  | _ => .next s

/-- SET_CAP (R53, R50): the image power cap changes; a runtime cap above it is brought to it. -/
def execSetCap (s : State) : Host.Outcome State Fault Refusal :=
  match s.dev.nextRec with
  | some (.setCap w) => done (s.onDev (fun d => ((d.recApply (.setCap w)).clampAll d.felt.cfg 5).recDone))
  | _ => .next s

end Sys2Proof.Machine
end

