-- ==== Sys2Proof/Machine/Digest.lean ====
section
/-! DEFINITION. The health digest and the management SMBus (17 R500 to R502). -/

namespace Sys2Proof.Machine

/-- The digest's STATE (R500). -/
def Dev.digestState (d : Dev) : Nat :=
  match d.pwr.mode with
  | .reset => 1
  | .stopping => 2
  | .halted => 5
  | .up => if !d.felt.felted then 3 else if d.felt.safe then 4 else 0
  | .watch => 6
  | .off => 7

/-- A bit array in bytes, little-endian. -/
def bitsLE (n : Nat) (f : Nat → Bool) : List Byte :=
  bytesLE (n / 8) (((List.range n).map (fun i => if f i then 2 ^ i else 0)).sum)

/-- A count that saturates in its field of `n` bytes. -/
def satLE (n v : Nat) : List Byte := bytesLE n (min (256 ^ n - 1) v)

/-- The flags at 0x33. -/
def Dev.digestFlags (d : Dev) : Nat :=
  (bit (d.reg R.pwrStatus) 5).toNat + 2 * (bit (d.reg R.pwrStatus) 6).toNat + 4 * (bit (d.reg R.pwrEvent) 3).toNat +
  8 * (decide (d.reg R.secHoldlost ≠ 0)).toNat + 16 * d.pcieLink.toNat + 32 * (decide (d.rf R.secDbustat 63 32 ≠ 0)).toNat +
  64 * (bit (d.reg R.errStatus) 0).toNat + 128 * (bit (d.reg R.secDbustat) 17).toNat

/-- The record at 0xC0: ADDR and DETAIL of a secure access read as zero (R501). (DEDUCED, log entry 221.) -/
def digestRec (bs : List Byte) : List Byte :=
  let b := bs.take 60
  if (leAt b 0x0D 1).testBit 0 then lePut (lePut b 0x10 8 0) 0x28 16 0 else b

/-- A channel's nibble at 0x68. -/
def Chan.digest (c : Chan) : Nat :=
  c.used.toNat + 2 * c.mig.isSome.toNat + 4 * (decide (c.failed ≠ 0)).toNat + 8 * (decide (c.retired ≠ 0)).toNat

/-- The 256 bytes of the digest as the device now stands (R500), with its update number. -/
def State.digestBytes (s : State) (dseq : Nat) : List Byte :=
  let d := s.dev
  let w := d.reg R.wxStatus
  let owning := (setBits ((ponds d.felt.cfg).foldl (fun m p => m ||| 2 ^ p) 0) 32).filter (fun p =>
    decide (pondClusters d.felt.cfg p ≠ 0) && !(d.pwr.started.testBit p))
  let up := decide (d.pwr.mode = .up) || decide (d.pwr.mode = .watch)
  let secs := if up then ((d.reg R.exTick).toNat - d.pwr.bs12) / 1000000000 else 0
  let sum (n : Nat) (f : Nat → Nat) : Nat := ((List.range n).map f).sum
  let a := bytesLE 4 0x44485841 ++ bytesLE 1 1 ++ bytesLE 1 d.digestState ++ bytesLE 1 d.pwr.step ++
    bytesLE 1 (2 ^ d.part.order.bitNo + (if d.part.b0 then 16 else 0)) ++ bytesLE 8 d.part.uid ++ satLE 4 dseq ++ bytesLE 4 s.startNo ++
    satLE 4 secs ++ bytesLE 1 (d.rf R.errStartstat 31 24) ++ bytesLE 1 d.pwr.cause ++ bytesLE 1 (d.rf R.feltStatus 7 0) ++ bytesLE 1 0 ++
    bytesLE 4 (d.rf R.feltVersion 63 32) ++ bytesLE 4 (d.rf R.feltVersion 31 0) ++ bytesLE 1 (d.rf R.atbStatus 7 0) ++
    bytesLE 1 (fld w 3 0 + 16 * fld w 47 46 + 64 * fld w 44 44 + 128 * fld w 45 45) ++ bytesLE 2 (fld w 63 48) ++
    satLE 4 ((d.reg R.atbFreq).toNat / 1000) ++ satLE 2 (d.rf R.pwrPower 31 0 / 1000) ++ bytesLE 1 (d.rf R.pwrTherm 63 56) ++
    bytesLE 1 d.digestFlags
  let b := bytesLE 4 d.pwr.started ++ bytesLE 4 ((owning.map (fun p => 2 ^ p)).sum) ++ bytesLE 4 (d.rf R.secDbustat 63 32) ++
    bitsLE 256 (fun k => d.part.order.core k && s.retiredCore k) ++ bytesLE 4 (s.blockF 2 0x20 4 ||| d.pwr.leftOut) ++
    satLE 2 (d.part.order.cores.filter (fun k => s.retiredL1i k && !(s.retiredCore k))).length ++ bitsLE 16 d.chanServes ++
    bytesLE 8 (sum 16 (fun ch => (d.chan ch).digest * 16 ^ ch)) ++
    bitsLE 128 (fun p => d.linkUp p || (bit (d.reg (R.ethStatus p)) 63 && (ethOwner d.felt.cfg p).isSome))
  let c := bitsLE 136 s.laneRetired ++ bitsLE 8 (fun g => decide (d.spareState g = 3)) ++ bytesLE 2 0 ++ satLE 4 d.err.cor ++
    satLE 4 d.err.unc ++ satLE 4 d.err.trans ++ satLE 4 d.err.lasting ++ satLE 4 (sum 32 (fun c => (d.reg (R.cluLatecnt c)).toNat)) ++
    satLE 4 (sum 8 (fun g => d.rf (R.wxTdbstat g) 63 48)) ++ satLE 4 (d.rf R.errStatus 47 32) ++
    ((d.pwr.outs.map (fun o => BitVec.ofNat 8 (o.1 + 16 * o.2))) ++ List.replicate 12 0#8).take 12 ++ bytesLE 4 0
  let body := a ++ b ++ c ++ digestRec d.err.last
  body ++ bytesLE 4 (crc32 body)

/-- DIGEST_UPDATE (R501): the digest is updated as a whole and DSEQ increments. -/
def execDigestUpdate (s : State) : Host.Outcome State Fault Refusal :=
  let bs := s.digestBytes (satAdd (2 ^ 32 - 1) (leAt s.dev.digest 0x10 4) 1)
  .next (s.onDev (fun d => { d with digest := bs }))

/-- DIGEST_SNAPSHOT (R502): command 0x10 keeps a snapshot and returns its first 32 bytes. -/
def execDigestSnapshot (s : State) : Host.Outcome State Fault Refusal :=
  .next (s.onDev (fun d => { d with pwr := { d.pwr with snap := some d.digest, smb := d.digest.take 32 } }))

/-- DIGEST_PIECE (R502): command n, 0x11 to 0x17, returns a further piece of the snapshot that is kept. -/
def execDigestPiece (n : Nat) (s : State) : Host.Outcome State Fault Refusal :=
  match s.dev.pwr.snap with
  | some bs =>
    if 0x11 ≤ n ∧ n ≤ 0x17 then
      .next (s.onDev (fun d => { d with pwr := { d.pwr with smb := (bs.drop (32 * (n - 0x10))).take 32 } }))
    else .next s
  | none => .next s

/-- DIGEST_SNAPSHOT_EXPIRY (R502): after 1 s. -/
def execDigestSnapshotExpiry (s : State) : Host.Outcome State Fault Refusal :=
  .next (s.onDev (fun d => { d with pwr := { d.pwr with snap := none } }))

end Sys2Proof.Machine
end

