-- ==== Sys2Proof/Machine/Eth.lean ====
section
/-! DEFINITION. The Ethernet MAC: timestamps, classification and rings (13 R374 to R385). -/

namespace Sys2Proof.Machine

/-- Whether the destination filter passes a frame (R379). -/
def Dev.ethFilter (d : Dev) (p : Nat) (h : EthHead) : Bool :=
  bit (d.reg (R.ethCtl p)) 2 || decide (h.dst = d.rf (R.ethMacaddr p) 47 0) || decide (h.dst = 0xFFFFFFFFFFFF) ||
  decide (h.dst = 0x0180C200000E) || decide (h.dst = 0x011B19000000) ||
  (List.range 64).any (fun n => bit (d.reg (R.ethMcast p n)) 63 && decide (d.rf (R.ethMcast p n) 47 0 = h.dst))

/-- Whether rule `n` matches (R380). -/
def Dev.ruleHit (d : Dev) (p n : Nat) (h : EthHead) : Bool :=
  let a := d.reg (R.ethRulea p n)
  bit (d.reg (R.ethRuleb p n)) 63 &&
  (!(bit a 63) || decide (h.etype = fld a 31 16)) &&
  (!(bit a 62) || decide (h.tag.map (fun t => t % 4096) = some (fld a 43 32))) &&
  (!(bit a 61) || decide (h.appid = some (fld a 15 0))) &&
  (!(bit a 60) || decide (h.dst = d.rf (R.ethMcast p (fld a 59 54)) 47 0))

/-- The ring of a frame no rule matches (R380). -/
def ringOf (etype : Nat) : Nat := if etype = 0x88BA then 1 else if etype = 0x88B8 then 2 else if etype = 0x88F7 then 3 else 0

/-- Entries of a ring (R382). (DEDUCED, log entry 164.) -/
def ringSize (k : Nat) : Nat := 2 ^ (max 4 (min 12 k))

/-- Count in a port counter. -/
def Dev.ethCount (d : Dev) (off : Nat) : Dev := d.wrapAdd off 63 0 1

/-- A ring stops (R384). (DEDUCED, log entry 165.) -/
def Dev.ringStop (d : Dev) (p r : Nat) : Dev := (d.setRf (R.ethStatus p) r r 1).edge (0x40 + p)

/-- The requester of a port's ring accesses (R382). -/
def Dev.ethReq (d : Dev) (p : Nat) : Req :=
  match ethOwner d.felt.cfg p with
  | some (q, sec) => { pond := q, secure := sec, dev := false, dbg := false }
  | none => { pond := 32, secure := false, dev := false, dbg := false }

/-- Interrupt source of a ring (R374). -/
def Dev.ringSrc (d : Dev) (p r : Nat) : Nat := 0xC0 + 4 * d.rf (R.ethStatus p) 52 48 + r

/-- A receive descriptor has been written back (R383): the ring's edge when ITHR have been. -/
def Dev.wroteBack (d : Dev) (p r : Nat) : Dev :=
  let k := 4 * p + r
  let n := Tab.get (fun _ => 0) d.lane.wback k + 1
  let put (d : Dev) (n : Nat) : Dev := { d with lane := { d.lane with wback := Tab.set (fun _ => 0) d.lane.wback k n } }
  if max 1 (d.rf (R.ethRxctl p r) 23 16) ≤ n then (put d 0).edge (d.ringSrc p r) else put d n

/-- Deliver a frame to a receive ring (R382 to R384). -/
def State.ringDeliver (s : State) (p r : Nat) (rule : Option Nat) (h : EthHead) (data : List Byte) (ts : Word) : State :=
  let drop (s : State) : State := s.onDev (fun d => d.ethCount (R.ethRxdrop p r))
  let d := s.dev
  let ctl := d.reg (R.ethRxctl p r)
  let hd := d.rf (R.ethRxhead p r) 11 0
  let n := ringSize (fld ctl 3 0)
  if bit (d.reg (R.ethStatus p)) r || decide (hd = d.rf (R.ethRxtail p r) 11 0) then drop s
  else
    let rq := d.ethReq p
    let da := (d.reg (R.ethRxbase p r)).toNat + 32 * (hd % n)
    let qos := fld ctl 47 46
    let s0 := s.readNote rq da 32 qos
    match s.agentRead rq da 32 with
    | (0, desc) =>
      let c := word (leAt desc 8 8)
      if !(bit c 63) then drop s0
      else
        let size := fld c 15 0
        let stash := match rule with
          | some k => if bit (d.reg (R.ethRuleb p k)) 61 then some (d.rf (R.ethRuleb p k) 55 48)
              else if bit ctl 62 then some (fld ctl 55 48) else none
          | none => if bit ctl 62 then some (fld ctl 55 48) else none
        let put := data.take size
        let (st, s1) := s0.agentWrite rq (leAt desc 0 8 / 64 * 64 % 2 ^ 52) put stash qos
        let c1 : Word := setFld (setFld (setFld (setFld (setFld (setFld (setFld (setFld 0 62 62 (decide (size < data.length)).toNat)
          61 61 h.tag.isSome.toNat) 60 60 rule.isSome.toNat) 59 56 st) 55 52 (rule.getD 0)) 47 32 (h.tag.getD 0))
          31 16 put.length) 15 0 size
        let (st2, s2) := s1.agentWrite rq (da + 8) (bytesLE 8 c1.toNat ++ bytesLE 8 ts.toNat ++ bytesLE 8 (d.reg R.atbNow).toNat) none qos
        if st2 ≠ 0 then s2.onDev (fun d => d.ringStop p r)
        else s2.onDev (fun d => (d.setRf (R.ethRxhead p r) 11 0 ((hd + 1) % n)).wroteBack p r)
    | _ => s0.onDev (fun d => d.ringStop p r)

/-- FRAME_RECEIVE (R375 to R383): a frame arrives with its FCS; `half`: in the second half of the tick. (PRESUMED, log entry 163.) -/
def execFrameReceive (port : Nat) (frame : List Byte) (half : Bool) (s : State) : Host.Outcome State Fault Refusal :=
  if (ethOwner s.dev.felt.cfg port).isNone ∨ !(s.dev.part.order.port port) ∨ !(bit (s.dev.reg (R.ethStatus port)) 63) then .next s
  else
    let n := frame.length
    let data := frame.take (n - 4)
    let h := ethHead data
    if 2000 < n then done (s.onDev (fun d => d.ethCount (R.ethRxlong port)))
    else if n < 64 then done (s.onDev (fun d => d.ethCount (R.ethRxrunt port)))
    else if leAt frame (n - 4) 4 ≠ crc32 data then done (s.onDev (fun d => d.ethCount (R.ethRxfcs port)))
    else if h.etype = 0x8808 then done (s.onDev (fun d => d.ethCount (R.ethRxpause port)))
    else
      let feeds := s.dev.felt.cfg.filter (fun r => match r with
        | .atbSource _ 2 i _ sel => decide (i = port) && decide (h.etype = 0x88BA) && decide (h.appid = some sel)
        | .atbSource _ 3 i _ _ => decide (i = port) && decide (h.etype = 0x88F7)
        | _ => false)
      let ts := s.dev.stamp port half false
      let s1 := feeds.foldl (fun s r => match r with
        | .atbSource p 2 _ _ _ => s.onDev (fun d => d.svFeed p data h ts)
        | .atbSource _ 3 _ _ sel => s.ptpFeed port sel data h ts
        | _ => s) (s.onDev (fun d => d.wrapAdd (R.ethAtbfeed port) 63 0 feeds.length))
      if !(s1.dev.ethFilter port h) then done (s1.onDev (fun d => d.ethCount (R.ethRxfilt port)))
      else
        let rule := (List.range 16).find? (fun k => s1.dev.ruleHit port k h)
        match rule with
        | some k =>
          if bit (s1.dev.reg (R.ethRuleb port k)) 62 then done (s1.onDev (fun d => d.ethCount (R.ethRxfilt port)))
          else if bit (s1.dev.reg (R.ethCtl port)) 0 then
            done (s1.ringDeliver port (s1.dev.rf (R.ethRuleb port k) 1 0) rule h data ts)
          else done s1
        | none =>
          if bit (s1.dev.reg (R.ethCtl port)) 0 then done (s1.ringDeliver port (ringOf h.etype) none h data ts) else done s1

/-- Replace bytes of a frame. -/
def putAt (bs : List Byte) (off : Nat) (v : List Byte) : List Byte := bs.take off ++ v ++ bs.drop (off + v.length)

/-- The one-step change of a PTP frame (R378): `t` is the PTP time at the transmit timestamp in 2^-16 ns. The places of the
fields in the message are those of IEEE 1588 (PRESUMED, log entry 14). -/
def oneStep (f : List Byte) (t : Int) (ingress : Word) : List Byte :=
  let h := ethHead f
  let now := (t / 65536).toNat
  if h.etype ≠ 0x88F7 then f
  else
    match (f.getD h.body 0).toNat % 16 with
    | 0 => putAt f (h.body + 34) (bytesBE 6 (now / 10 ^ 9) ++ bytesBE 4 (now % 10 ^ 9))
    | 3 => putAt f (h.body + 8) (bytesBE 8 (word (beAt f (h.body + 8) 8) + wordOfInt t - ingress * 65536).toNat)
    | _ => f

/-- A frame on the wire: padded to 64 bytes with its FCS, or with the FCS inverted (R375, R385). -/
def wireFrame (f : List Byte) (bad : Bool) : List Byte :=
  let g := f ++ List.replicate (60 - f.length) 0
  let c := crc32 g
  g ++ bytesLE 4 (if bad then 0xFFFFFFFF - c else c)

/-- The transmit ring served next: the highest that holds a descriptor and is not stopped (R385). -/
def Dev.txRing (d : Dev) (p : Nat) : Option Nat :=
  [3, 2, 1, 0].find? (fun r => decide (d.rf (R.ethTxhead p r) 11 0 ≠ d.rf (R.ethTxtail p r) 11 0) && !(bit (d.reg (R.ethStatus p)) r))

/-- The MAC sends the first frame of its PTP queue (R385); while the link is down it is not sent. -/
def Dev.ptpTransmit (d : Dev) (port : Nat) (half : Bool) (f : List Byte) (rest : List (List Byte)) : Dev :=
  let d1 := d.setPtpQueue port rest
  if !(bit (d.reg (R.ethStatus port)) 63) then d1
  else
    ({ d1 with lane := { d1.lane with frame := Tab.set (fun _ => []) d1.lane.frame port (wireFrame f false) } } : Dev).ptpSent port f
      (d.stamp port half true)

/-- FRAME_TRANSMIT (R376, R378, R381, R382, R385): the MAC sends the next frame of its PTP queue, else of the next descriptor.
(DEDUCED, log entry 166.) -/
def execFrameTransmit (port : Nat) (half : Bool) (s : State) : Host.Outcome State Fault Refusal :=
  let d := s.dev
  if (ethOwner d.felt.cfg port).isNone ∨ !(d.part.order.port port) then .next s
  else
    match d.ptpQueue port, (if bit (d.reg (R.ethCtl port)) 1 then d.txRing port else none) with
    | f :: rest, _ => done (s.onDev (fun d => d.ptpTransmit port half f rest))
    | [], none => .next s
    | [], some r =>
      let rq := d.ethReq port
      let hd := d.rf (R.ethTxhead port r) 11 0
      let n := ringSize (d.rf (R.ethTxctl port r) 3 0)
      let da := (d.reg (R.ethTxbase port r)).toNat + 32 * (hd % n)
      let qos := d.rf (R.ethRxctl port r) 47 46
      let s0 := s.readNote rq da 32 qos
      match s.agentRead rq da 32 with
      | (0, desc) =>
        let c := word (leAt desc 8 8)
        if !(bit c 63) then done s0
        else
          let finish (st : Nat) (ts : Option Word) (s : State) : Host.Outcome State Fault Refusal :=
            let c1 := setFld (setFld c 63 63 0) 59 56 st
            let (st2, s1) := s.agentWrite rq (da + 8) (bytesLE 8 c1.toNat ++ (match ts with
              | some t => bytesLE 8 t.toNat
              | none => [])) none qos
            if st2 ≠ 0 then done (s1.onDev (fun d => d.ringStop port r))
            else done (s1.onDev (fun d => d.setRf (R.ethTxhead port r) 11 0 ((hd + 1) % n)))
          if !(bit (d.reg (R.ethStatus port)) 63) then finish 5 none s0
          else
            let len := fld c 15 0
            let (st, data) := s.agentRead rq (leAt desc 0 8 / 64 * 64 % 2 ^ 52) len
            let s2 := s0.readNote rq (leAt desc 0 8 / 64 * 64 % 2 ^ 52) len qos
            let ts := d.stamp port half true
            let sent (f : List Byte) (bad : Bool) : State := s2.onDev (fun d =>
              { d with lane := { d.lane with frame := Tab.set (fun _ => []) d.lane.frame port (wireFrame f bad) } })
            let tsw := if bit c 62 then some ts else none
            if st = 6 then finish 6 tsw (sent (s.mem.bytes (leAt desc 0 8 / 64 * 64 % 2 ^ 52) len) true)
            else if st ≠ 0 then finish st none s2
            else
              let f := if bit c 61 then oneStep data (d.ptpTime ts) (word (leAt desc 0x18 8)) else data
              finish 0 tsw (sent f false)
      | _ => done (s0.onDev (fun d => d.ringStop port r))

/-- RING_ITIME_EXPIRY (R383): ITIME µs after the first descriptor written back since the last edge. -/
def execRingItimeExpiry (port : Nat) (ring : Nat) (s : State) : Host.Outcome State Fault Refusal :=
  let k := 4 * port + ring
  if 4 ≤ ring ∨ Tab.get (fun _ => 0) s.dev.lane.wback k = 0 ∨ s.dev.rf (R.ethRxctl port ring) 43 32 = 0 then .next s
  else
    done (s.onDev (fun d => ({ d with lane := { d.lane with wback := Tab.set (fun _ => 0) d.lane.wback k 0 } } : Dev).edge
      (d.ringSrc port ring)))

/-- RING_RESTART (R384): a write of RXCTLr with RESTART = 1 and its other fields as they are. -/
def execRingRestart (rq : Req) (port : Nat) (ring : Nat) (s : State) : Host.Outcome State Fault Refusal :=
  if 4 ≤ ring ∨ 128 ≤ port then .next s
  else done (s.regWrite rq (R.ethRxctl port ring) 8 (setBit (s.dev.reg (R.ethRxctl port ring)) 63 true))

/-- ETHERNET_LINK_DOWN (R374, R385): the port's lane trains again. -/
def execEthernetLinkDown (port : Nat) (s : State) : Host.Outcome State Fault Refusal :=
  if (ethOwner s.dev.felt.cfg port).isSome && bit (s.dev.reg (R.ethStatus port)) 63 then
    done (s.onDev (fun d => (d.ethLink port false).retrain port))
  else .next s

/-- PTPSTEP (R377): a write of EX.PTPSTEP; its value is added at the next tick. (DEDUCED, log entry 109.) -/
def execPtpstep (rq : Req) (value : Word) (s : State) : Host.Outcome State Fault Refusal :=
  done (s.regWrite rq R.exPtpstep 8 value)

end Sys2Proof.Machine
end

