-- ==== Sys2Proof/Machine/PepEvents.lean ====
section
/-! DEFINITION. The commands of the host endpoint that do not go through BAR0: configuration, function resets, outbound
requests, and the pond's side of the job queues (14 R387 to R406, R412 to R416). -/

namespace Sys2Proof.Machine

/-! ### Job queues -/

/-- Words of a queue context (R403). -/
def QPair.cw (x : QPair) (i : Nat) : Word := x.ctx.getD i 0

/-- Handle fetched SQ entries in order (R404): into the job ring, or refused with a CQ entry when it is full. (DEDUCED, log entry 171.) -/
def State.sqHandle (f q : Nat) : Nat → State → State
  | 0, s => s
  | n + 1, s =>
    let x := s.dev.qp f q
    let at1 := s.dev.hf f (qCtl q) 27 16
    match x.got.find? (fun e => decide (e.1 = at1)) with
    | none => s
    | some e =>
      let next := (at1 + 1) % s.dev.sqSize f q
      let x1 : QPair := { x with got := x.got.erase e, copied := true }
      let refuse (st : Nat) (s : State) : State :=
        if s.dev.cqRoom f q then
          State.sqHandle f q n (s.onDev (fun d =>
            let d1 := ((d.setQp f q x1).setHf f (qCtl q) 27 16 next)
            let d2 := d1.cqEntry f q (leAt e.2 0 2) st 0
            if st = 2 then d2.fnEvent f 0 else d2))
        else s
      if (x.jtail + 1) % x.jrSize = x.jhead then refuse 2 s
      else
        let (st, s1) := s.agentWrite (s.dev.fnReq f) ((x.cw 0).toNat / 64 * 64 % 2 ^ 52 + 64 * x.jtail) e.2 none
        if st ≠ 0 then (if s.dev.cqRoom f q then refuse st s1 else s)
        else State.sqHandle f q n (s1.onDev (fun d =>
          (d.setQp f q { x1 with jtail := (x.jtail + 1) % x.jrSize }).setHf f (qCtl q) 27 16 next))

/-- After a batch (R404): the job ring tail is written, then one event is raised or the source pends. -/
def State.batchEnd (s : State) (f q : Nat) : State :=
  let x := s.dev.qp f q
  if x.copied ∧ s.dev.hf f (qCtl q) 27 16 = x.sqtail then
    let s1 := (s.agentWrite (s.dev.fnReq f) ((x.cw 2).toNat % 2 ^ 52) (bytesLE 8 x.jtail) none).2
    let c := x.cw 1
    s1.onDev (fun d => (d.setQp f q { d.qp f q with copied := false }).hostBell f
      (if bit c 63 then some (fld c 30 26, fld c 25 16) else none))
  else s

/-- Let a queue pair go on: handle what has been fetched, end the batch, fetch more. -/
def State.sqRun (s : State) (f q : Nat) : State :=
  ((State.sqHandle f q (s.dev.qp f q).got.length s).batchEnd f q).onDev (fun d => d.sqFetch f q)

/-- Copy completion ring entries to the CQ while it has room (R405). -/
def State.cqCopy (f q : Nat) : Nat → State → State
  | 0, s => s
  | n + 1, s =>
    let x := s.dev.qp f q
    if x.chead = x.ctail ∨ !(s.dev.cqRoom f q) ∨ !(s.dev.mayBus f) ∨ !(s.dev.qact f q) then s
    else
      let s0 := s.readNote (s.dev.fnReq f) ((x.cw 3).toNat / 64 * 64 % 2 ^ 52 + 16 * x.chead) 16
      match s.agentRead (s.dev.fnReq f) ((x.cw 3).toNat / 64 * 64 % 2 ^ 52 + 16 * x.chead) 16 with
      | (0, bs) =>
        State.cqCopy f q n (s0.onDev (fun d =>
          (d.setQp f q { x with chead := (x.chead + 1) % x.crSize }).cqEntry f q (leAt bs 0 2) (leAt bs 2 1 % 16) (word (leAt bs 8 8))))
      | _ => s0

/-- The same with what follows a batch: CRHP, and the vector if IEN = 1 (R405). -/
def State.cqRun (s : State) (f q : Nat) : State :=
  let h := (s.dev.qp f q).chead
  let s1 := State.cqCopy f q (s.dev.qp f q).crSize s
  let x := s1.dev.qp f q
  if x.chead = h then s1
  else
    let s2 := (s1.agentWrite (s1.dev.fnReq f) ((x.cw 5).toNat % 2 ^ 52) (bytesLE 8 x.chead) none).2
    if bit (s2.dev.hreg f (qCtl q)) 62 then s2.onDev (fun d => d.msix f (d.hf f (qCtl q) 55 48)) else s2

/-- A function may send again: its queue pairs and pending vectors go on (R414). -/
def State.fnRun (s : State) (f : Nat) : State :=
  if s.dev.mayBus f then
    (List.range (s.dev.qlimit f)).foldl (fun s q => if s.dev.qact f q then (s.sqRun f q).cqRun f q else s) (s.onDev (fun d => d.msixFlush f))
  else s

/-- The oldest QCMD write, when it is of a command. -/
def Dev.nextQcmd (d : Dev) (c : Nat) : Option (Nat × Nat × Nat × Dev) :=
  match d.pep.qcmd with
  | (f, q, c', l) :: rest => if c' = c then some (f, q, l, { d with pep := { d.pep with qcmd := rest } }) else none
  | [] => none

/-- The pond of a function. -/
def Dev.fnPond (d : Dev) (f : Nat) : Nat := ((fnOwner d.felt.cfg f).map (·.1)).getD 0

/-- QCTL.ACT follows R402, and FNEVENT.QCHG tells the host. -/
def Dev.actShow (d : Dev) (f q : Nat) : Dev := d.setHf f (qCtl q) 61 61 (d.qact f q).toNat

/-- ENABLE (R402, R403): the oldest QCMD write is an ENABLE: the endpoint reads the queue context, and both queues begin at their first
entry. It keeps the context of a pair that is enabled. (DESIGN CHOICE, log entry 260.) -/
def execEnable (s : State) : Host.Outcome State Fault Refusal :=
  match s.dev.nextQcmd 1 with
  | none => .next s
  | some (f, q, _, d) =>
    let p := d.fnPond f
    let s0 : State := { s with dev := d }
    if d.qlimit f ≤ q then done (s0.onDev (fun d => d.qcmdStat p f q 3))
    else if (d.qp f q).on then done (s0.onDev (fun d => d.qcmdStat p f q 0))
    else
      let sn := s0.readNote (d.fnReq f) ((d.reg (R.pepQctxbase f)).toNat / 64 * 64 + 64 * q) 64
      match s0.agentRead (d.fnReq f) ((d.reg (R.pepQctxbase f)).toNat / 64 * 64 + 64 * q) 64 with
      | (0, bs) =>
        let ctx := (List.range 8).map (fun i => word (leAt bs (8 * i) 8))
        let s1 := sn.onDev (fun d =>
          (((((d.setQp f q { QPair.off with on := true, ctx := ctx }).setHf f (qCtl q) 27 16 0).setHf f (qCtl q) 11 0 0).actShow
            f q).qcmdStat p f q 0).fnEvent f 4)
        done (s1.sqRun f q)
      | (st, _) => done (sn.onDev (fun d => d.qcmdStat p f q st))

/-- DISABLE (R402, R403). -/
def execDisable (s : State) : Host.Outcome State Fault Refusal :=
  match s.dev.nextQcmd 2 with
  | none => .next s
  | some (f, q, _, d) => done { s with dev := (((d.setQp f q QPair.off).actShow f q).qcmdStat (d.fnPond f) f q 0).fnEvent f 4 }

/-- SETLIMIT (R402): refused below a queue pair that the pond has enabled, or above 64. -/
def execSetlimit (s : State) : Host.Outcome State Fault Refusal :=
  match s.dev.nextQcmd 3 with
  | none => .next s
  | some (f, q, l, d) =>
    let p := d.fnPond f
    if 64 < l ∨ (List.range 64).any (fun k => decide (l ≤ k) && (d.qp f k).on) then done { s with dev := d.qcmdStat p f q 3 }
    else
      let d1 := d.setRf (R.pepFncfg f) 45 39 l
      done { s with dev := (((List.range 64).foldl (fun d k => d.actShow f k) d1).qcmdStat p f q 0).fnEvent f 4 }

/-- The oldest QDB write, when it is of a kind. -/
def Dev.nextQdb (d : Dev) (kind : Nat) : Option (Nat × Nat × Nat × Dev) :=
  match d.pep.qdb with
  | (f, q, k, v) :: rest => if k = kind then some (f, q, v, { d with pep := { d.pep with qdb := rest } }) else none
  | [] => none

/-- JOB_RING_HEAD (R404): the oldest QDB write reports consumption. -/
def execJobRingHead (s : State) : Host.Outcome State Fault Refusal :=
  match s.dev.nextQdb 0 with
  | none => .next s
  | some (f, q, v, d) =>
    if (d.qp f q).on then done (State.sqRun { s with dev := d.setQp f q { d.qp f q with jhead := v % (d.qp f q).jrSize } } f q)
    else done { s with dev := d }

/-- COMPLETION_RING_TAIL (R405): the oldest QDB write gives the completion ring's tail. -/
def execCompletionRingTail (s : State) : Host.Outcome State Fault Refusal :=
  match s.dev.nextQdb 1 with
  | none => .next s
  | some (f, q, v, d) =>
    if (d.qp f q).on then done (State.cqRun { s with dev := d.setQp f q { d.qp f q with ctail := v % (d.qp f q).crSize } } f q)
    else done { s with dev := d }

/-! ### Outbound requests -/

/-- The accesses the endpoint may send next (R398): accepted, behind no older one of the same agent, ordering tag and class (R218), a
read only while tags are free for its requests (R387). -/
def Dev.outReady (d : Dev) : List ExtAcc :=
  let l := d.ext.filter (fun e => !e.weir && decide (e.st = .accepted))
  l.filter (fun e =>
    decide (l.find? (fun x => decide (x.agent = e.agent) && decide (x.otag = e.otag) && decide (x.qos = e.qos)) = some e) &&
    (e.write || decide (d.pep.reads.length + (splitAt4k d.mrrs (e.size + 1) e.host e.size).length ≤ 768)))

/-- The next function after the one served last, in number order, that `p` admits and that has a request ready. -/
def Dev.nextFn (d : Dev) (l : List ExtAcc) (p : Nat → Bool) : Option Nat :=
  ((List.range 129).map (fun i => (d.pep.served + 1 + i) % 129)).find? (fun f => p f && l.any (fun e => e.ofFn f))

/-- Requests that a function may still send in the present round. -/
def Dev.fnCredit (d : Dev) (f : Nat) : Nat := d.pep.round.getD f 0

/-- A round begins: each function may send SHARE requests in it, so that a change of SHARE applies from the next round (R401).
(DESIGN CHOICE, log entry 249.) -/
def Dev.newRound (d : Dev) : Dev :=
  { d with pep := { d.pep with round := (List.range 129).map (fun f => d.rf (R.pepFncfg f) 52 46) } }

/-- A function is served. -/
def Dev.serveFn (d : Dev) (f : Nat) : Dev :=
  { d with pep := { d.pep with served := f, round := d.pep.round.set f (d.fnCredit f - 1) } }

/-- The request sent next (R401): the oldest angle-critical one; else that of the weighted round robin over the functions; one of a
function without a share only when no function with a share has one ready. -/
def Dev.outNext (d : Dev) : Option (ExtAcc × Dev) :=
  let l := d.outReady
  let first (f : Nat) (d : Dev) : Option (ExtAcc × Dev) := (l.find? (fun e => e.ofFn f)).map (fun e => (e, d.serveFn f))
  match l.find? (fun e => decide (e.qos = 0)) with
  | some e => some (e, d)
  | none =>
    match d.nextFn l (fun f => decide (0 < d.fnCredit f)) with
    | some f => first f d
    | none =>
      let d1 := d.newRound
      match d1.nextFn l (fun f => decide (0 < d1.fnCredit f)) with
      | some f => first f d1
      | none => (d1.nextFn l (fun _ => true)).bind (fun f => first f d1)

/-- OUTBOUND_ACCESS (R398, R399, R401): the access that the arbitration chooses becomes memory requests; its owner was checked when
the endpoint accepted it (R27). While its function may not send or the link is down it completes with ABORTED. -/
def execOutboundAccess (s : State) : Host.Outcome State Fault Refusal :=
  match s.dev.outNext with
  | none => .next s
  | some (e, d) =>
    let f := (e.pa - hostBase) / 2 ^ 36
    let s1 : State := { s with dev := d }
    if !(d.mayBus f) then done ((s1.hostBad e.pa 5).onDev (fun d => d.finishHost e 5 []))
    else if e.write then done (s1.onDev (fun d => d.sendOut f e))
    else
      done (s1.onDev (fun d =>
        let d1 := (splitAt4k d.mrrs (e.size + 1) e.host e.size).foldl
          (fun d p => (d.sendRead f p.1 p.2 (.access e.agent e.pa (p.1 - e.host))).2) d
        { d1 with ext := d1.ext.map (fun x => if x = e then
            { x with st := .sent, data := List.replicate e.size 0, status := 0 } else x) }))

/-- A read of an access ends with a status: the access is finished when none of its reads is outstanding. -/
def Dev.accessDone (d : Dev) (agent pa off status : Nat) (data : List Byte) : Dev :=
  let more := d.pep.reads.any (fun r => match r.use with
    | .access a p _ => decide (a = agent) && decide (p = pa)
    | _ => false)
  { d with ext := d.ext.map (fun e =>
      if !e.weir && decide (e.agent = agent) && decide (e.pa = pa) && decide (e.st = .sent) && !e.write then
        { e with status := if e.status ≠ 0 then e.status else status
                 data := if status = 0 then e.data.take off ++ data ++ e.data.drop (off + data.length) else e.data
                 st := if more then .sent else .finished }
      else e) }

/-- A read of a dirty map word ends (R412): the waiting bits are set and the word is written back, or ERR is set. -/
def Dev.dirtyDone (d : Dev) (v sel w status : Nat) (data : List Byte) : Dev :=
  let mineOf (e : Nat × Nat × Nat) : Bool := decide (e.1 = v) && decide (e.2.1 = sel) && decide (e.2.2 / 64 = w)
  let bits := (d.pep.dirty.filter mineOf).map (fun e => e.2.2 % 64)
  let d1 : Dev := { d with pep := { d.pep with dirty := d.pep.dirty.filter (fun e => !(mineOf e)) } }
  let d2 :=
    if status = 0 then
      let x := bits.foldl (fun x b => x ||| 2 ^ b) (ofBytesLE data)
      d1.putTlp v [(d.mapWord v sel w, bytesLE 8 x)] false
    else d1.setHf 0 (dlCtl v) 60 60 1
  if d2.pep.dirty.any (fun e => decide (e.1 = v) && decide (e.2.1 ≠ (bit (d2.hreg 0 (dlCtl v)) 62).toNat)) then d2
  else d2.setHf 0 (dlCtl v) 61 61 1

/-- A read ends with a status: what it was for goes on. A function in reset or with Bus Master Enable = 0 discards the data and
completes the access with ABORTED (R414, R415). -/
def State.readDone (s : State) (r : PRead) (st : Nat) (data : List Byte) : State :=
  let off := !(s.dev.bme r.fn) || s.dev.flrBusy r.fn
  let status := if off then 5 else st
  let s1 := s.onDev (fun d => { d with pep := { d.pep with reads := d.pep.reads.filter (fun x => decide (x.tag ≠ r.tag)) } })
  match r.use with
  | .access agent pa o =>
    s1.onDev (fun d =>
      let d1 := if status = 0 then d else d.outBad r.fn status ((pa - hostBase) % 2 ^ 44)
      d1.accessDone agent pa o status data)
  | .entry q i =>
    let x := s1.dev.qp r.fn q
    let n := s1.dev.sqSize r.fn q
    let far (j : Nat) : Nat := (j + n - s1.dev.hf r.fn (qCtl q) 27 16) % n
    -- an entry asked for, not yet handled and not yet here
    let due := x.on && decide (far i < far x.asked) && !(x.got.any (fun e => decide (e.1 = i)))
    if !due then s1
    else if status = 0 then (s1.onDev (fun d => d.setQp r.fn q { x with got := x.got ++ [(i, data)] })).sqRun r.fn q
    else s1.onDev (fun d =>
      let d1 := d.setQp r.fn q { x with asked := i }
      if off then d1 else d1.outBad r.fn status 0)
  | .dirty v sel w => s1.onDev (fun d => (d.dirtyDone v sel w status data).dirtyPump)

/-- PCIE_COMPLETION (R399, R400): `status` 0 successful, 1 Unsupported Request, 2 Completer Abort; `poisoned`: EP = 1. One for a
squashed tag is discarded and counted. -/
def execPcieCompletion (tag status : Nat) (poisoned : Bool) (data : List Byte) (s : State) : Host.Outcome State Fault Refusal :=
  match s.dev.pep.reads.find? (fun r => decide (r.tag = tag)) with
  | some r =>
    if status ≠ 0 then done (s.readDone r 3 [])
    else if poisoned then done (s.readDone r 6 [])
    else
      let got := (r.got ++ data).take r.len
      if got.length < r.len then
        done (s.onDev (fun d => { d with pep := { d.pep with reads := d.pep.reads.map (fun x =>
          if x.tag = tag then { x with got := got } else x) } }))
      else done (s.readDone r 0 got)
  | none =>
    match s.dev.pep.squash.find? (fun x => decide (x.1 = tag)) with
    | some x => done (s.onDev (fun d => d.satInc (R.pepOutfail x.2) 59 48))
    | none => .next s

/-- COMPLETION_TIMEOUT (R400, R415): a read without a completion for CPLTIMEOUT: TIMEOUT, its tag is held, AER logs it. -/
def execCompletionTimeout (tag : Nat) (s : State) : Host.Outcome State Fault Refusal :=
  match s.dev.pep.reads.find? (fun r => decide (r.tag = tag)) with
  | none => .next s
  | some r =>
    done ((s.readDone r 7 []).onDev (fun d =>
      ({ d with pep := { d.pep with squash := d.pep.squash ++ [(tag, r.fn)] } } : Dev).aer 14))

/-- SQUASHED_TAG_RELEASE (R400). -/
def execSquashedTagRelease (tag : Nat) (s : State) : Host.Outcome State Fault Refusal :=
  done (s.onDev (fun d => { d with pep := { d.pep with squash := d.pep.squash.filter (fun x => decide (x.1 ≠ tag)) } }))

/-- CPLTIMEOUT_WRITE (R400): a write of PEP.CPLTIMEOUTf. -/
def execCpltimeoutWrite (rq : Req) (fn : Nat) (value : Word) (s : State) : Host.Outcome State Fault Refusal :=
  if fn ≤ 128 then done (s.regWrite rq (R.pepCpltimeout fn) 8 value) else .next s

/-! ### Configuration space and function reset -/

/-- The effects of a change of configuration space: Bus Master Enable, VF Enable, the functions' shown state. -/
def State.cfgChanged (s : State) (was : Dev) : State :=
  let fs := (List.range 129).filter (fun f => decide (was.bme f ≠ s.dev.bme f))
  let s1 := s.onDev (fun d =>
    let d1 := fs.foldl (fun d f => if was.bme f then (d.abortFn f false).setRf (R.pepFnev f) 62 62 1 else d) d
    let d2 := if was.vfEnable && !d.vfEnable then
        ((List.range 129).filter (fun f => decide (1 ≤ f) && was.fnExists f)).foldl (fun d f => d.flrBegin f) d1
      else d1
    d2.takeB2log.fnShowAll)
  fs.foldl (fun s f => s.fnRun f) s1

/-- CONFIG_WRITE (R388 to R392, R410, R414 to R416): a configuration write of 1, 2 or 4 bytes within a dword. -/
def execConfigWrite (fn off size value : Nat) (s : State) : Host.Outcome State Fault Refusal :=
  let o := off / 4 * 4
  let sh := 8 * (off % 4)
  if !(s.dev.fnExists fn) ∨ 4096 ≤ off ∨ !([1, 2, 4].contains size) ∨ 4 < off % 4 + size then .next s
  else
    let reach := (2 ^ (8 * size) - 1) * 2 ^ sh
    let v := value % 2 ^ (8 * size) * 2 ^ sh
    if o = 0x58 ∧ (v &&& reach).testBit 15 then
      done ((s.onDev (fun d => d.flrBegin fn)))
    else
      let old := s.dev.cfg fn o
      let m := (cfgMask s.dev.pep.b2log fn o) &&& reach
      let keep := o = 0x160 ∧ s.dev.vfEnable
      let new :=
        if fn = 0 ∧ (o = 0x104 ∨ o = 0x110) then old - (old &&& v)
        else if keep then old
        else (old - (old &&& m)) ||| (v &&& m)
      let s1 := (s.onDev (fun d => d.setCfg fn o new)).cfgChanged s.dev
      done (if o = 0xA0 then s1.onDev (fun d => d.msixFlush fn) else s1)

/-- BUS_MASTER_DISABLE (R414): a configuration write clears Bus Master Enable. -/
def execBusMasterDisable (fn : Nat) (s : State) : Host.Outcome State Fault Refusal :=
  if s.dev.fnExists fn then
    done ((s.onDev (fun d => d.setCfg fn 4 (d.cfg fn 4 - (d.cfg fn 4 &&& 4)))).cfgChanged s.dev)
  else .next s

/-- FLR (R415, R416). -/
def execFlr (fn : Nat) (s : State) : Host.Outcome State Fault Refusal :=
  if s.dev.fnExists fn then done (s.onDev (fun d => d.flrBegin fn)) else .next s

/-- VF_ENABLE_CLEAR (R416): a configuration write clears VF Enable. -/
def execVfEnableClear (s : State) : Host.Outcome State Fault Refusal :=
  if s.dev.vfEnable then
    done ((s.onDev (fun d => d.setCfg 0 0x158 (d.cfg 0 0x158 - 1))).cfgChanged s.dev)
  else .next s

/-- FLR_COMPLETE (R415 steps 4 and 5): no read of the function is outstanding any more. PF0 comes after its VFs. -/
def execFlrComplete (fn : Nat) (s : State) : Host.Outcome State Fault Refusal :=
  let d := s.dev
  if !(d.flrBusy fn) ∨ d.pep.reads.any (fun r => decide (r.fn = fn)) ∨
      (fn = 0 ∧ (List.range 129).any (fun g => decide (1 ≤ g) && d.flrBusy g)) then .next s
  else
    done (s.onDev (fun d =>
      let d1 := d.fnReset fn
      let d2 : Dev := { d1 with pep := { d1.pep with flr := Tab.set (fun _ => false) d1.pep.flr fn false } }
      (((d2.setRf (R.pepFnev fn) 63 63 1).edge (0x200 + fn))).fnShowAll))

/-- PCIE_LINK_DOWN (R398). -/
def execPcieLinkDown (s : State) : Host.Outcome State Fault Refusal :=
  done (s.onDev (fun d => (d.setRf R.pepStatus 63 55 0)))

/-- PCIE_LINK_UP (R387, R493): the link trains at a speed (1 to 5) and width; the queues go on. -/
def execPcieLinkUp (speed width : Nat) (s : State) : Host.Outcome State Fault Refusal :=
  if speed < 1 ∨ 5 < speed ∨ !([1, 2, 4, 8, 16].contains width) ∨ s.dev.domState 4 ≠ 0 then .next s
  else
    let s1 := s.onDev (fun d => ((d.setRf R.pepStatus 63 63 1).setRf R.pepStatus 62 60 speed).setRf R.pepStatus 59 55 width)
    done ((List.range 129).foldl (fun s f => s.fnRun f) s1)

end Sys2Proof.Machine
end

