-- ==== Sys2Proof/Machine/HostEvents.lean ====
section
/-! DEFINITION. The host's requests to BAR0, BAR2 and the expansion ROM (14 R391 to R397, R402 to R407, R413, R417, R418). -/

namespace Sys2Proof.Machine

/-- Whether the host reaches the endpoint at all: the link is up and domain 4 is on. (DEDUCED, log entry 177.) -/
def Dev.hostReach (d : Dev) : Bool := d.pcieLink && decide (d.domState 4 = 0) && decide (d.pwr.mode ≠ .off)

/-- DEVSTAT.STATE and DEVSTAT (R417, R494). -/
def Dev.hostState (d : Dev) : Nat :=
  match d.pwr.mode with
  | .reset | .off => 1
  | .stopping => 2
  | .halted => 5
  | .up | .watch => if !d.felt.felted then 3 else if d.felt.safe then 4 else 0
def Dev.devstat (d : Dev) : Word :=
  setFld (setFld (setFld 0 63 60 d.hostState) 59 52 (if d.hostState = 2 then d.pwr.step else 0)) 15 0 d.pwr.resets

/-- Whether the device serves BAR accesses other than DEVSTAT (R417). -/
def Dev.hostServes (d : Dev) : Bool := [0, 3, 4].contains d.hostState

/-- FNSTAT (R393). -/
def Dev.fnstat (d : Dev) (f : Nat) : Word :=
  let own := fnOwner d.felt.cfg f
  setFld (setFld (setFld (setFld (setFld (setFld 0 63 63 own.isSome.toNat) 62 62 (d.flrBusy f).toNat) 61 61 (!d.hostServes).toNat)
    60 60 ((own.map (·.2)).getD false).toNat) 59 55 ((own.map (·.1)).getD 0)) 54 48 (d.qlimit f)

/-- The requester of the host through PF0's FELT view. -/
def Dev.hostReq (d : Dev) : Req := d.fnReq 0

/-- A doubleword of the MSI-X pending bits. -/
def Dev.pba (d : Dev) (f j : Nat) : Word :=
  word (((List.range 64).map (fun i => if Tab.get (fun _ => false) d.pep.msix (65 * f + 64 * j + i) ∧ 64 * j + i < 65 then 2 ^ i else 0)).sum)

/-- The doubleword a BAR0 read finds (R391, R393, R394); a FELT register may change by being read. -/
def State.bar0Read (s : State) (f o : Nat) : Word × State :=
  let d := s.dev
  if o = 0 then (d.fnstat f, s)
  else if o < 0x10000 then
    if (fnOwner d.felt.cfg f).isNone then (0, s)
    else if o = 8 then (d.hreg f 8, s)
    else if 0x100 ≤ o ∧ o < 0x900 ∧ o % 32 ≠ 24 then (d.hreg f o, s)
    else if 0x2000 ≤ o ∧ o < 0x2410 then (d.hreg f o, s)
    else if o = 0x3000 ∨ o = 0x3008 then (d.pba f ((o - 0x3000) / 8), s)
    else (0, s)
  else if f ≠ 0 then (0, s)
  else if o = 0x10000 then (d.devstat, s)
  else if 0x20020 ≤ o ∧ o < 0x21020 then (d.hreg 0 o, s)
  else if 0x30000 ≤ o ∧ o < 0x30100 then (word (leAt d.digest (o - 0x30000) 8), s)
  else if 0x100000 ≤ o ∧ o < 0x110000 then s.regRead d.hostReq (0x00150000 + (o - 0x100000)) 8
  else if 0x1000000 ≤ o ∧ o < 0x1800000 ∧ !d.felt.felted then (word (leAt (s.mem.bytes (nvBase + (o - 0x1000000)) 8) 0 8), s)
  else (0, s)

/-- Merge the bytes of a 4- or 8-byte write into a doubleword. -/
def laneMask (o size : Nat) : Word := if size = 8 then maskOf 63 0 else if o % 8 = 4 then maskOf 63 32 else maskOf 31 0
def laneVal (o size : Nat) (v : Word) : Word := if size = 8 then v else if o % 8 = 4 then v <<< 32 else v &&& maskOf 31 0
def merge (old : Word) (o size : Nat) (v m : Word) : Word :=
  let k := laneMask o size &&& m
  (old &&& ~~~k) ||| (laneVal o size v &&& k)

/-- A write of an SQ or CQ base: dropped while the queue pair runs (R402). -/
def Dev.qbaseWrite (d : Dev) (f q o size : Nat) (v : Word) : Dev :=
  if d.qact f q then d.fnEvent f 2 else d.setHreg f (o / 8 * 8) (merge (d.hreg f (o / 8 * 8)) o size v (maskOf 63 6))

/-- A write of QCTL (R402): SQK and CQK keep their values while the queue pair runs. (DEDUCED, log entry 176.) -/
def State.qctlWrite (s : State) (f q o size : Nat) (v : Word) : State :=
  let r := qCtl q
  let old := s.dev.hreg f r
  let kk := maskOf 47 40
  let new := merge old o size v (maskOf 63 62 ||| maskOf 55 48 ||| kk)
  let held := s.dev.qact f q && decide ((new &&& kk) ≠ (old &&& kk))
  let new1 := if held then (new &&& ~~~kk) ||| (old &&& kk) else new
  let s1 := s.onDev (fun d =>
    let d1 := (d.setHreg f r new1).actShow f q
    if held then d1.fnEvent f 2 else d1)
  if s1.dev.qact f q then (s1.sqRun f q).cqRun f q else s1

/-- A write of SQTDB (R404): one out of range, or that passes the fetch position's predecessor, is ignored with BADDB. -/
def State.sqtdbWrite (s : State) (f q tail : Nat) : State :=
  let n := s.dev.sqSize f q
  let pos := s.dev.hf f (qCtl q) 27 16
  let x := s.dev.qp f q
  if n ≤ tail ∨ (tail + n - pos) % n < (x.sqtail + n - pos) % n then s.onDev (fun d => d.fnEvent f 1)
  else (s.onDev (fun d => d.setQp f q { x with sqtail := tail })).sqRun f q

/-- A write of CQHDB (R405): the CQ has room up to the new head. -/
def State.cqhdbWrite (s : State) (f q head : Nat) : State :=
  if s.dev.cqSize f q ≤ head then s
  else ((s.onDev (fun d => d.setQp f q { d.qp f q with cqhead := head })).cqRun f q).sqRun f q

/-- A write of HDB (R407). -/
def Dev.hdbWrite (d : Dev) (f val : Nat) : Dev :=
  let d1 := (d.setRf (R.pepFnev f) 15 0 val).wrapAdd (R.pepFnev f) 31 16 1
  let w := d1.reg (R.pepFncfg f)
  d1.hostBell f (if bit w 31 then some (fld w 14 10, fld w 9 0) else none)

/-- A write of a dirty-log register (R412, R413): a change of SEL clears SWITCHED until no update of the old map is left. -/
def Dev.dlWrite (d : Dev) (o size : Nat) (v : Word) : Dev :=
  let r := o / 8 * 8
  let old := d.hreg 0 r
  if r % 32 = 0 then
    let vf := (r - 0x20000) / 32
    let w1c := laneVal o size v &&& laneMask o size &&& maskOf 60 59
    let new := merge old o size v (maskOf 63 62 ||| maskOf 24 0) &&& ~~~w1c
    let moved := decide (bit new 62 ≠ bit old 62)
    let busy := d.pep.dirty.any (fun e => decide (e.1 = vf) && decide (e.2.1 = (bit old 62).toNat)) ||
      d.pep.reads.any (fun x => match x.use with
        | .dirty v' sel _ => decide (v' = vf) && decide (sel = (bit old 62).toNat)
        | _ => false)
    d.setHreg 0 r (if moved then setBit new 61 (!busy) else new)
  else d.setHreg 0 r (merge old o size v (if r % 32 = 8 then maskOf 63 12 else maskOf 63 3))

/-- A BAR0 write at an offset (R391, R393, R394, R417, R418). -/
def State.bar0Write (s : State) (f o size : Nat) (v : Word) : State :=
  let r := o / 8 * 8
  let low := fld (laneVal o size v) 31 0
  let lowIn := decide (o = r)
  if o < 0x10000 then
    if (fnOwner s.dev.felt.cfg f).isNone then s
    else if r = 8 then s.onDev (fun d => d.setHreg f 8 (d.hreg f 8 &&& ~~~(laneVal o size v &&& laneMask o size)))
    else if r = 0x10 then (if lowIn then s.onDev (fun d => d.hdbWrite f (low % 65536)) else s)
    else if 0x100 ≤ r ∧ r < 0x900 then
      let q := (r - 0x100) / 32
      if r % 32 = 0 ∨ r % 32 = 8 then s.onDev (fun d => d.qbaseWrite f q o size v)
      else if r % 32 = 16 then s.qctlWrite f q o size v else s
    else if 0x1000 ≤ r ∧ r < 0x1400 then
      if !lowIn then s
      else if r % 16 = 0 then s.sqtdbWrite f ((r - 0x1000) / 16) (low % 4096)
      else s.cqhdbWrite f ((r - 0x1000) / 16) (low % 4096)
    else if 0x2000 ≤ r ∧ r < 0x2410 then
      s.onDev (fun d => (d.setHreg f r (merge (d.hreg f r) o size v
        (if r % 16 = 0 then maskOf 63 2 else maskOf 32 0))).msixFlush f)
    else s
  else if f ≠ 0 then s
  else if r = 0x10008 then (if lowIn ∧ low = 0x44455652 then s.devReset else s)
  else if r = 0x10010 then (if lowIn ∧ low = 0x50575243 then s.onDev Dev.powerCycle else s)
  else if 0x20020 ≤ r ∧ r < 0x21020 then s.onDev (fun d => d.dlWrite o size v)
  else if 0x100000 ≤ r ∧ r < 0x110000 then s.regWrite s.dev.hostReq (0x00150000 + (o - 0x100000)) size v
  else if 0x1000000 ≤ r ∧ r < 0x1800000 ∧ !s.dev.felt.felted then
    s.nvRecord (nvBase + (o - 0x1000000)) (bytesLE size (if size = 8 then v.toNat else v.toNat % 2 ^ 32))
  else s

/-- The bytes of BAR0 of a function (R388, R392). -/
def bar0Size (f : Nat) : Nat := if f = 0 then 0x2000000 else 0x10000

/-- The endpoint's answer to the host. -/
def State.hostAns (s : State) (a : HostAns) : State := s.onDev (fun d => { d with pep := { d.pep with ans := a } })

/-- A BAR0 request (R395, R417): a read is answered, a write acts, or it is refused. -/
def State.bar0 (s : State) (f o size : Nat) (wr : Bool) (v : Word) : State :=
  let d := s.dev
  if !d.hostReach ∨ bar0Size f < o + size then s
  else
    let ok := (decide (size = 4) || decide (size = 8)) && decide (o % size = 0) && d.mse f && !(d.flrBusy f)
    if wr then
      if !d.hostServes then s
      else if ok then s.bar0Write f o size v
      else if d.mse f then s.onDev (fun d => d.fnEvent f 3) else s
    else if !ok then s.hostAns .unsupported
    else if !d.hostServes ∧ !(f = 0 ∧ o / 8 * 8 = 0x10000) then s.hostAns (.data (List.replicate size 255#8) false)
    else
      let r := s.bar0Read f (o / 8 * 8)
      r.2.hostAns (.data (((bytesLE 8 r.1.toNat).drop (o % 8)).take size) false)

/-- A dword of a function's configuration space as the host reads it (R388, R389, R392). -/
def Dev.configDword (d : Dev) (f o : Nat) : Nat := d.cfgValue d.fnstat f o

/-- BAR0_REQUEST (R393 to R395). -/
def execBar0Request (fn off size : Nat) (wr : Bool) (value : Word) (s : State) : Host.Outcome State Fault Refusal :=
  done (s.bar0 fn off size wr value)

/-- HDB (R407): a host write of the doorbell. -/
def execHdb (fn : Nat) (value : Word) (s : State) : Host.Outcome State Fault Refusal := done (s.bar0 fn 0x10 8 true value)

/-- SQTDB (R404). -/
def execSqtdb (fn q : Nat) (value : Word) (s : State) : Host.Outcome State Fault Refusal :=
  if q < 64 then done (s.bar0 fn (0x1000 + 16 * q) 8 true value) else .next s

/-- CQHDB (R405). -/
def execCqhdb (fn q : Nat) (value : Word) (s : State) : Host.Outcome State Fault Refusal :=
  if q < 64 then done (s.bar0 fn (0x1008 + 16 * q) 8 true value) else .next s

/-- QCTL_WRITE (R402). -/
def execQctlWrite (fn q : Nat) (value : Word) (s : State) : Host.Outcome State Fault Refusal :=
  if q < 64 then done (s.bar0 fn (qCtl q) 8 true value) else .next s

/-- DLCTL_SEL_WRITE (R413). -/
def execDlctlSelWrite (v : Nat) (value : Word) (s : State) : Host.Outcome State Fault Refusal :=
  if 1 ≤ v ∧ v ≤ 128 then done (s.bar0 0 (dlCtl v) 8 true value) else .next s

/-- DEVRESET (R417): a host write of the key to PF0's DEVRESET. -/
def execDevreset (key : Word) (s : State) : Host.Outcome State Fault Refusal := done (s.bar0 0 0x10008 8 true key)

/-- PWRCYC (R418, R521): a host write of the key to PF0's PWRCYC. -/
def execPwrcyc (key : Word) (s : State) : Host.Outcome State Fault Refusal := done (s.bar0 0 0x10010 8 true key)

/-! ### BAR2 and the expansion ROM -/

/-- Whether a BAR2 request lies where the function serves it, and its DRAM address (R396). -/
def Dev.bar2At (d : Dev) (f o len : Nat) : Option Nat :=
  if d.mse f && !(d.flrBusy f) && (fnOwner d.felt.cfg f).isSome && decide (o + len ≤ d.rf (R.pepSizes f) 47 32 * 0x200000) then
    some (d.rf (R.pepBar2map f) 51 21 * 0x200000 + o)
  else none

/-- Read data in completions of at most `mps` bytes, split only at 64-byte boundaries (R396). -/
def cplSplit (mps : Nat) : Nat → Nat → List Byte → List (List Byte)
  | 0, _, _ => []
  | n + 1, a, bs =>
    if bs.length ≤ mps then [bs]
    else
      let k := (a + mps) / 64 * 64 - a
      bs.take k :: cplSplit mps n (a + k) (bs.drop k)

/-- BAR2_READ (R396). (DEDUCED, log entry 179.) -/
def execBar2Read (fn off len : Nat) (s : State) : Host.Outcome State Fault Refusal :=
  if !s.dev.hostReach ∨ len = 0 ∨ 4096 < len ∨ s.dev.bar2Size fn < off + len then .next s
  else
    let parts (bs : List Byte) : List (List Byte) := cplSplit s.dev.mps (len + 1) off bs
    match s.dev.bar2At fn off len with
    | none => done (s.hostAns .unsupported)
    | some pa =>
      match prange pa with
      | .dram =>
        let s0 := s.readNote (s.dev.fnReq fn) pa len
        (match s.agentRead (s.dev.fnReq fn) pa len with
        | (0, bs) => done (s0.hostAns (.parts (parts bs) false))
        | (6, _) => done (s0.hostAns (.parts (parts (s.mem.bytes pa len)) true))
        | _ => done (s0.hostAns .abort))
      | _ => done (s.hostAns .abort)

/-- BAR2_WRITE (R396, R250, R251): a whole-line write carries the stash hint of FNCFG; a poisoned one is written with poison. -/
def execBar2Write (fn off : Nat) (data : List Byte) (poisoned : Bool) (s : State) : Host.Outcome State Fault Refusal :=
  if !s.dev.hostReach ∨ data = [] ∨ !s.dev.hostServes ∨ s.dev.bar2Size fn < off + data.length then .next s
  else
    match s.dev.bar2At fn off data.length with
    | none => done (s.onDev (fun d => d.aer 20))
    | some pa =>
      let w := s.dev.reg (R.pepFncfg fn)
      match prange pa with
      | .dram =>
        (match s.agentWrite (s.dev.fnReq fn) pa data (if bit w 30 then some (fld w 23 16) else none) with
        | (0, s1) =>
          done (if poisoned then (linesOf pa data.length).foldl (fun s l => s.onMem (fun m => m.poisonNewest l)) s1 else s1)
        | (_, s1) => done (s1.onDev (fun d => d.aer 15)))
      | _ => done (s.onDev (fun d => d.aer 15))

/-- The device description (R397): a header, then type, length and value records of GID's identity, part, stepping, unique ID and
presence masks, of FELT.STATUS and FELT.VERSION. The type codes are free values (log entry 17). (DEDUCED, log entry 178.) -/
def Dev.description (d : Dev) : List Byte :=
  let rec_ (i : Nat) (v : List Byte) : List Byte := bytesLE 2 (Config.descType i).toNat ++ bytesLE 2 v.length ++ v
  let w (r : Nat) : List Byte := bytesLE 8 (d.reg r).toNat
  let body := rec_ 0 (bytesLE 4 (d.rf R.gidIdent 63 48)) ++ rec_ 1 (bytesLE 4 (d.rf R.gidIdent 2 0)) ++
    rec_ 2 (bytesLE 4 (d.rf R.gidIdent 4 4)) ++ rec_ 3 (w R.gidUid) ++
    rec_ 4 ((List.range 4).flatMap (fun j => w (R.gidPrescore j)) ++ w R.gidPres ++ (List.range 2).flatMap (fun j => w (R.gidPresport j))) ++
    rec_ 5 (bytesLE 4 (d.rf R.feltStatus 31 0)) ++ rec_ 6 (w R.feltVersion)
  bytesLE 4 0x44445841 ++ bytesLE 2 1 ++ bytesLE 2 (8 + body.length) ++ body

/-- EXPANSION_ROM_READ (R397). -/
def execExpansionRomRead (off len : Nat) (s : State) : Host.Outcome State Fault Refusal :=
  if !s.dev.hostReach ∨ len = 0 ∨ 0x100000 < off + len then .next s
  else if !((s.dev.cfg 0 0x30).testBit 0) ∨ !(s.dev.mse 0) then done (s.hostAns .unsupported)
  else
    let desc := s.dev.description
    done (s.hostAns (.data ((List.range len).map (fun i =>
      let o := off + i
      if o < 0xF0000 then Tab.get memDefault s.mem.img (nvBase + 0x900000 + o) else desc.getD (o - 0xF0000) 0)) false))

end Sys2Proof.Machine
end

