-- ==== Sys2Proof/Machine/WeirEvents.lean ====
section
/-! DEFINITION. The commands of the weir fabric (12) and of the on-chip network's links (01 R24, R25). -/

namespace Sys2Proof.Machine

/-! ### Requests of this device and their completion -/

/-- A failed or late posted write of a core or block mover (R338). -/
def Dev.outFail (d : Dev) (pond status detail pa : Nat) : Dev :=
  let o := R.wxOutstat pond
  if status = 0 then d
  else if status = 1 then d.wrapAdd o 39 24 1
  else (((d.wrapAdd o 63 40 1).setRf o 23 20 status).setRf o 19 12 detail).setReg (R.wxOutaddr pond) (word pa)

/-- The entries of one exchange-window request take its outcome (R338): a core's or block mover's writes have their status
recorded and raise no exception, and only a device-strict one stays until its core takes it (R216); reads and the accesses of DMA channels
and of the endpoint keep it for their agent. -/
def Dev.finishExt (d : Dev) (mine : ExtAcc → Bool) (status detail : Nat) (data : List Byte) : Dev :=
  let core (e : ExtAcc) : Bool := decide (e.agent < 0x200) && e.write
  let d1 := match d.ext.find? (fun e => mine e && core e) with
    | some e => d.outFail e.pond status detail e.pa
    | none => d
  { d1 with ext := (d1.ext.filter (fun e => !(mine e && core e && !e.strict))).map (fun e =>
      if mine e then { e with st := .finished, status := if core e ∨ (status = 1 ∧ !e.write) then 0 else status, detail := detail
                              data := if e.write then e.data else data.take e.size } else e) }

/-- A timed-send slot's response (R344). -/
def Dev.finishSlot (d : Dev) (slot status detail late : Nat) : Dev :=
  let o := R.wxTsstat slot
  (((d.setRf o 63 32 late).setRf o 31 24 detail).setRf o 19 16 status).setRf (R.wxTsctl slot) 54 54 0

/-- A request completes with a status: its tracker is freed (R334, R338). -/
def Dev.complete (d : Dev) (tag status detail late : Nat) (data : List Byte) : Dev :=
  match d.weir.outs.find? (fun o => decide (o.tag = tag)) with
  | none => d
  | some o =>
    let d1 : Dev := { d with weir := { d.weir with outs := d.weir.outs.filter (fun x => decide (x.tag ≠ tag)) } }
    match o.slot with
    | some n => d1.finishSlot n status detail late
    | none => d1.finishExt (fun e => e.weir && decide (e.st = .sent) && decide (e.tag = tag)) status detail data

/-- The status with which a request completes before any packet leaves (R334, R346, R360, R361); none when it may be sent. -/
def Dev.outLocal (d : Dev) (dst typ : Nat) : Option (Nat × Nat) :=
  if d.wxState = 3 ∨ d.wxState = 4 then some (5, 7)
  else if d.wxState ≠ 2 then some (7, 10)
  else if dst = d.wxAddr then none
  else match d.route d.wxAddr dst with
    | none => some (7, 10)
    | some p => if verHas (d.linkVer p) typ then none else some (8, 8)

/-! ### Requests that arrive -/

/-- The lane group stop whose buffers an arriving packet uses: that of its port, or G0 for this device's own (R31). -/
def groupOf (port : Option Nat) : Nat :=
  match port with
  | some p => p / 16
  | none => 0

/-- Answer a request (R329, R331): RDATA for a READ, else CPL. An answer to this device itself completes the request. (DEDUCED, log entry 157.) -/
def State.respond (s : State) (pk : Pkt) (port : Option Nat) (status detail late : Nat) (data : List Byte) : State :=
  if port.isNone then s.onDev (fun d => d.complete pk.seq status detail late data)
  else
    let ws := if pk.typ = 4 ∨ pk.typ = 3 then (if status = 0 then packWords data else []) else [word (detail * 2 ^ 56 + late)]
    let r : Pkt := { pk with ver := 1, typ := if pk.typ = 3 then 4 else 5, dst := pk.src, src := s.dev.wxAddr, hops := 0
                             flags := status, len := ws.length, words := ws, stamp := 0, hcrc := 0, crc := 0 }
    s.onDev (fun d =>
      if pk.typ = 7 ∧ pk.flags % 2 = 1 then
        (match port with
         | some p => if d.linkUp p then d.txPkt p none true r else d
         | none => d)
      else match d.route d.wxAddr pk.src with
        | some o => d.txPkt o none true r
        | none => d.hopDrop (port.getD 0))

/-- The export that holds a whole access, with its number (R335). -/
def exportOf (cfg : List Rec) (off cnt : Nat) : Option (Nat × Nat × Bool × Nat) :=
  ((exports cfg).zipIdx.find? (fun e => decide (e.1.2.2.1 ≤ off) && decide (off + cnt ≤ e.1.2.2.1 + e.1.2.2.2.2))).map
    (fun e => (e.2, e.1.1, e.1.2.1, e.1.2.2.2.1 + off - e.1.2.2.1))

/-- OFFSET and COUNT of an address word (R331). -/
def pktAddr (ws : List Word) : Nat × Nat := (fld (ws.getD 0 0) 34 0, fld (ws.getD 0 0) 47 40 + 1)

/-- The stash target of an export (R337). -/
def Dev.expStash (d : Dev) (n : Nat) : Option Nat :=
  if bit (d.reg (R.wxExpctl n)) 63 then some (d.rf (R.wxExpctl n) 55 48) else none

/-- The requester that an inbound packet's tags make (R335). -/
def pktReq (pond : Nat) (secure : Bool) : Req := { pond := pond, secure := secure, dev := false, dbg := false }

/-- The entries an export has queued, summed over stops, in EXPSTAT.USE. -/
def Dev.showUse (d : Dev) (n : Nat) : Dev :=
  d.setRf (R.wxExpstat n) 8 0 ((d.weir.inq.map (fun e => (e.2.filter (fun r => decide (r.expo = n))).length)).sum)

/-- The inbound queue of a stop. -/
def Dev.inq (d : Dev) (g : Nat) : List InReq := Tab.get (fun _ => []) d.weir.inq g
def Dev.setInq (d : Dev) (g : Nat) (q : List InReq) : Dev :=
  { d with weir := { d.weir with inq := Tab.set (fun _ => []) d.weir.inq g q } }

/-- Perform a queued WRITE or READ and answer it (R337); its export was checked when it was accepted (R27). -/
def State.performIn (s : State) (r : InReq) : State :=
  let cnt := (pktAddr r.pk.words).2
  let rq := pktReq r.pk.pond r.pk.secure
  if r.pk.typ = 3 then
    let (st, bs) := s.agentRead rq r.pa cnt
    (s.readNote rq r.pa cnt r.pk.qos).respond r.pk r.port st 0 0 bs
  else
    let (st, s1) := s.agentWrite rq r.pa (((r.pk.words.drop 1).flatMap (fun w => bytesLE 8 w.toNat)).take cnt) (s.dev.expStash r.expo) r.pk.qos
    s1.respond r.pk r.port st 0 0 []

/-- Perform everything in a stop's inbound queue. -/
def State.drainIn (s : State) (g : Nat) : State :=
  (s.dev.inq g).foldl (fun s r => (s.performIn r).onDev (fun d => d.showUse r.expo)) (s.onDev (fun d => d.setInq g []))

/-- A request has passed R335: it is refused when its export's depth or the queue is full (R336), else queued; unless `stall`
the queue's requests are then performed. (DEDUCED, log entry 153.) -/
def State.enqueueIn (s : State) (g n : Nat) (r : InReq) (stall : Bool) : State :=
  let q := s.dev.inq g
  if s.dev.rf (R.wxExpctl n) 8 0 ≤ (q.filter (fun x => decide (x.expo = n))).length ∨ 512 ≤ q.length then
    (s.onDev (fun d => d.wrapAdd (R.wxExpstat n) 63 32 1)).respond r.pk r.port 2 3 0 []
  else
    let s1 := s.onDev (fun d => (d.setInq g (q ++ [r])).showUse n)
    if stall then s1 else s1.drainIn g

/-- The checks of R335 on an access for this device; they pass to `f` with the export's number and DRAM address. -/
def State.checkExport (s : State) (pk : Pkt) (port : Option Nat) (f : Nat → Nat → State → State) : State :=
  let (off, cnt) := pktAddr pk.words
  match exportOf s.dev.felt.cfg off cnt with
  | none => s.respond pk port 3 1 0 []
  | some (n, pond, sec, pa) => if pk.pond ≠ pond ∨ pk.secure ≠ sec then s.respond pk port 3 2 0 [] else f n pa s

/-- The angle a stamp stands for (R330), as the age of the packet in angle units: 0 when it is not in the past. -/
def Dev.ageOf (d : Dev) (stamp : Nat) : Nat :=
  let m := ((d.reg R.atbNow).toNat + 2 ^ 64 - stamp * 4096) % 2 ^ 44
  if m < 2 ^ 43 then m else 0

/-- An angle-critical request that is older than WX.AGEMAX on arrival is counted (R330). -/
def Dev.ageCheck (d : Dev) (pk : Pkt) : Dev :=
  if pk.qos = 0 ∧ d.rf R.wxAgemax 31 0 < d.ageOf pk.stamp * 10 ^ 15 / (max 1 (d.rf R.atbFreq 31 0) * 2 ^ 32) then
    d.wrapAdd R.wxAgeviol 63 0 1
  else d

/-- The payload length a request type must have (R331). -/
def pktLenOk (pk : Pkt) : Bool :=
  let cnt := (pktAddr pk.words).2
  decide (pk.len ≤ 32) && decide (pk.words.length = pk.len) &&
  (match pk.typ with
   | 1 => decide (pk.len = 1 + (cnt + 7) / 8) && decide (cnt ≤ 248)
   | 2 => decide (pk.len = 3 + (cnt + 7) / 8) && decide (cnt ≤ 232)
   | 3 => decide (pk.len = 1) | 6 => decide (pk.len = 1) | 0xA => decide (pk.len = 2)
   | 7 => decide (1 ≤ pk.len) | 5 => decide (pk.len = 1) | 9 => decide (pk.len = 4)
   | 8 => decide (2 ≤ pk.len) && decide (pk.len ≤ 4)
   | _ => true)

/-- The payload check is wrong: counted (R328). -/
def Dev.crcErr (d : Dev) (port : Option Nat) : Dev :=
  match port with
  | some p => (d.wrapAdd (R.wptCrcerr p) 63 0 1).wptEvent p 6
  | none => d

/-- A request for this device: malformed, damaged, or while it drains, it is answered and not performed (R328, R361); a request
of a type this device does not implement is answered with VERSION (R329). -/
def State.serveReq (s : State) (pk : Pkt) (port : Option Nat) (f : State → State) : State :=
  let s0 := s.onDev (fun d => d.ageCheck pk)
  if !(verHas s.dev.vmaxW pk.typ) then s0.respond pk port 8 8 0 []
  else if !(pktLenOk pk) then s0.respond pk port 3 6 0 []
  else if pk.crc ≠ pk.crcOf then (s0.onDev (fun d => d.crcErr port)).respond pk port 6 0 0 []
  else if pk.typ ≠ 7 ∧ (s.dev.wxState = 3 ∨ s.dev.wxState = 4) then s0.respond pk port 5 7 0 []
  else f s0

/-- A packet has arrived on a port (R318, R328, R346): its buffer's credit is returned; a wrong header check or a link that may
not carry it discards it. -/
def State.arrive (s : State) (port : Nat) (pk : Pkt) (want : Dev → Bool) (f : State → State) : State :=
  if !(s.dev.weirPort port) ∨ !(want s.dev) then s
  else
    let s1 := s.onDev (fun d => d.credit port pk)
    let st := s.dev.linkState port
    if pk.hcrc ≠ pk.hcrcOf then s1.onDev (fun d => d.hdrErr port)
    else if st = 4 ∨ (pk.typ = 9 ∧ 3 ≤ st) ∨ (pk.typ = 7 ∧ pk.flags % 2 = 1 ∧ st = 3) then f s1
    else s1.onDev (fun d => d.hopDrop port)

/-- A packet of a type addressed to this device. -/
def mine (typ : Nat) (pk : Pkt) (d : Dev) : Bool := decide (pk.typ = typ) && decide (pk.dst = d.wxAddr)

/-- WRITE (R335 to R337). -/
def State.weirWrite (s : State) (pk : Pkt) (port : Option Nat) (stall : Bool) : State :=
  s.serveReq pk port (fun s => s.checkExport pk port (fun n pa s =>
    s.enqueueIn (groupOf port) n { expo := n, pa := pa, pk := pk, port := port } stall))

/-- Offer a fabric doorbell event (R339, R341). -/
def Dev.bell (d : Dev) (pond src cluster slot : Nat) (angle : Word) : Nat × Dev :=
  d.sluiceEvent { kind := 3, src := src, angle := angle, cluster := cluster, slot := slot, pond := pond }

/-- The timed-delivery buffer of a group, and its registers (R340, WX.TDBSTATg). -/
def Dev.tdb (d : Dev) (g : Nat) : List TdbEnt := Tab.get (fun _ => []) d.weir.tdb g
def Dev.setTdb (d : Dev) (g : Nat) (q : List TdbEnt) : Dev :=
  let d1 : Dev := { d with weir := { d.weir with tdb := Tab.set (fun _ => []) d.weir.tdb g q } }
  let d2 := d1.setRf (R.wxTdbstat g) 8 0 q.length
  let use := max (d.tdb g).length q.length
  if d2.rf (R.wxTdbstat g) 24 16 < use then d2.setRf (R.wxTdbstat g) 24 16 use else d2

/-- Perform a timed entry (R341): the write, angle-critical, then its doorbell with the release angle; the write's status. -/
def State.fireTdb (s : State) (e : TdbEnt) : Nat × State :=
  let (st, s1) := s.agentWrite (pktReq e.pond e.secure) e.pa e.data e.stash 0
  (st, if st ≠ 0 then s1 else match e.bell with
    | some (c, x) => s1.onDev (fun d => (d.bell e.pond e.src c x e.angle).2)
    | none => s1)

/-- R340: the release angle against the ATB value. -/
def State.timed (s : State) (pk : Pkt) (port : Option Nat) (e : TdbEnt) : State :=
  let g := groupOf port
  let v := s.dev.reg R.atbNow
  let ahead := (e.angle - v).toNat
  if !(atOrAfter v e.angle) then
    if 256 * 2 ^ 32 < ahead then s.respond pk port 3 5 0 []
    else if 256 ≤ (s.dev.tdb g).length then (s.onDev (fun d => d.satInc (R.wxTdbstat g) 47 32)).respond pk port 2 4 0 []
    else (s.onDev (fun d => d.setTdb g (d.tdb g ++ [e]))).respond pk port 0 0 0 []
  else
    let (st, s1) := s.fireTdb e
    if ahead = 0 then s1.respond pk port st 0 0 []
    else
      (s1.onDev (fun d => d.satInc (R.wxTdbstat g) 63 48)).respond pk port (if st = 0 then 1 else st) 0
        (if st = 0 then min (v - e.angle).toNat 0xFFFFFFFF else 0) []

/-- The doorbell a doorbell word names (R331). -/
def bellOf (w : Word) : Option (Nat × Nat) := if bit w 63 then some (fld w 14 10, fld w 9 0) else none

/-- TWRITE (R335, R336, R340). -/
def State.weirTwrite (s : State) (pk : Pkt) (port : Option Nat) : State :=
  s.serveReq pk port (fun s => s.checkExport pk port (fun n pa s =>
    let q := s.dev.inq (groupOf port)
    if s.dev.rf (R.wxExpctl n) 8 0 ≤ (q.filter (fun x => decide (x.expo = n))).length ∨ 512 ≤ q.length then
      (s.onDev (fun d => d.wrapAdd (R.wxExpstat n) 63 32 1)).respond pk port 2 3 0 []
    else
      s.timed pk port { angle := pk.words.getD 1 0, pond := pk.pond, secure := pk.secure, pa := pa
                        data := ((pk.words.drop 3).flatMap (fun w => bytesLE 8 w.toNat)).take (pktAddr pk.words).2
                        bell := bellOf (pk.words.getD 2 0), src := pk.src, stash := s.dev.expStash n }))

/-- DOORBELL (R339). -/
def State.weirBell (s : State) (pk : Pkt) (port : Option Nat) : State :=
  s.serveReq pk port (fun s =>
    let w := pk.words.getD 0 0
    let (st, d) := s.dev.bell pk.pond pk.src (fld w 14 10) (fld w 9 0) (s.dev.reg R.atbNow)
    State.respond { s with dev := d } pk port st (if st = 0 then 0 else 9) 0 [])

/-- TDOORBELL (R340). -/
def State.weirTbell (s : State) (pk : Pkt) (port : Option Nat) : State :=
  s.serveReq pk port (fun s =>
    let w := pk.words.getD 1 0
    if clusterOwner s.dev.felt.cfg (fld w 14 10) ≠ some pk.pond then s.respond pk port 3 9 0 []
    else s.timed pk port { angle := pk.words.getD 0 0, pond := pk.pond, secure := pk.secure, pa := 0, data := []
                           bell := some (fld w 14 10, fld w 9 0), src := pk.src, stash := none })

/-- A WRITE packet arrives. -/
def execWrite (port : Nat) (pk : Pkt) (stall : Bool) (s : State) : Host.Outcome State Fault Refusal :=
  done (s.arrive port pk (mine 1 pk) (fun s => s.weirWrite pk (some port) stall))
/-- A TWRITE packet arrives. -/
def execTwrite (port : Nat) (pk : Pkt) (s : State) : Host.Outcome State Fault Refusal :=
  done (s.arrive port pk (mine 2 pk) (fun s => s.weirTwrite pk (some port)))
/-- A READ packet arrives (R335, R337). -/
def execRead (port : Nat) (pk : Pkt) (stall : Bool) (s : State) : Host.Outcome State Fault Refusal :=
  done (s.arrive port pk (mine 3 pk) (fun s => s.weirWrite pk (some port) stall))
/-- A DOORBELL packet arrives. -/
def execDoorbell (port : Nat) (pk : Pkt) (s : State) : Host.Outcome State Fault Refusal :=
  done (s.arrive port pk (mine 6 pk) (fun s => s.weirBell pk (some port)))
/-- A TDOORBELL packet arrives. -/
def execTdoorbell (port : Nat) (pk : Pkt) (s : State) : Host.Outcome State Fault Refusal :=
  done (s.arrive port pk (mine 0xA pk) (fun s => s.weirTbell pk (some port)))

/-- Whether a response answers an outstanding request of this device (R334): its tag, from the request's destination. -/
def Dev.answers (d : Dev) (pk : Pkt) : Bool :=
  d.weir.outs.any (fun o => decide (o.tag = pk.seq) && decide (o.dst = pk.src))

/-- RDATA (R328, R338): with a wrong payload check it counts as POISONED; one that answers nothing is discarded. -/
def execRdata (port : Nat) (pk : Pkt) (s : State) : Host.Outcome State Fault Refusal :=
  done (s.arrive port pk (mine 4 pk) (fun s =>
    let bad := decide (pk.crc ≠ pk.crcOf)
    let s1 := if bad then s.onDev (fun d => d.crcErr (some port)) else s
    if s1.dev.answers pk then s1.onDev (fun d => d.complete pk.seq (if bad then 6 else pk.flags) 0 0 pk.bytes) else s1))

/-- CPL (R338, R348): it completes a request, or acknowledges a management message. One with a wrong payload check is
discarded (log entry 12). -/
def execCpl (port : Nat) (pk : Pkt) (s : State) : Host.Outcome State Fault Refusal :=
  done (s.arrive port pk (fun d => decide (pk.typ = 5) &&
      (decide (pk.dst = d.wxAddr) || d.weir.mgmt.any (fun m => decide (m.tag = pk.seq) && decide (m.port = port)))) (fun s =>
    if pk.crc ≠ pk.crcOf ∨ !(pktLenOk pk) then s.onDev (fun d => if pk.crc ≠ pk.crcOf then d.crcErr (some port) else d)
    else
      let w := pk.words.getD 0 0
      if s.dev.answers pk then s.onDev (fun d => d.complete pk.seq pk.flags (fld w 63 56) (fld w 31 0) [])
      else if pk.flags = 0 then
        s.onDev (fun d => { d with weir := { d.weir with mgmt := d.weir.mgmt.filter (fun m =>
          !(decide (m.tag = pk.seq) && decide (m.port = port))) } })
      else s))

/-- RESPONSE_TIMEOUT (R334): a request has had no response for WX.RSPTIMEOUT. -/
def execResponseTimeout (tag : Nat) (s : State) : Host.Outcome State Fault Refusal :=
  done (s.onDev (fun d => d.complete tag 7 11 0 []))

/-- PACKET_FORWARD (R328, R353, R356, R360): a transit packet is routed with one more hop, or discarded. -/
def execPacketForward (port : Nat) (pk : Pkt) (s : State) : Host.Outcome State Fault Refusal :=
  done (s.arrive port pk (fun d => decide (pk.dst ≠ d.wxAddr) && decide (pk.typ ≠ 8) && decide (pk.typ ≠ 9) &&
      !(decide (pk.typ = 7) && decide (pk.flags % 2 = 1))) (fun s =>
    if 15 ≤ pk.hops then s.onDev (fun d => d.hopDrop port)
    else match s.dev.route pk.src pk.dst with
      | none => s.onDev (fun d => d.hopDrop port)
      | some o =>
        if verHas (s.dev.linkVer o) pk.typ then s.onDev (fun d => d.txPkt o (some port) false { pk with hops := pk.hops + 1 })
        else s.respond pk (some port) 8 8 0 []))

/-- A request packet of this device leaves, or is served by this device itself (R31, R333). -/
def State.sendReq (s : State) (pk : Pkt) : State :=
  if pk.dst = s.dev.wxAddr then
    let p := pk.seal
    match pk.typ with
    | 1 | 3 => s.weirWrite p none false
    | 2 => s.weirTwrite p none
    | 6 => s.weirBell p none
    | _ => s.weirTbell p none
  else match s.dev.route s.dev.wxAddr pk.dst with
    | some o => s.onDev (fun d => d.txPkt o none true pk)
    | none => s

/-- The successive accesses of an agent that leave as one packet (R333): at most `n`, of one destination, pond, world, class
and release angle, not device-strict (R215), with contiguous offsets, within the COUNT limit. -/
def mergeRun (first : ExtAcc) : Nat → Nat → List ExtAcc → List ExtAcc
  | 0, _, _ => []
  | _, _, [] => []
  | n + 1, sum, e :: es =>
    if e.write ∧ !e.strict ∧ !first.strict ∧ e.pond = first.pond ∧ e.secure = first.secure ∧ e.qos = first.qos ∧ e.timed = first.timed ∧
        e.pa = first.pa + sum ∧ sum + e.size ≤ (if first.timed.isSome then 232 else 248) ∧ e.pa / 2 ^ 35 = first.pa / 2 ^ 35 then
      e :: mergeRun first n (sum + e.size) es
    else []

/-- OUTBOUND_PACKET_SEND (R333, R334): the oldest exchange-window access that an agent has waiting leaves, up to `n` successive
writes merged; with no tracker free it waits, and is counted once. -/
def execOutboundPacketSend (agent n : Nat) (s : State) : Host.Outcome State Fault Refusal :=
  let waiting := s.dev.ext.filter (fun e => e.weir && decide (e.agent = agent) && (decide (e.st = .accepted) || decide (e.st = .waiting)))
  match waiting with
  | [] => .next s
  | e :: es =>
    let run := if e.write then e :: mergeRun e (n - 1) e.size es else [e]
    let data := run.flatMap (·.data)
    let cnt := if e.write then data.length else e.size
    let w0 := word (e.pa % 2 ^ 35 + 2 ^ 40 * (cnt - 1))
    let dst := e.pa / 2 ^ 35 % 65536
    let (typ, ws) := match e.write, e.timed with
      | false, _ => (3, [w0])
      | true, none => (1, w0 :: packWords data)
      | true, some (r, b) => (2, w0 :: r :: b :: packWords data)
    match s.dev.outLocal dst typ with
    | some (st, det) => done (s.onDev (fun d => d.finishExt (fun x => run.contains x) st det []))
    | none =>
      if 8192 ≤ s.dev.weir.outs.length then
        if e.st = .waiting then .next s
        else done (s.onDev (fun d => ({ d with ext := d.ext.map (fun x => if x = e then { x with st := .waiting } else x) } : Dev).wrapAdd
          R.wxOutwait 63 0 1))
      else
        let (tag, d0) := s.dev.takeTag
        let d1 : Dev := { d0 with
          weir := { d0.weir with outs := d0.weir.outs ++ [{ tag := tag, dst := dst, slot := none }] }
          ext := d0.ext.map (fun x => if run.contains x then { x with st := .sent, tag := tag } else x) }
        done (State.sendReq { s with dev := d1 }
          { ver := 1, typ := typ, qos := e.qos, secure := e.secure, pond := e.pond, dst := dst, src := d1.wxAddr, hops := 0, flags := 0
            len := ws.length, seq := tag, stamp := 0, hcrc := 0, words := ws, crc := 0 })

/-- A timed-send slot's staged packet leaves (R344); `mark`: the angle of the mark that sends it. -/
def State.sendStaged (s : State) (slot : Nat) (mark : Option Word) : State :=
  let o := R.wxTsctl slot
  let c := s.dev.reg o
  let typ := fld c 51 48
  let fin (d : Dev) : Dev := d.setRf o 56 56 0
  let ws0 := (List.range (fld c 45 40)).map (fun i => s.dev.reg (R.wxTspay slot i))
  let ws := match mark with
    | some a => if bit c 55 ∧ (typ = 2 ∨ typ = 0xA) then
        ws0.set (if typ = 2 then 1 else 0) (a + word (s.dev.rf (R.wxTsrel slot) 31 0)) else ws0
    | none => ws0
  let dst := fld c 15 0
  match s.dev.outLocal dst typ with
  | some (st, det) => s.onDev (fun d => fin (d.finishSlot slot st det 0))
  | none =>
    let (tag, d0) := s.dev.takeTag
    let d1 : Dev := (fin { d0 with weir := { d0.weir with outs := d0.weir.outs ++ [{ tag := tag, dst := dst, slot := some slot }] } }).setRf
      o 54 54 1
    State.sendReq { s with dev := d1 }
      { ver := 1, typ := typ, qos := fld c 47 46, secure := bit c 62, pond := fld c 61 57, dst := dst, src := d1.wxAddr, hops := 0
        flags := 0, len := ws.length, seq := tag, stamp := 0, hcrc := 0, words := ws, crc := 0 }

/-- Send a timed-send slot (R344): a send while BUSY, unowned or of another type is not made and is counted; with no tracker free
the slot is BUSY and waits for one (R334). -/
def State.sendSlot (s : State) (slot : Nat) (mark : Option Word) : State :=
  let o := R.wxTsctl slot
  let c := s.dev.reg o
  if !(bit c 63) ∨ bit c 54 ∨ !([1, 2, 6, 0xA].contains (fld c 51 48)) then
    s.onDev (fun d => (d.satInc (R.wxTsstat slot) 15 0).setRf o 56 56 0)
  else if 8192 ≤ s.dev.weir.outs.length then
    s.onDev (fun d => ((({ d with weir := { d.weir with waits := d.weir.waits ++ [(slot, mark)] } } : Dev).wrapAdd
      R.wxOutwait 63 0 1).setRf o 56 56 0).setRf o 54 54 1)
  else s.sendStaged slot mark

/-- TIMED_SEND_GO: a slot whose TSCTL.GO has been written 1 is sent, or one that waits for a tracker when one is free. -/
def execTimedSendGo (slot : Nat) (s : State) : Host.Outcome State Fault Refusal :=
  if slot < 64 ∧ bit (s.dev.reg (R.wxTsctl slot)) 56 then done (s.sendSlot slot none)
  else match s.dev.weir.waits.find? (fun w => decide (w.1 = slot)) with
    | some w =>
      if 8192 ≤ s.dev.weir.outs.length then .next s
      else done (State.sendStaged (s.onDev (fun d => { d with weir := { d.weir with waits := d.weir.waits.erase w } })) slot w.2)
    | none => .next s

/-- TIMED_CONTROL_WRITE (R343): a write of WX.TRELk, or of WX.TCTLk. Each exchange write keeps the values in force when it was
issued. -/
def execTimedControlWrite (rq : Req) (core : Nat) (ctl : Bool) (value : Word) (s : State) : Host.Outcome State Fault Refusal :=
  if core < 256 then done (s.regWrite rq (if ctl then R.wxTctl core else R.wxTrel core) 8 value) else .next s

/-- TDB_RELEASE (R341, R342): the entry of a group's buffer with the earliest release angle, ties in arrival order, is released
once the ATB is at or after its angle. (DEDUCED, log entry 154.) -/
def execTdbRelease (group : Nat) (s : State) : Host.Outcome State Fault Refusal :=
  let v := s.dev.reg R.atbNow
  let due := (s.dev.tdb group).filter (fun e => atOrAfter v e.angle)
  match due with
  | [] => .next s
  | x :: xs =>
    let e := xs.foldl (fun m y => if (v - m.angle).toNat < (v - y.angle).toNat then y else m) x
    done (State.fireTdb (s.onDev (fun d => d.setTdb group ((d.tdb group).erase e))) e).2

/-! ### Links -/

/-- A packet of a reserved type has arrived (R329): answered with VERSION. -/
def State.reservedPkt (s : State) (port : Nat) (pk : Pkt) : State :=
  s.arrive port pk (fun d => decide (pk.dst = d.wxAddr) && (decide (pk.typ = 0) || decide (0xB ≤ pk.typ))) (fun s =>
    s.respond pk (some port) 8 8 0 [])

/-- CODEWORD_RECEIVE (R319 to R324): a receiver takes a codeword, and in that time the transmitter sends what it has or a filler. The packets it completes are commands of their own, but for
those of reserved types. (DEDUCED, log entry 140.) -/
def execCodewordReceive (port : Nat) (fec : FecRes) (ctl : BitVec 20) (words : List Word) (s : State) :
    Host.Outcome State Fault Refusal :=
  if !(s.dev.weirPort port) ∨ !((s.dev.link port).lock) ∨ words.length ≠ 80 then .next s
  else
    let dw := (s.dev.wordTimes port).modLink port (fun l => { l with line := [] })
    let d0 := dw.nakAgain port
    let sent (s : State) : State := s.onDev (fun d =>
      if (d.link port).lock && decide ((d.link port).line = []) then d.modLink port (Link.filler (d.portWidth port)) else d)
    if !((d0.link port).lock) then done { s with dev := d0 }
    else if fec = .uncorrectable then done (sent { s with dev := (d0.wrapAdd (R.wptFecunc port) 63 0 1).missed port })
    else
      let d1 := if fec = .corrected then d0.wrapAdd (R.wptFeccorr port) 63 0 1 else d0
      let c := ctl.toNat
      if 0x3FC ≤ c / 1024 then
        done (sent { s with dev := if c = 0xFFFFF then d1.alignment port else if c = 0xFFFFE then d1 else d1.hdrErr port })
      else if words = List.replicate 80 0 then
        done (sent { s with dev := (d1.modLink port (fun l => l.ack (c % 1024))).pump port })
      else if c / 1024 ≠ (d1.link port).rxNext then done (sent { s with dev := d1.missed port })
      else
        let d2 := d1.modLink port (fun l => { l.ack (c % 1024) with rxNext := (l.rxNext + 1) % 1020, nakWait := none })
        let r := words.foldl (fun x w => Dev.takeWord x port w) (d2, [])
        done (sent (r.2.foldl (fun s pk => s.reservedPkt port pk) { s with dev := r.1.pump port }))

/-- LINK_DOWN (R325): FEC lock or alignment is lost for 1 ms (`lockLost`), or the port leaves service. -/
def execLinkDown (port : Nat) (lockLost : Bool) (s : State) : Host.Outcome State Fault Refusal :=
  if !(s.dev.weirPort port) ∨ !((s.dev.link port).lock) then .next s
  else done (s.onDev (fun d => let d1 := d.linkDown port; if lockLost then d1.wptEvent port 4 else d1))

/-- LINK_LOCK (R323, R345): the link enters discovery, credit is granted and HELLO begins. (DEDUCED, log entry 142.) -/
def execLinkLock (port : Nat) (s : State) : Host.Outcome State Fault Refusal :=
  if !(s.dev.weirPort port) ∨ (s.dev.link port).lock ∨ !(s.dev.portLocked port) then .next s
  else
    done (s.onDev (fun d =>
      let w := (d.portLanes port).length
      let d1 := (d.setReg (R.wptStatus port) (setFld (setFld (d.reg (R.wptStatus port)) 15 8 w) 2 0 3)).setLink port
        { Link.off with lock := true, ctl := (List.range 8).map (fun k => creditWord k (80 * w)) }
      (d1.pump port).sendHello port))

/-- HELLO_SEND (R325, R345): a HELLO interval elapses; five without a HELLO received take the link down. -/
def execHelloSend (port : Nat) (s : State) : Host.Outcome State Fault Refusal :=
  if !(s.dev.weirPort port) ∨ !((s.dev.link port).lock) then .next s
  else
    done (s.onDev (fun d =>
      if 4 ≤ (d.link port).age then d.linkDown port
      else (d.modLink port (fun l => { l with age := l.age + 1 })).sendHello port))

/-- HELLO (R345 to R347, R368). -/
def execHello (port : Nat) (pk : Pkt) (s : State) : Host.Outcome State Fault Refusal :=
  done (s.arrive port pk (fun _ => decide (pk.typ = 9)) (fun s =>
    if pk.crc ≠ pk.crcOf then s.onDev (fun d => d.crcErr (some port))
    else if pktLenOk pk then (s.onDev (fun d => d.helloIn port pk.words)).relane port else s))

/-! ### Formation -/

/-- A management message of a subtype, along the tree or to this device. -/
def mgmtOf (sub : Nat) (tree : Bool) (pk : Pkt) (d : Dev) : Bool :=
  decide (pk.typ = 7) && decide (fld (pk.words.getD 0 0) 7 0 = sub) &&
  (if tree then decide (pk.flags % 2 = 1) else decide (pk.flags % 2 = 0) && decide (pk.dst = d.wxAddr))

/-- A management message is acknowledged and acted on. (DEDUCED, log entry 144.) -/
def State.mgmtIn (s : State) (port : Nat) (pk : Pkt) (f : Dev → Dev) : State :=
  if !(pktLenOk pk) then s.respond pk (some port) 3 6 0 []
  else if pk.crc ≠ pk.crcOf then (s.onDev (fun d => d.crcErr (some port))).respond pk (some port) 6 0 0 []
  else (s.respond pk (some port) 0 0 0 []).onDev f

/-- Whether this device is the headwater. -/
def Dev.isHead (d : Dev) : Bool := bit (d.reg R.wxStatus) 44

/-- The ports a TOPO part lists (R349). -/
def topoPorts : List Word → List TopoPort
  | w :: u :: rest => { own := fld w 7 0, width := fld w 15 8, far := fld w 23 16, uid := u.toNat } :: topoPorts rest
  | _ => []

/-- The headwater takes a TOPO part (R348, R350). (DEDUCED, log entry 146.) -/
def Dev.topoIn (d : Dev) (ws : List Word) : Dev :=
  let uid := (ws.getD 1 0).toNat
  let w := ws.getD 2 0
  let ps := topoPorts (ws.drop 3)
  let old := d.weir.nodes.find? (fun n => decide (n.uid = uid))
  if fld (ws.getD 0 0) 23 16 = 0 then
    let want := if fld w 15 0 = 0xFFFF then (old.map (·.addr)).getD 0xFFFF else fld w 15 0
    d.admitNode { uid := uid, addr := want, amode := if bit w 16 then 1 else if bit w 17 then 2 else 3, vmin := fld w 27 24
                  vmax := fld w 31 28, minp := fld w 35 32, ports := ps, down := [], drain := false } want
  else
    match old with
    | none => d
    | some n =>
      if ps.all (fun t => n.ports.contains t) then d
      else Dev.newEpoch { d with weir := { d.weir with nodes := d.weir.nodes.map (fun m =>
        if m.uid = uid then { m with ports := m.ports ++ ps } else m) } }

/-- TOPO (R348): the child port of the device it names is noted; the headwater processes it, another device relays it up. -/
def execTopo (port : Nat) (pk : Pkt) (s : State) : Host.Outcome State Fault Refusal :=
  done (s.arrive port pk (mgmtOf 1 true pk) (fun s => s.mgmtIn port pk (fun d =>
    let uid := (pk.words.getD 1 0).toNat
    let d1 : Dev := { d with weir := { d.weir with child := Tab.set (fun _ => none) d.weir.child uid (some port) } }
    if d1.isHead then d1.topoIn pk.words else d1.sendUp pk.words)))

/-- Whether a downward message names this device. -/
def forMe (pk : Pkt) (d : Dev) : Bool := decide (pk.words.getD 1 0 = word d.part.uid)

/-- This device's TOPO has been answered (R348). -/
def Dev.dropTopo (d : Dev) : Dev :=
  { d with weir := { d.weir with mgmt := d.weir.mgmt.filter (fun m =>
      !(decide (fld (m.pk.words.getD 0 0) 7 0 = 1) && decide (m.pk.words.getD 1 0 = word d.part.uid))) } }

/-- The device is admitted with an address (R349, R350). -/
def Dev.addrIn (d : Dev) (ws : List Word) : Dev :=
  let w := ws.getD 2 0
  let new := !d.member
  let st := setFld (setFld (setFld (setFld (d.reg R.wxStatus) 63 48 (fld w 15 0)) 47 46 (fld w 25 24)) 7 4 0) 3 0
    (if d.member then d.wxState else 2)
  let d1 := ((d.dropTopo.setReg R.wxStatus st).setReg R.wxIdent (ws.getD 3 0))
  let d2 : Dev := { d1 with weir := { d1.weir with
    timeP := some (fld w 23 16), kept := fld w 15 0, head := some (ws.getD 3 0).toNat } }
  (if new then d2.wxEvent 0 else d2).linkSetAll

/-- ADDR (R348, R350). -/
def execAddr (port : Nat) (pk : Pkt) (s : State) : Host.Outcome State Fault Refusal :=
  done (s.arrive port pk (mgmtOf 2 true pk) (fun s => s.mgmtIn port pk (fun d =>
    if forMe pk d then (if (roleOf d.felt.cfg).1 = 0 then d else d.addrIn pk.words)
    else d.sendDown (pk.words.getD 1 0).toNat pk.words)))

/-- Store a ROUTE part (R349, R357); the epoch comes into force when every entry of the three tables is there (log entry 13). -/
def Dev.routeIn (d : Dev) (ws : List Word) : Dev :=
  let w := ws.getD 2 0
  let ep := fld w 63 32
  let lv := fld w 1 0
  let d0 := if d.weir.nextEp = ep then d else { d with weir := { d.weir with next := [], nextEp := ep } }
  if word ep = d.reg R.wxEpoch ∨ 2 < lv then d
  else
    let val (i : Nat) : Nat := (ws.getD i 0).toNat + 2 ^ 64 * (ws.getD (i + 1) 0).toNat
    let next := (List.range (min 7 (fld w 23 16))).foldl (fun t j =>
      let k := lv * 512 + (fld w 15 8 + j) * 2
      if fld w 15 8 + j < levelSize lv then
        Tab.set (fun _ => none) (Tab.set (fun _ => none) t k (some (val (3 + 4 * j)))) (k + 1) (some (val (5 + 4 * j)))
      else t) d0.weir.next
    let d1 : Dev := { d0 with weir := { d0.weir with next := next } }
    if next.length < 288 then d1
    else d1.useTables ep (next.foldl (fun t e => Tab.set (fun _ => 0) t e.1 (e.2.getD 0)) [])

/-- ROUTE (R348, R357). -/
def execRoute (port : Nat) (pk : Pkt) (s : State) : Host.Outcome State Fault Refusal :=
  done (s.arrive port pk (mgmtOf 3 true pk) (fun s => s.mgmtIn port pk (fun d =>
    if forMe pk d then d.routeIn pk.words else d.sendDown (pk.words.getD 1 0).toNat pk.words)))

/-- REFUSE (R346, R350). (DEDUCED, log entry 150.) -/
def execRefuse (port : Nat) (pk : Pkt) (s : State) : Host.Outcome State Fault Refusal :=
  done (s.arrive port pk (mgmtOf 4 true pk) (fun s => s.mgmtIn port pk (fun d =>
    if forMe pk d then
      let was := d.member
      let d1 := (((d.dropTopo.setRf R.wxStatus 7 4 (fld (pk.words.getD 2 0) 3 0)).setRf R.wxStatus 3 0 5).wxEvent 5)
      (if was then d1.wxEvent 1 else d1).linkSetAll
    else d.sendDown (pk.words.getD 1 0).toNat pk.words)))

/-- PORTDOWN (R357). -/
def execPortdown (port : Nat) (pk : Pkt) (s : State) : Host.Outcome State Fault Refusal :=
  done (s.arrive port pk (mgmtOf 5 true pk) (fun s => s.mgmtIn port pk (fun d =>
    let w := pk.words.getD 2 0
    if d.isHead then d.notePort (pk.words.getD 1 0).toNat (fld w 7 0) (decide (fld w 15 8 ≠ 0)) else d.sendUp pk.words)))

/-- DRAIN (R361): the headwater routes no transit traffic through the device from the next epoch. -/
def execDrain (port : Nat) (pk : Pkt) (s : State) : Host.Outcome State Fault Refusal :=
  done (s.arrive port pk (mgmtOf 6 true pk) (fun s => s.mgmtIn port pk (fun d =>
    if d.isHead then
      Dev.newEpoch { d with weir := { d.weir with nodes := d.weir.nodes.map (fun n =>
        if word n.uid = pk.words.getD 1 0 then { n with drain := bit (pk.words.getD 2 0) 0 } else n) } }
    else d.sendUp pk.words)))

/-- DIGESTREQ (R349): answered with the two parts of the health digest. -/
def execDigestreq (port : Nat) (pk : Pkt) (s : State) : Host.Outcome State Fault Refusal :=
  done (s.arrive port pk (mgmtOf 7 false pk) (fun s =>
    if pk.crc ≠ pk.crcOf ∨ !(pktLenOk pk) then s.onDev (fun d => if pk.crc ≠ pk.crcOf then d.crcErr (some port) else d)
    else s.onDev (fun d => [0, 1].foldl (fun d i =>
      match d.route d.wxAddr pk.src with
      | some o => d.txPkt o none true
          { d.ownPkt 7 3 0 pk.src (mgmtWord 8 i :: packWords ((d.digest.drop (128 * i)).take 128)) with seq := pk.seq }
      | none => d.hopDrop port) d)))

/-- DIGEST (R349): the part is kept. (DEDUCED, log entry 156.) -/
def execDigest (port : Nat) (pk : Pkt) (s : State) : Host.Outcome State Fault Refusal :=
  done (s.arrive port pk (mgmtOf 8 false pk) (fun s => s.onDev (fun d =>
    if pk.crc ≠ pk.crcOf then d.crcErr (some port)
    else if pktLenOk pk then
      let k := pk.src * 2 + fld (pk.words.getD 0 0) 23 16 % 2
      { d with weir := { d.weir with digests := Tab.set (fun _ => []) d.weir.digests k (pk.words.drop 1) } }
    else d)))

/-- MGMT_RETRY (R348): an unacknowledged message goes again after 10 ms, up to eight times. -/
def execMgmtRetry (tag : Nat) (s : State) : Host.Outcome State Fault Refusal :=
  match s.dev.weir.mgmt.find? (fun m => decide (m.tag = tag)) with
  | none => .next s
  | some m =>
    if 8 ≤ m.tries then
      done (s.onDev (fun d => { d with weir := { d.weir with mgmt := d.weir.mgmt.filter (fun x => decide (x.tag ≠ tag)) } }))
    else
      done (s.onDev (fun d =>
        let d1 : Dev := { d with weir := { d.weir with mgmt := d.weir.mgmt.map (fun x =>
          if x.tag = tag then { x with tries := x.tries + 1 } else x) } }
        if (d1.link m.port).lock then d1.txPkt m.port none true m.pk else d1))

/-- BECOME_HEADWATER (R347, R350, R351, R358): the device's candidate has been itself, unchanged, for 20 ms. -/
def execBecomeHeadwater (s : State) : Host.Outcome State Fault Refusal :=
  let d := s.dev
  if d.weir.head.isSome ∨ (d.wxState ≠ 1 ∧ d.wxState ≠ 2) ∨ (d.candidate.map (·.1)) ≠ some d.part.uid then .next s
  else
    let (a, pin, geo) := d.wantAddr
    let addr := if d.member then d.wxAddr else if a = 0xFFFF then 0 else a
    let st0 := setFld (setFld (d.reg R.wxStatus) 63 48 addr) 45 44 3
    let st := setFld (if d.member then st0 else setFld st0 47 46 (if pin then 1 else if geo then 2 else 3)) 3 0 2
    let parts := d.topoParts
    let me : Node := { uid := d.part.uid, addr := addr, amode := 3, vmin := 1, vmax := d.vmaxW, minp := (roleOf d.felt.cfg).2.2
                       ports := parts.flatMap (fun ws => topoPorts (ws.drop 3)), down := [], drain := false }
    let d1 := (d.setReg R.wxStatus st).setReg R.wxIdent (word d.part.uid)
    let d2 : Dev := { d1 with weir := { d1.weir with
      head := some d.part.uid, beacon := 0, parent := none, timeP := none, depth := 0, kept := addr, nodes := [me]
      nextEp := (d.reg R.wxEpoch).toNat } }
    let d3 := if d.member then d2 else d2.wxEvent 0
    done { s with dev := ((d3.wxEvent 3).newEpoch).linkSetAll }

/-- BEACON (R351): the headwater's count, every 10 ms; one that drains has withdrawn (R361). -/
def execBeacon (s : State) : Host.Outcome State Fault Refusal :=
  if s.dev.isHead ∧ s.dev.wxState = 2 then
    done (s.onDev (fun d => { d with weir := { d.weir with beacon := (d.weir.beacon + 1) % 2 ^ 32 } }))
  else .next s

/-- HEADWATER_LOST (R351, R361): no increase of the beacon for 500 ms; the election runs again among the remaining devices, the
tables stay in force. A headwater that drains gives up its place in the same way. -/
def execHeadwaterLost (s : State) : Host.Outcome State Fault Refusal :=
  if s.dev.weir.head.isNone ∨ (s.dev.isHead ∧ s.dev.wxState = 2) then .next s
  else
    done (s.onDev (fun d =>
      ({ d with weir := { d.weir with head := none, parent := none } }).setRf R.wxStatus 45 44 0))

/-! ### Angle time across the fabric -/

/-- DREQ_SEND (R358): each end of an up link sends DREQ every 100 ms. -/
def execDreqSend (port : Nat) (s : State) : Host.Outcome State Fault Refusal :=
  if !(s.dev.linkUp port) then .next s
  else done (s.onDev (fun d => d.txPkt port none true (d.ownPkt 8 0 0 0 [2, d.reg R.exTick])))

/-- SYNC_SEND (R359): every up port but the time port; the master on every one. -/
def execSyncSend (s : State) : Host.Outcome State Fault Refusal :=
  if !s.dev.member then .next s
  else
    done (s.onDev (fun d => ((d.weirPorts.filter (fun p => d.linkUp p && (bit (d.reg R.wxStatus) 45 || decide (d.weir.timeP ≠ some p)))).foldl
      (fun d p => d.txPkt p none true (d.ownPkt 8 0 0 0
        [1, d.reg R.atbNow, word (d.rf R.atbFreq 31 0 + 2 ^ 32 * (if bit (d.reg R.wxStatus) 45 then 0 else d.weir.depth))])) d)))

/-- An angle message of a subtype arrives on an up link. -/
def State.asyncIn (s : State) (port : Nat) (pk : Pkt) (sub : Nat) (f : Dev → Dev) : State :=
  s.arrive port pk (fun _ => decide (pk.typ = 8) && decide (fld (pk.words.getD 0 0) 7 0 = sub)) (fun s => s.onDev (fun d =>
    if pk.crc ≠ pk.crcOf then d.crcErr (some port) else if pktLenOk pk then f d else d))

/-- SYNC (R359): accepted from the time port, at a depth of at most 15; it gives the fabric source its sample. -/
def execSync (port : Nat) (pk : Pkt) (s : State) : Host.Outcome State Fault Refusal :=
  done (s.asyncIn port pk 1 (fun d =>
    let w := pk.words.getD 2 0
    if d.weir.timeP ≠ some port ∨ 15 < fld w 39 32 then d
    else
      let f := fld w 31 0
      let angle := pk.words.getD 1 0 + word (d.rf (R.wptDelay port) 31 0 * f * 2 ^ 32 / 10 ^ 15)
      ({ d with weir := { d.weir with depth := fld w 39 32 + 1 } } : Dev).fabricSample angle f))

/-- DREQ (R358): answered with DRSP. -/
def execDreq (port : Nat) (pk : Pkt) (s : State) : Host.Outcome State Fault Refusal :=
  done (s.asyncIn port pk 2 (fun d =>
    d.txPkt port none true (d.ownPkt 8 0 0 0 [3, pk.words.getD 1 0, d.reg R.exTick, d.reg R.exTick])))

/-- DRSP (R358): the link delay is the mean of the last eight. -/
def execDrsp (port : Nat) (pk : Pkt) (s : State) : Host.Outcome State Fault Refusal :=
  done (s.asyncIn port pk 3 (fun d =>
    let t (i : Nat) : Int := (pk.words.getD i 0).toNat
    let x : Int := ((((d.reg R.exTick).toNat : Int) - t 1) - (t 3 - t 2)) / 2
    let ds := (x :: (d.link port).delays).take 8
    let mean := (ds.foldl (· + ·) 0) / (ds.length : Int)
    (d.modLink port (fun l => { l with delays := ds })).setReg (R.wptDelay port) (word (mean.toNat % 2 ^ 32))))

/-- TMLOST (R359): three intervals without an accepted SYNC. -/
def execTmlost (s : State) : Host.Outcome State Fault Refusal :=
  if s.dev.member ∧ !(bit (s.dev.reg R.wxStatus) 45) then done (s.onDev (fun d => d.wxEvent 6)) else .next s

/-! ### Drain -/

/-- DRAIN_WRITE (R361): a write of WX.CTL. -/
def execDrainWrite (rq : Req) (value : Word) (s : State) : Host.Outcome State Fault Refusal :=
  done (s.regWrite rq R.wxCtl 8 value)

/-- REJOIN (R361): a write of 1 to WX.CTL.REJOIN. -/
def execRejoin (rq : Req) (s : State) : Host.Outcome State Fault Refusal :=
  done (s.regWrite rq R.wxCtl 8 2)

/-- DRAINED (R361). -/
def execDrained (s : State) : Host.Outcome State Fault Refusal :=
  let d := s.dev
  if d.wxState = 3 ∧ (d.reg R.wxEpoch).toNat ≠ d.weir.drainEp ∧ d.weir.outs = [] ∧ d.weir.inq = [] ∧ d.weir.tdb = [] then
    done (s.onDev (fun d => (d.setRf R.wxStatus 3 0 4).wxEvent 4))
  else .next s

end Sys2Proof.Machine
end

