-- ==== Sys2Proof/Machine/MarkEvents.lean ====
section
/-! DEFINITION. Angle marks, the tick, and writes of registers without a row of their own (03 R64 to R67, R76, R79 to R85; 10 CLU.TMRCTL;
13 R377; 00 R4). -/

namespace Sys2Proof.Machine

/-- A mark's action is refused (R83). -/
def Dev.markRefused (d : Dev) (ctl : Nat) : Dev := d.satInc (ctl + 24) 15 8

/-- The tags a mark acts with: its pond and that pond's world (R82, R83). -/
def Dev.markReq (d : Dev) (pond : Nat) : Req := { pond := pond, secure := pondSecure d.felt.cfg pond, dev := false, dbg := false }

/-- An analogue-sample firing (R83): the angle, six values of 16 bits and the count change together. -/
def State.snapshot (s : State) (angle : Word) : State :=
  let v (i : Nat) : Nat := fld (Config.sample (s.free + i)) 15 0
  ({ s with free := s.free + 6 } : State).onDev (fun d =>
    let n := d.rf R.atbSnapval1 63 32 + 1
    ((d.setReg R.atbSnapangle angle).setReg R.atbSnapval0 (word (v 3 * 2 ^ 48 + v 2 * 2 ^ 32 + v 1 * 2 ^ 16 + v 0))).setReg
      R.atbSnapval1 (word (n % 2 ^ 32 * 2 ^ 32 + v 5 * 2 ^ 16 + v 4)))

/-- A mark's change of an output pin (R83): target bits 15:0 name the pin, bits 17:16 drive it low, high, or toggle it. -/
def Dev.markPin (d : Dev) (ctl pond target : Nat) : Dev :=
  let n := target % 65536
  let op := target / 65536 % 4
  match pinOwner d.felt.cfg n with
  | some (p, sec, func) =>
    if ownerAdmits (some (p, sec)) (d.markReq pond) && decide (func ≠ 0) && decide (op ≠ 3) then
      d.drivePin n (if op = 2 then !(d.pinOut n) else decide (op = 1))
    else d.markRefused ctl
  | none => d.markRefused ctl

/-- A mark that fires takes its action (R83); `angle` is the angle it fired at. -/
def State.markAct (s : State) (ctl : Nat) (angle : Word) : State :=
  let (scope, n) := markOf ctl
  let w := s.dev.reg ctl
  let target := fld w 63 32
  let pond := fld w 26 22
  match fld w 29 27 with
  | 0 =>
    let ev : SluiceEv := { kind := 2, src := if scope = 0xFF then 0x8000 + n else n, angle := angle
                           cluster := if scope = 0xFF then target / 1024 % 32 else scope, slot := target % 1024, pond := pond }
    let r := s.dev.sluiceEvent ev
    let s1 : State := { s with dev := if r.1 = 3 then r.2.markRefused ctl else r.2 }
    if scope = 0xFF ∧ s1.dev.pwr.mode = .watch ∧ r.1 ≠ 3 then s1.wakeSource 3 else s1
  | 1 =>
    let c := target % 64
    if ownerAdmits (dmaOwner s.dev.felt.cfg c) (s.dev.markReq pond) then s.dmaStart c else s.onDev (fun d => d.markRefused ctl)
  | 2 => s.snapshot angle
  | 3 => s.onDev (fun d => d.markPin ctl pond target)
  | 4 =>
    let slot := target % 256
    let c := s.dev.reg (R.wxTsctl slot)
    if 64 ≤ slot ∨ (bit c 63 && !(ownerAdmits (some (fld c 61 57, bit c 62)) (s.dev.markReq pond))) then
      s.onDev (fun d => d.markRefused ctl)
    else s.sendSlot slot (some angle)
  | _ => s.onDev (fun d => d.markRefused ctl)

/-- Writes that waited for a mark to fire are applied (R85). -/
def State.markApply (s : State) (p : Nat → Bool) : State :=
  let now := s.dev.atb.held.filter (fun w => p (w.off / 32 * 32))
  now.foldl (fun s w => s.regWriteNow w.rq w.off w.size w.val)
    (s.onDev (fun d => { d with atb := { d.atb with held := d.atb.held.filter (fun w => !(p (w.off / 32 * 32))) } }))

/-- MARK_FIRE (R79, R84, R85): an armed mark at its angle fires, when no mark before it in the order of the tick is due; writes
accepted in this tick then apply. `scope` is 0xFF for a device mark, else the cluster. (DEDUCED, log entry 108.) -/
def execMarkFire (scope n : Nat) (s : State) : Host.Outcome State Fault Refusal :=
  let ctl := mkCtl scope n
  if !((scope = 0xFF ∧ n < 64) ∨ (scope < 32 ∧ n < 16)) ∨ !(s.dev.markDue ctl) ∨
      s.dev.armed.any (fun c => markBefore c ctl && s.dev.markDue c) then .next s
  else
    let angle := s.dev.reg (ctl + 8)
    let s1 := s.onDev (fun d =>
      let d0 : Dev := { d with atb := { d.atb with fired := ctl :: d.atb.fired } }
      let d1 := if bit (d0.reg ctl) 30 then d0.setReg (ctl + 8) (angle + word (d0.rf (ctl + 16) 31 0)) else d0.setRf ctl 31 31 0
      d1.wrapAdd (ctl + 24) 63 32 1)
    done ((s1.markAct ctl angle).markApply (fun c => decide (c = ctl)))

/-- The frequency's move to nominal after holdover, at the rate ATB.ROCOF gives in 0.1 Hz/s (R77): in one tick 10^-4 µHz for each
unit. (DEDUCED, log entry 107.) -/
def Dev.rampTick (d : Dev) : Dev :=
  if !d.atb.ramp then d
  else
    let nom := atbNominal d.felt.cfg
    let f := d.atbFreq
    let t := d.atb.left + d.rf R.atbRocof 15 0
    let step := t / 10000
    let f1 := if f < nom then min nom (f + step) else max nom (f - step)
    ({ d with atb := { d.atb with left := t % 10000, ramp := decide (f1 ≠ nom) } } : Dev).setReg R.atbFreq (word f1)

/-- The ATB value's tick (R65): the rate is added to the value and to the 32 bits below the unit. -/
def Dev.angleTick (d : Dev) : Dev :=
  let t := d.atb.sub + atbRate d.atbFreq
  ({ d with atb := { d.atb with sub := t % 2 ^ 32 } } : Dev).setReg R.atbNow (d.now + word (t / 2 ^ 32))

/-- The PTP clock's tick (R377): 1 ns and the rate offset, and a staged step. -/
def Dev.ptpTick (d : Dev) : Dev :=
  let rate : Int := (BitVec.ofNat 32 (d.rf R.exPtprate 31 0)).toInt
  let t : Int := (d.reg R.exPtpnow).toNat * 2 ^ 32 + d.lane.frac + 2 ^ 32 + rate + (d.reg R.exPtpstep).toNat * 2 ^ 32
  let m := (t % 2 ^ 96).toNat
  (({ d with lane := { d.lane with frac := m % 2 ^ 32 } } : Dev).setReg R.exPtpnow (word (m / 2 ^ 32))).setReg R.exPtpstep 0

/-- Enabled cluster timers count down (CLU.TMRCNT), where the uncore of their cluster runs. (DEDUCED, log entry 88.) -/
def Dev.timerTick (d : Dev) : Dev :=
  (d.regs.filter (fun e => bit e.2 63 && decide (0x01000000 ≤ e.1) && decide (e.1 < 0x01200000) && decide (0x200 ≤ e.1 % 0x10000) &&
    decide (e.1 % 0x10000 < 0x300) && decide (e.1 % 16 = 0) && decide (d.domState (5 + quadOf ((e.1 - 0x01000000) / 0x10000)) ≤ 1))).foldl
    (fun d e => d.setRf (e.1 + 8) 31 0 (d.rf (e.1 + 8) 31 0 - 1)) d

/-- ATB_TICK (R64 to R67, R76, R85, R87, R377): one tick of the 1 GHz clock once domain 1 has left reset. (DEDUCED, log entry 106; DESIGN CHOICE, log entry 230.) -/
def execAtbTick (s : State) : Host.Outcome State Fault Refusal :=
  if s.dev.domState 1 ≠ 0 ∨ s.dev.pwr.step ≤ 1 ∨ s.dev.pins.resetLow then .next s
  else
    .next ((s.markApply (fun _ => true)).onDev (fun d =>
      (((({ d with atb := { d.atb with fired := [] } } : Dev).angleTick.rampTick).showWindows).wrapAdd R.exTick 63 0 1).ptpTick.timerTick))

/-- REGISTER_WRITE (R4): a write of a register without a row of its own. (DEDUCED, log entry 35.) -/
def execRegisterWrite (rq : Req) (off size : Nat) (value : Word) (s : State) : Host.Outcome State Fault Refusal :=
  done (s.regWrite rq off size value)

end Sys2Proof.Machine
end

