-- ==== Sys2Proof/Machine/NocEvents.lean ====
section
/-! DEFINITION. Flits at stops (01 R16, R22, R24 to R26, R28, R29). -/

namespace Sys2Proof.Machine

/-- The stop of the DRAM channel behind an address's home (R28). -/
def Dev.dramStop (d : Dev) (pa : Nat) : Option Nat := (dramMap d.felt.cfg pa).map (fun x => channelStop x.1)

/-- The stop that the network routes a physical address to (R28, R30); none for a reserved address outside every block. -/
def Dev.routedTo (d : Dev) (pa : Nat) : Option Nat :=
  match prange pa with
  | .dram => some (clusterStop (d.home pa))
  | .ctl => (blockOf (pa - ctlBase)).map (fun x => blockStop x.1 x.2.1)
  | .nv => some (ioStop 3)
  | .host => some (ioStop 0)
  | .weir => (d.route d.wxAddr (pa / 2 ^ 35 % 2 ^ 16)).map (fun p => groupStop (p / 16))
  | .hole => none

/-- Whether a request's target is absent on this order code (R2, R16): the router of its stop answers. -/
def Dev.behindAbsent (d : Dev) (pa : Nat) : Bool :=
  match prange pa with
  | .ctl => (match blockOf (pa - ctlBase) with
    | some (b, i, o) => !(d.present b i o)
    | none => false)
  | _ => false

/-- A stop's target takes a request flit (R16, R22, R25, R26, R29): behind an absent block the router answers as R2 requires; a refused
request is answered REFUSED_POLICY and not acted on; a request to a home with no free tracker waits; a poisoned write leaves its line of
DRAM poisoned. What an accepted request then does is the effect of its own command. (DEDUCED, log entry 233.) -/
def State.flitRequest (s : State) (stop : Nat) (f : NocFlit) (wr : Bool) : State :=
  let h := flitHead f.head
  let rq : Req := { pond := h.pond, secure := h.secure, dev := false, dbg := false }
  let back (s : State) (st : Nat) : State := s.onDev (fun d => d.inject stop (h.answer st) (if wr then [] else List.replicate 8 0))
  if s.dev.behindAbsent h.addr then back s 0
  else
    match s.gate rq h.addr (2 ^ h.size) wr with
    | (some (.bad st), s1) => back s1 st
    | (some .lost, s1) => back s1 3
    | (some .wait, s1) => s1.onDev (fun d => { d with noc := { d.noc with
        req := Tab.set (fun _ => []) d.noc.req stop (Tab.get (fun _ => []) d.noc.req stop ++ [f]) } })
    | (_, s1) =>
      if prange h.addr = .dram ∧ !(s1.dev.trkFree (s1.dev.home h.addr) false h.qos) then
        s1.onDev (fun d => ({ d with noc := { d.noc with
          req := Tab.set (fun _ => []) d.noc.req stop (Tab.get (fun _ => []) d.noc.req stop ++ [f]) } } : Dev).wrapAdd
            (R.llcWait (d.home h.addr) h.qos) 63 0 1)
      else if prange h.addr = .dram ∧ wr ∧ h.pois then s1.onMem (fun m => m.poisonNewest (h.addr / 64))
      else s1

/-- A flit at its destination (R22, R25): a response or a snoop is accepted into its reserved buffer at once, a response with POIS set
as POISONED; a request goes to the stop's target. -/
def State.deliver (s : State) (stop : Nat) (f : NocFlit) : State :=
  let h := flitHead f.head
  let kind := (Config.flitKind h.opc).toNat
  let take (s : State) (f : NocFlit) : State := s.onDev (fun d => { d with noc := { d.noc with got := Tab.set (fun _ => []) d.noc.got stop [f] } })
  match kind with
  | 0 => s.flitRequest stop f false
  | 1 => s.flitRequest stop f true
  | 2 => take s f
  | _ => take s (if h.pois then { f with head := { h with stat := 6 }.bits } else f)

/-- The requests that waited at a stop are offered again, in order (R22). -/
def State.offerAgain (s : State) (stop : Nat) : State :=
  let fs := Tab.get (fun _ => []) s.dev.noc.req stop
  let s1 := s.onDev (fun d => { d with noc := { d.noc with req := Tab.set (fun _ => []) d.noc.req stop [] } })
  fs.foldl (fun s f => s.flitRequest stop f (decide ((Config.flitKind (flitHead f.head).opc).toNat = 1))) s1

/-- An intact flit has arrived on a stop's port: it leaves the sender's retry buffer, is delivered or queued, and the network moves what
it can. -/
def State.flitAccept (s : State) (stop port : Nat) (f : NocFlit) : State :=
  let up := feeder stop port
  let k := 4 * up.1 + up.2
  let s1 := s.offerAgain stop
  let buf := Tab.get (fun _ => []) s1.dev.noc.sent k
  let h := flitHead f.head
  let vc := match buf with
    | (v, _) :: _ => v
    | [] => 2 * h.qos
  let n0 : NocSt := { s1.dev.noc with sent := Tab.set (fun _ => []) s1.dev.noc.sent k buf.tail
                                      resend := Tab.set (fun _ => false) s1.dev.noc.resend k false }
  let n1 := if buf = [] then n0.credit k vc true else n0
  let s2 : State :=
    if h.dst = stop then (s1.onDev (fun d => { d with noc := n1.free stop port vc })).deliver stop f
    else s1.onDev (fun d => { d with noc := n1.enqueue stop port vc f })
  s2.onDev Dev.nocRun

/-- FLIT_RECEIVE (R17 to R25): a flit arrives at a stop's port. A wrong header check discards it and asks for a resend; the third in
succession, all sends of the flit at the front of the link's retry buffer, holds the link's traffic and writes an error record. An intact
flit is delivered or forwarded; an uncorrectable payload word sets POIS. -/
def execFlitReceive (stop port : Nat) (flit : Flit) (ecc : List Secded) (s : State) : Host.Outcome State Fault Refusal :=
  let k := 4 * stop + port
  let n := Tab.get (fun _ => 0) s.dev.net k
  let put (d : Dev) (v : Nat) : Dev := { d with net := Tab.set (fun _ => 0) d.net k v }
  if 64 ≤ stop ∨ 4 ≤ port ∨ 3 ≤ n then .next s
  else if flit.hchk ≠ flitCheck flit.head then
    let up := feeder stop port
    let ask (d : Dev) : Dev := { d with noc := { d.noc with resend := Tab.set (fun _ => false) d.noc.resend (4 * up.1 + up.2) true } }
    if n = 2 then done (s.onDev (fun d => (put (ask d) 3).reportTest (stopQuad stop) 4 15 k 2 0xFF 0 0 false []))
    else done (s.onDev (fun d => put (ask d) (n + 1)))
  else
    let d1 := put s.dev 0
    let d2 := if ecc.contains .single then d1.report (stopQuad stop) 4 15 k 0 0 0xFF 0 0 [] else d1
    let bad := ecc.contains .double
    let d3 := if bad then d2.report (stopQuad stop) 4 15 k 1 0 (flitHead flit.head).pond 0 0 [] else d2
    done (({ s with dev := d3 } : State).flitAccept stop port
      { head := if bad then poisHead flit.head else flit.head, pay := flit.pay, wait := 0 })

end Sys2Proof.Machine
end

