-- ==== Sys2Proof/Machine/Dispatch.lean ====
section
/-! DEFINITION. One arm per command: the table of meanings. -/

namespace Sys2Proof.Machine

/-- The effect of a command on everything but the queue. -/
def exec (i : Instr) (s : State) : Host.Outcome State Fault Refusal :=
  match i with
  | .ld h m => Sys2Proof.Machine.execLd h m s
  | .lds h m => Sys2Proof.Machine.execLds h m s
  | .st h m => Sys2Proof.Machine.execSt h m s
  | .lea h m => Sys2Proof.Machine.execLea h m s
  | .add h m => Sys2Proof.Machine.execAdd h m s
  | .adc h m => Sys2Proof.Machine.execAdc h m s
  | .sub h m => Sys2Proof.Machine.execSub h m s
  | .sbc h m => Sys2Proof.Machine.execSbc h m s
  | .andM h m => Sys2Proof.Machine.execAndM h m s
  | .orM h m => Sys2Proof.Machine.execOrM h m s
  | .xor h m => Sys2Proof.Machine.execXor h m s
  | .cmp h m => Sys2Proof.Machine.execCmp h m s
  | .tst h m => Sys2Proof.Machine.execTst h m s
  | .inc h m => Sys2Proof.Machine.execInc h m s
  | .dec h m => Sys2Proof.Machine.execDec h m s
  | .ldx h m => Sys2Proof.Machine.execLdx h m s
  | .stx h m => Sys2Proof.Machine.execStx h m s
  | .ldy h m => Sys2Proof.Machine.execLdy h m s
  | .sty h m => Sys2Proof.Machine.execSty h m s
  | .mul h m => Sys2Proof.Machine.execMul h m s
  | .mulh h m => Sys2Proof.Machine.execMulh h m s
  | .mulhu h m => Sys2Proof.Machine.execMulhu h m s
  | .div h m => Sys2Proof.Machine.execDiv h m s
  | .divu h m => Sys2Proof.Machine.execDivu h m s
  | .rem h m => Sys2Proof.Machine.execRem h m s
  | .remu h m => Sys2Proof.Machine.execRemu h m s
  | .fadd h m => Sys2Proof.Machine.execFadd h m s
  | .fsub h m => Sys2Proof.Machine.execFsub h m s
  | .fmul h m => Sys2Proof.Machine.execFmul h m s
  | .fdiv h m => Sys2Proof.Machine.execFdiv h m s
  | .fcmp h m => Sys2Proof.Machine.execFcmp h m s
  | .ldi h imm => Sys2Proof.Machine.execLdi h imm s
  | .addi h imm => Sys2Proof.Machine.execAddi h imm s
  | .cmpi h imm => Sys2Proof.Machine.execCmpi h imm s
  | .andi h imm => Sys2Proof.Machine.execAndi h imm s
  | .ldxi h imm => Sys2Proof.Machine.execLdxi h imm s
  | .addxi h imm => Sys2Proof.Machine.execAddxi h imm s
  | .ldyi h imm => Sys2Proof.Machine.execLdyi h imm s
  | .addyi h imm => Sys2Proof.Machine.execAddyi h imm s
  | .addsp h imm => Sys2Proof.Machine.execAddsp h imm s
  | .shli h imm => Sys2Proof.Machine.execShli h imm s
  | .shri h imm => Sys2Proof.Machine.execShri h imm s
  | .sari h imm => Sys2Proof.Machine.execSari h imm s
  | .roli h imm => Sys2Proof.Machine.execRoli h imm s
  | .btst h imm => Sys2Proof.Machine.execBtst h imm s
  | .bset h imm => Sys2Proof.Machine.execBset h imm s
  | .bclr h imm => Sys2Proof.Machine.execBclr h imm s
  | .scall h imm => Sys2Proof.Machine.execScall h imm s
  | .mcall h imm => Sys2Proof.Machine.execMcall h imm s
  | .nop h => Sys2Proof.Machine.execNop h s
  | .mv h k => Sys2Proof.Machine.execMv h k s
  | .xch h => Sys2Proof.Machine.execXch h s
  | .neg h => Sys2Proof.Machine.execNeg h s
  | .not h => Sys2Proof.Machine.execNot h s
  | .pusha h => Sys2Proof.Machine.execPusha h s
  | .popa h => Sys2Proof.Machine.execPopa h s
  | .pushx h => Sys2Proof.Machine.execPushx h s
  | .popx h => Sys2Proof.Machine.execPopx h s
  | .pushy h => Sys2Proof.Machine.execPushy h s
  | .popy h => Sys2Proof.Machine.execPopy h s
  | .pushf h => Sys2Proof.Machine.execPushf h s
  | .popf h => Sys2Proof.Machine.execPopf h s
  | .ret h => Sys2Proof.Machine.execRet h s
  | .eret h => Sys2Proof.Machine.execEret h s
  | .fret h => Sys2Proof.Machine.execFret h s
  | .jmpa h => Sys2Proof.Machine.execJmpa h s
  | .loopx h => Sys2Proof.Machine.execLoopx h s
  | .xsync h => Sys2Proof.Machine.execXsync h s
  | .ifence h => Sys2Proof.Machine.execIfence h s
  | .fenceL h => Sys2Proof.Machine.execFenceL h s
  | .fenceS h => Sys2Proof.Machine.execFenceS h s
  | .fenceLs h => Sys2Proof.Machine.execFenceLs h s
  | .fenceLF h => Sys2Proof.Machine.execFenceLF h s
  | .fenceSF h => Sys2Proof.Machine.execFenceSF h s
  | .fenceLsF h => Sys2Proof.Machine.execFenceLsF h s
  | .wait h => Sys2Proof.Machine.execWait h s
  | .yield h => Sys2Proof.Machine.execYield h s
  | .brk h => Sys2Proof.Machine.execBrk h s
  | .fnegD h z => Sys2Proof.Machine.execFnegD h z s
  | .fabsD h z => Sys2Proof.Machine.execFabsD h z s
  | .fsqrtD h z => Sys2Proof.Machine.execFsqrtD h z s
  | .ldiu h imm => Sys2Proof.Machine.execLdiu h imm s
  | .shldi h imm => Sys2Proof.Machine.execShldi h imm s
  | .subi h imm => Sys2Proof.Machine.execSubi h imm s
  | .ori h imm => Sys2Proof.Machine.execOri h imm s
  | .xori h imm => Sys2Proof.Machine.execXori h imm s
  | .tsti h imm => Sys2Proof.Machine.execTsti h imm s
  | .muli h imm => Sys2Proof.Machine.execMuli h imm s
  | .adci h imm => Sys2Proof.Machine.execAdci h imm s
  | .sbci h imm => Sys2Proof.Machine.execSbci h imm s
  | .cmpxi h imm => Sys2Proof.Machine.execCmpxi h imm s
  | .cmpyi h imm => Sys2Proof.Machine.execCmpyi h imm s
  | .shldx h imm => Sys2Proof.Machine.execShldx h imm s
  | .shldy h imm => Sys2Proof.Machine.execShldy h imm s
  | .addspi h imm => Sys2Proof.Machine.execAddspi h imm s
  | .shl h imm => Sys2Proof.Machine.execShl h imm s
  | .shr h imm => Sys2Proof.Machine.execShr h imm s
  | .sar h imm => Sys2Proof.Machine.execSar h imm s
  | .rol h imm => Sys2Proof.Machine.execRol h imm s
  | .btgl h imm => Sys2Proof.Machine.execBtgl h imm s
  | .bfx h imm => Sys2Proof.Machine.execBfx h imm s
  | .bfxs h imm => Sys2Proof.Machine.execBfxs h imm s
  | .mfc h imm => Sys2Proof.Machine.execMfc h imm s
  | .mtc h imm => Sys2Proof.Machine.execMtc h imm s
  | .brS h off => Sys2Proof.Machine.execBrS h off s
  | .br h off => Sys2Proof.Machine.execBr h off s
  | .call h mask off => Sys2Proof.Machine.execCall h mask off s
  | .callI h mask d mode => Sys2Proof.Machine.execCallI h mask d mode s
  | .loop h sub imm endShort => Sys2Proof.Machine.execLoop h sub imm endShort s
  | .loopi h imm endShort => Sys2Proof.Machine.execLoopi h imm endShort s
  | .macV h o => Sys2Proof.Machine.execMacV h o s
  | .red h imm => Sys2Proof.Machine.execRed h imm s
  | .redC h imm => Sys2Proof.Machine.execRedC h imm s
  | .qclr h imm => Sys2Proof.Machine.execQclr h imm s
  | .swap h o => Sys2Proof.Machine.execSwap h o s
  | .cas h o => Sys2Proof.Machine.execCas h o s
  | .ldadd h o => Sys2Proof.Machine.execLdadd h o s
  | .ldand h o => Sys2Proof.Machine.execLdand h o s
  | .ldor h o => Sys2Proof.Machine.execLdor h o s
  | .movb h o => Sys2Proof.Machine.execMovb h o s
  | .fillb h o => Sys2Proof.Machine.execFillb h o s
  | .cmpb h o => Sys2Proof.Machine.execCmpb h o s
  | .scanb h o => Sys2Proof.Machine.execScanb h o s
  | .fsqrtS h z => Sys2Proof.Machine.execFsqrtS h z s
  | .fnegS h z => Sys2Proof.Machine.execFnegS h z s
  | .fabsS h z => Sys2Proof.Machine.execFabsS h z s
  | .fcvtDS h z => Sys2Proof.Machine.execFcvtDS h z s
  | .fcvtSD h z => Sys2Proof.Machine.execFcvtSD h z s
  | .fcvtDL h z => Sys2Proof.Machine.execFcvtDL h z s
  | .fcvtSL h z => Sys2Proof.Machine.execFcvtSL h z s
  | .fcvtLD h z => Sys2Proof.Machine.execFcvtLD h z s
  | .fcvtLS h z => Sys2Proof.Machine.execFcvtLS h z s
  | .fcvtzLD h z => Sys2Proof.Machine.execFcvtzLD h z s
  | .clz h z => Sys2Proof.Machine.execClz h z s
  | .ctz h z => Sys2Proof.Machine.execCtz h z s
  | .popc h z => Sys2Proof.Machine.execPopc h z s
  | .bswap h z => Sys2Proof.Machine.execBswap h z s
  | .clt h z => Sys2Proof.Machine.execClt h z s
  | .sett h z => Sys2Proof.Machine.execSett h z s
  | .clc h z => Sys2Proof.Machine.execClc h z s
  | .setc h z => Sys2Proof.Machine.execSetc h z s
  | .flclr h z => Sys2Proof.Machine.execFlclr h z s
  | .wlk h z => Sys2Proof.Machine.execWlk h z s
  | .tlbwr h z victims => Sys2Proof.Machine.execTlbwr h z victims s
  | .tlbinvVa h z => Sys2Proof.Machine.execTlbinvVa h z s
  | .tlbinvAs h z => Sys2Proof.Machine.execTlbinvAs h z s
  | .tlbinvW h z => Sys2Proof.Machine.execTlbinvW h z s
  | .tlbinvBVa h z => Sys2Proof.Machine.execTlbinvBVa h z s
  | .tlbinvBAs h z => Sys2Proof.Machine.execTlbinvBAs h z s
  | .tlbinvBW h z => Sys2Proof.Machine.execTlbinvBW h z s
  | .svl h z => Sys2Proof.Machine.execSvl h z s
  | .svu h z => Sys2Proof.Machine.execSvu h z s
  | .rsl h z => Sys2Proof.Machine.execRsl h z s
  | .rsu h z => Sys2Proof.Machine.execRsu h z s
  | .cpf h o => Sys2Proof.Machine.execCpf h o s
  | .cwb h o => Sys2Proof.Machine.execCwb h o s
  | .cwbi h o => Sys2Proof.Machine.execCwbi h o s
  | .cinv h o => Sys2Proof.Machine.execCinv h o s
  | .swake h imm => Sys2Proof.Machine.execSwake h imm s
  | .sprio h imm => Sys2Proof.Machine.execSprio h imm s
  | .sdead h imm => Sys2Proof.Machine.execSdead h imm s
  | .pfx h imm => Sys2Proof.Machine.execPfx h imm s
  | .takeInterrupt core => Sys2Proof.Machine.execTakeInterrupt core s
  | .fastInterrupt core => Sys2Proof.Machine.execFastInterrupt core s
  | .machineCheckAsync core => Sys2Proof.Machine.execMachineCheckAsync core s
  | .singleStep core => Sys2Proof.Machine.execSingleStep core s
  | .longOperationComplete core => Sys2Proof.Machine.execLongOperationComplete core s
  | .blockElement core => Sys2Proof.Machine.execBlockElement core s
  | .storeVisible core idx lag => Sys2Proof.Machine.execStoreVisible core idx lag s
  | .readResponse core pa size => Sys2Proof.Machine.execReadResponse core pa size s
  | .debugHalt core => Sys2Proof.Machine.execDebugHalt core s
  | .haltreq rq core => Sys2Proof.Machine.execHaltreq rq core s
  | .resume rq core => Sys2Proof.Machine.execResume rq core s
  | .rdataAccess rq core wr value => Sys2Proof.Machine.execRdataAccess rq core wr value s
  | .debugPortAccess pond secure addr size wr value => Sys2Proof.Machine.execDebugPortAccess pond secure addr size wr value s
  | .coreReset core => Sys2Proof.Machine.execCoreReset core s
  | .coreResetDrainTimeout core => Sys2Proof.Machine.execCoreResetDrainTimeout core s
  | .sluiceEvent ev => Sys2Proof.Machine.execSluiceEvent ev s
  | .switchOut core => Sys2Proof.Machine.execSwitchOut core s
  | .contextRestore core => Sys2Proof.Machine.execContextRestore core s
  | .sliceExpiry core => Sys2Proof.Machine.execSliceExpiry core s
  | .placementInterval cluster => Sys2Proof.Machine.execPlacementInterval cluster s
  | .ctxCreate cluster => Sys2Proof.Machine.execCtxCreate cluster s
  | .ctxWake cluster => Sys2Proof.Machine.execCtxWake cluster s
  | .ctxStop cluster => Sys2Proof.Machine.execCtxStop cluster s
  | .ctxStart cluster => Sys2Proof.Machine.execCtxStart cluster s
  | .ctxRelease cluster => Sys2Proof.Machine.execCtxRelease cluster s
  | .ctxMove cluster => Sys2Proof.Machine.execCtxMove cluster s
  | .ctxdataWrite rq cluster j value => Sys2Proof.Machine.execCtxdataWrite rq cluster j value s
  | .clusterTimerExpiry cluster n => Sys2Proof.Machine.execClusterTimerExpiry cluster n s
  | .sourceEdge src level => Sys2Proof.Machine.execSourceEdge src level s
  | .boundEventReoffer cluster => Sys2Proof.Machine.execBoundEventReoffer cluster s
  | .eoi rq src => Sys2Proof.Machine.execEoi rq src s
  | .pendset rq j bits => Sys2Proof.Machine.execPendset rq j bits s
  | .pendclr rq j bits => Sys2Proof.Machine.execPendclr rq j bits s
  | .maskset rq j bits => Sys2Proof.Machine.execMaskset rq j bits s
  | .maskclr rq j bits => Sys2Proof.Machine.execMaskclr rq j bits s
  | .markFire scope n => Sys2Proof.Machine.execMarkFire scope n s
  | .markRegisterWrite rq scope n j size value => Sys2Proof.Machine.execMarkRegisterWrite rq scope n j size value s
  | .evaluationCycle p obs => Sys2Proof.Machine.execEvaluationCycle p obs s
  | .sourceLost p => Sys2Proof.Machine.execSourceLost p s
  | .holdoverExpiry => Sys2Proof.Machine.execHoldoverExpiry s
  | .atbSettingWrite rq setting value => Sys2Proof.Machine.execAtbSettingWrite rq setting value s
  | .encoderEdge forward => Sys2Proof.Machine.execEncoderEdge forward s
  | .protectRise => Sys2Proof.Machine.execProtectRise s
  | .protectFall => Sys2Proof.Machine.execProtectFall s
  | .ptpstep rq value => Sys2Proof.Machine.execPtpstep rq value s
  | .flitReceive stop port flit ecc => Sys2Proof.Machine.execFlitReceive stop port flit ecc s
  | .getcopy agent line => Sys2Proof.Machine.execGetcopy agent line s
  | .getown agent line => Sys2Proof.Machine.execGetown agent line s
  | .promote agent line => Sys2Proof.Machine.execPromote agent line s
  | .peekline sender rq line => Sys2Proof.Machine.execPeekline sender rq line s
  | .putfull sender rq line data stash wbAttr room => Sys2Proof.Machine.execPutfull sender rq line data stash wbAttr room s
  | .putpartial sender rq pa data => Sys2Proof.Machine.execPutpartial sender rq pa data s
  | .dropdirty agent line => Sys2Proof.Machine.execDropdirty agent line s
  | .dropclean agent line => Sys2Proof.Machine.execDropclean agent line s
  | .probedemote agent line => Sys2Proof.Machine.execProbedemote agent line s
  | .probetake agent line => Sys2Proof.Machine.execProbetake agent line s
  | .probeTake core line => Sys2Proof.Machine.execProbeTake core line s
  | .probepeek agent line => Sys2Proof.Machine.execProbepeek agent line s
  | .probeclear agent line => Sys2Proof.Machine.execProbeclear agent line s
  | .evictionAck agent line => Sys2Proof.Machine.execEvictionAck agent line s
  | .atomicHoldExpiry core => Sys2Proof.Machine.execAtomicHoldExpiry core s
  | .dirprobe slice => Sys2Proof.Machine.execDirprobe slice s
  | .tlbinvBArrival core => Sys2Proof.Machine.execTlbinvBArrival core s
  | .tlbinvBTimeout core => Sys2Proof.Machine.execTlbinvBTimeout core s
  | .checkSlotA => Sys2Proof.Machine.execCheckSlotA s
  | .checkSlotB => Sys2Proof.Machine.execCheckSlotB s
  | .submitAmendment => Sys2Proof.Machine.execSubmitAmendment s
  | .moveCluster => Sys2Proof.Machine.execMoveCluster s
  | .moveFunction => Sys2Proof.Machine.execMoveFunction s
  | .moveDma => Sys2Proof.Machine.execMoveDma s
  | .moveIrq => Sys2Proof.Machine.execMoveIrq s
  | .setBound => Sys2Proof.Machine.execSetBound s
  | .setHold => Sys2Proof.Machine.execSetHold s
  | .clearHold => Sys2Proof.Machine.execClearHold s
  | .setDebug => Sys2Proof.Machine.execSetDebug s
  | .setMark => Sys2Proof.Machine.execSetMark s
  | .setShare => Sys2Proof.Machine.execSetShare s
  | .setCap => Sys2Proof.Machine.execSetCap s
  | .deviceStart obs => Sys2Proof.Machine.execDeviceStart obs s
  | .bootStepTimeout obs late => Sys2Proof.Machine.execBootStepTimeout obs late s
  | .stoppingHoldExpiry => Sys2Proof.Machine.execStoppingHoldExpiry s
  | .resetN low => Sys2Proof.Machine.execResetN low s
  | .powerOn => Sys2Proof.Machine.execPowerOn s
  | .devreset key => Sys2Proof.Machine.execDevreset key s
  | .pwrcyc key => Sys2Proof.Machine.execPwrcyc key s
  | .pwrcycRelease => Sys2Proof.Machine.execPwrcycRelease s
  | .undervoltage vaon => Sys2Proof.Machine.execUndervoltage vaon s
  | .thermalShutdown hot sensor failed => Sys2Proof.Machine.execThermalShutdown hot sensor failed s
  | .thermalLimitStep hot sensor => Sys2Proof.Machine.execThermalLimitStep hot sensor s
  | .powerCapStep mw => Sys2Proof.Machine.execPowerCapStep mw s
  | .avsLoopStep quad need fmax vout iout inBand => Sys2Proof.Machine.execAvsLoopStep quad need fmax vout iout inBand s
  | .droop cluster cycles => Sys2Proof.Machine.execDroop cluster cycles s
  | .heldDomainLost dom => Sys2Proof.Machine.execHeldDomainLost dom s
  | .powerGoodReturn dom => Sys2Proof.Machine.execPowerGoodReturn dom s
  | .domainRequestOn rq dom => Sys2Proof.Machine.execDomainRequestOn rq dom s
  | .domainRequestClockGate rq dom => Sys2Proof.Machine.execDomainRequestClockGate rq dom s
  | .domainRequestRetention rq dom => Sys2Proof.Machine.execDomainRequestRetention rq dom s
  | .domainRequestOff rq dom => Sys2Proof.Machine.execDomainRequestOff rq dom s
  | .domainTransitionDone dom => Sys2Proof.Machine.execDomainTransitionDone dom s
  | .domainRequestTimeout dom => Sys2Proof.Machine.execDomainRequestTimeout dom s
  | .clusterIdle cluster => Sys2Proof.Machine.execClusterIdle cluster s
  | .idleTimeout cluster => Sys2Proof.Machine.execIdleTimeout cluster s
  | .domainWake dom => Sys2Proof.Machine.execDomainWake dom s
  | .wakeLead cluster => Sys2Proof.Machine.execWakeLead cluster s
  | .watch => Sys2Proof.Machine.execWatch s
  | .off => Sys2Proof.Machine.execOff s
  | .watchSequencerInterval rms => Sys2Proof.Machine.execWatchSequencerInterval rms s
  | .wakeSenseRise => Sys2Proof.Machine.execWakeSenseRise s
  | .floor => Sys2Proof.Machine.execFloor s
  | .floorup => Sys2Proof.Machine.execFloorup s
  | .recordStoreWrite rq off data => Sys2Proof.Machine.execRecordStoreWrite rq off data s
  | .errorRecord quad obs => Sys2Proof.Machine.execErrorRecord quad obs s
  | .selfTestComplete quad pass l1i spare => Sys2Proof.Machine.execSelfTestComplete quad pass l1i spare s
  | .bucketLeak key => Sys2Proof.Machine.execBucketLeak key s
  | .dramRecordSave => Sys2Proof.Machine.execDramRecordSave s
  | .laneSettingsSave => Sys2Proof.Machine.execLaneSettingsSave s
  | .avsRecordSave => Sys2Proof.Machine.execAvsRecordSave s
  | .digestUpdate => Sys2Proof.Machine.execDigestUpdate s
  | .channelRead ch pa pond qos slots => Sys2Proof.Machine.execChannelRead ch pa pond qos slots s
  | .channelWrite ch pa size pond qos slots => Sys2Proof.Machine.execChannelWrite ch pa size pond qos slots s
  | .refreshDue ch rank => Sys2Proof.Machine.execRefreshDue ch rank s
  | .zqCalibration ch rank => Sys2Proof.Machine.execZqCalibration ch rank s
  | .retraining ch train phase => Sys2Proof.Machine.execRetraining ch train phase s
  | .scrubRead ch ecc => Sys2Proof.Machine.execScrubRead ch ecc s
  | .rowIdleTimeout ch bank => Sys2Proof.Machine.execRowIdleTimeout ch bank s
  | .crcAlert ch rank parity failures => Sys2Proof.Machine.execCrcAlert ch rank parity failures s
  | .sparecmd ch => Sys2Proof.Machine.execSparecmd ch s
  | .migrationCopy ch ecc => Sys2Proof.Machine.execMigrationCopy ch ecc s
  | .shareWrite rq ch pond value => Sys2Proof.Machine.execShareWrite rq ch pond value s
  | .hselClr rq ch value => Sys2Proof.Machine.execHselClr rq ch value s
  | .codewordReceive port fec ctl words => Sys2Proof.Machine.execCodewordReceive port fec ctl words s
  | .linkDown port lockLost => Sys2Proof.Machine.execLinkDown port lockLost s
  | .linkLock port => Sys2Proof.Machine.execLinkLock port s
  | .hello port pk => Sys2Proof.Machine.execHello port pk s
  | .helloSend port => Sys2Proof.Machine.execHelloSend port s
  | .write port pk stall => Sys2Proof.Machine.execWrite port pk stall s
  | .twrite port pk => Sys2Proof.Machine.execTwrite port pk s
  | .read port pk stall => Sys2Proof.Machine.execRead port pk stall s
  | .rdata port pk => Sys2Proof.Machine.execRdata port pk s
  | .cpl port pk => Sys2Proof.Machine.execCpl port pk s
  | .doorbell port pk => Sys2Proof.Machine.execDoorbell port pk s
  | .tdoorbell port pk => Sys2Proof.Machine.execTdoorbell port pk s
  | .topo port pk => Sys2Proof.Machine.execTopo port pk s
  | .addr port pk => Sys2Proof.Machine.execAddr port pk s
  | .route port pk => Sys2Proof.Machine.execRoute port pk s
  | .refuse port pk => Sys2Proof.Machine.execRefuse port pk s
  | .portdown port pk => Sys2Proof.Machine.execPortdown port pk s
  | .drain port pk => Sys2Proof.Machine.execDrain port pk s
  | .digestreq port pk => Sys2Proof.Machine.execDigestreq port pk s
  | .digest port pk => Sys2Proof.Machine.execDigest port pk s
  | .sync port pk => Sys2Proof.Machine.execSync port pk s
  | .dreq port pk => Sys2Proof.Machine.execDreq port pk s
  | .drsp port pk => Sys2Proof.Machine.execDrsp port pk s
  | .packetForward port pk => Sys2Proof.Machine.execPacketForward port pk s
  | .outboundPacketSend agent n => Sys2Proof.Machine.execOutboundPacketSend agent n s
  | .responseTimeout tag => Sys2Proof.Machine.execResponseTimeout tag s
  | .tdbRelease group => Sys2Proof.Machine.execTdbRelease group s
  | .becomeHeadwater => Sys2Proof.Machine.execBecomeHeadwater s
  | .beacon => Sys2Proof.Machine.execBeacon s
  | .headwaterLost => Sys2Proof.Machine.execHeadwaterLost s
  | .mgmtRetry tag => Sys2Proof.Machine.execMgmtRetry tag s
  | .dreqSend port => Sys2Proof.Machine.execDreqSend port s
  | .syncSend => Sys2Proof.Machine.execSyncSend s
  | .tmlost => Sys2Proof.Machine.execTmlost s
  | .drainWrite rq value => Sys2Proof.Machine.execDrainWrite rq value s
  | .rejoin rq => Sys2Proof.Machine.execRejoin rq s
  | .drained => Sys2Proof.Machine.execDrained s
  | .timedSendGo slot => Sys2Proof.Machine.execTimedSendGo slot s
  | .timedControlWrite rq core ctl value => Sys2Proof.Machine.execTimedControlWrite rq core ctl value s
  | .reserveCodeword group uid request => Sys2Proof.Machine.execReserveCodeword group uid request s
  | .spareRequestTimeout group => Sys2Proof.Machine.execSpareRequestTimeout group s
  | .spareGo group => Sys2Proof.Machine.execSpareGo group s
  | .laneFault lane => Sys2Proof.Machine.execLaneFault lane s
  | .laneTrainingDone lane ctle taps rx => Sys2Proof.Machine.execLaneTrainingDone lane ctle taps rx s
  | .savedTrainingTimeout lane => Sys2Proof.Machine.execSavedTrainingTimeout lane s
  | .nearEndLoopback lane => Sys2Proof.Machine.execNearEndLoopback lane s
  | .farEndLoopback lane => Sys2Proof.Machine.execFarEndLoopback lane s
  | .prbsTest lane => Sys2Proof.Machine.execPrbsTest lane s
  | .laneTestEnd lane errors => Sys2Proof.Machine.execLaneTestEnd lane errors s
  | .frameReceive port frame half => Sys2Proof.Machine.execFrameReceive port frame half s
  | .frameTransmit port half => Sys2Proof.Machine.execFrameTransmit port half s
  | .ringItimeExpiry port ring => Sys2Proof.Machine.execRingItimeExpiry port ring s
  | .ringRestart rq port ring => Sys2Proof.Machine.execRingRestart rq port ring s
  | .bar0Request fn off size wr value => Sys2Proof.Machine.execBar0Request fn off size wr value s
  | .bar2Read fn off len => Sys2Proof.Machine.execBar2Read fn off len s
  | .bar2Write fn off data poisoned => Sys2Proof.Machine.execBar2Write fn off data poisoned s
  | .expansionRomRead off len => Sys2Proof.Machine.execExpansionRomRead off len s
  | .configWrite fn off size value => Sys2Proof.Machine.execConfigWrite fn off size value s
  | .busMasterDisable fn => Sys2Proof.Machine.execBusMasterDisable fn s
  | .flr fn => Sys2Proof.Machine.execFlr fn s
  | .flrComplete fn => Sys2Proof.Machine.execFlrComplete fn s
  | .vfEnableClear => Sys2Proof.Machine.execVfEnableClear s
  | .hdb fn value => Sys2Proof.Machine.execHdb fn value s
  | .sqtdb fn q value => Sys2Proof.Machine.execSqtdb fn q value s
  | .cqhdb fn q value => Sys2Proof.Machine.execCqhdb fn q value s
  | .qctlWrite fn q value => Sys2Proof.Machine.execQctlWrite fn q value s
  | .enable => Sys2Proof.Machine.execEnable s
  | .disable => Sys2Proof.Machine.execDisable s
  | .setlimit => Sys2Proof.Machine.execSetlimit s
  | .jobRingHead => Sys2Proof.Machine.execJobRingHead s
  | .completionRingTail => Sys2Proof.Machine.execCompletionRingTail s
  | .outboundAccess => Sys2Proof.Machine.execOutboundAccess s
  | .pcieCompletion tag status poisoned data => Sys2Proof.Machine.execPcieCompletion tag status poisoned data s
  | .completionTimeout tag => Sys2Proof.Machine.execCompletionTimeout tag s
  | .cpltimeoutWrite rq fn value => Sys2Proof.Machine.execCpltimeoutWrite rq fn value s
  | .dlctlSelWrite v value => Sys2Proof.Machine.execDlctlSelWrite v value s
  | .dmaTailWrite rq c value => Sys2Proof.Machine.execDmaTailWrite rq c value s
  | .dmaDescriptorComplete c => Sys2Proof.Machine.execDmaDescriptorComplete c s
  | .dmaRestart rq c => Sys2Proof.Machine.execDmaRestart rq c s
  | .program => Sys2Proof.Machine.execProgram s
  | .revoke => Sys2Proof.Machine.execRevoke s
  | .challenge => Sys2Proof.Machine.execChallenge s
  | .submit => Sys2Proof.Machine.execSubmit s
  | .relock => Sys2Proof.Machine.execRelock s
  | .dbgenLowWrite rq pond value => Sys2Proof.Machine.execDbgenLowWrite rq pond value s
  | .ksbindWrite rq n value => Sys2Proof.Machine.execKsbindWrite rq n value s
  | .freqreqWrite rq cluster value => Sys2Proof.Machine.execFreqreqWrite rq cluster value s
  | .capWrite rq value => Sys2Proof.Machine.execCapWrite rq value s
  | .clrfail => Sys2Proof.Machine.execClrfail s
  | .gpInputChange n level held => Sys2Proof.Machine.execGpInputChange n level held s
  | .pinStuckTimeout n => Sys2Proof.Machine.execPinStuckTimeout n s
  | .outset rq j bits => Sys2Proof.Machine.execOutset rq j bits s
  | .outclr rq j bits => Sys2Proof.Machine.execOutclr rq j bits s
  | .digestSnapshot => Sys2Proof.Machine.execDigestSnapshot s
  | .digestPiece n => Sys2Proof.Machine.execDigestPiece n s
  | .smbusPwrcyc key => Sys2Proof.Machine.execSmbusPwrcyc key s
  | .smbusClrfail key => Sys2Proof.Machine.execSmbusClrfail key s
  | .smbusDevreset key => Sys2Proof.Machine.execSmbusDevreset key s
  | .smbusTimeout => Sys2Proof.Machine.execSmbusTimeout s
  | .bypass => Sys2Proof.Machine.execBypass s
  | .idcode => Sys2Proof.Machine.execIdcode s
  | .samplePreload levels => Sys2Proof.Machine.execSamplePreload levels s
  | .extest => Sys2Proof.Machine.execExtest s
  | .clamp => Sys2Proof.Machine.execClamp s
  | .highz => Sys2Proof.Machine.execHighz s
  | .debug => Sys2Proof.Machine.execDebug s
  | .registerWrite rq off size value => Sys2Proof.Machine.execRegisterWrite rq off size value s
  | .atbTick => Sys2Proof.Machine.execAtbTick s
  | .ethernetLinkDown port => Sys2Proof.Machine.execEthernetLinkDown port s
  | .pcieLinkDown => Sys2Proof.Machine.execPcieLinkDown s
  | .pcieLinkUp speed width => Sys2Proof.Machine.execPcieLinkUp speed width s
  | .avsAlert quad => Sys2Proof.Machine.execAvsAlert quad s
  | .watchEntryTimeout => Sys2Proof.Machine.execWatchEntryTimeout s
  | .squashedTagRelease tag => Sys2Proof.Machine.execSquashedTagRelease tag s
  | .digestSnapshotExpiry => Sys2Proof.Machine.execDigestSnapshotExpiry s

end Sys2Proof.Machine
end

