-- ==== Sys2Proof/Safety.lean ====
section
/-! DEFINITION. What the statements say of a state, in terms of the block's own state: sound states, cores that are ready to run
an instruction, and how an instruction completes. -/

namespace Sys2Proof.Machine

/-- A state is sound when its memory has its canonical form and the fuses are the four that the part has (R438). -/
def State.Sound (s : State) : Prop := s.mem.wf = true ∧ s.fuses.keys.length = 4 ∧ s.fuses.revoked.length = 4

/-- Fuses never return to blank (R439): a programmed key stays as it is, and a revocation stays. -/
def Fuses.Grow (a b : Fuses) : Prop :=
  (∀ (k : Nat) (key : Nat × Nat), a.keys[k]? = some (some key) → b.keys[k]? = some (some key)) ∧
  (∀ k : Nat, a.revoked[k]? = some true → b.revoked[k]? = some true)

/-- A run is safe where every command of its queue is well formed. -/
def State.Fed (s : State) : Prop := ∀ c ∈ s.pending, c.wf = true

/-- The byte that physical memory holds at an address. -/
def State.byte (s : State) (a : Nat) : Byte := Tab.get memDefault s.mem.img a

/-- No coherence transaction is in progress or waits on any line (R245). -/
def State.Quiet (s : State) : Prop := ∀ e ∈ s.mem.dir, e.2.busy = none ∧ e.2.waitq = []

/-- PC of the core that runs an instruction. -/
def State.pc (s : State) (h : Sys2Proof.Hd) : Word := (s.core h.core).bank.pc

/-- The offset at which the instruction in progress began: that of the PFX before it, where there is one (R131). -/
def State.start (s : State) (h : Sys2Proof.Hd) : Word := if (s.core h.core).pfx.isSome then s.pc h - 4 else s.pc h

/-- No coherence transaction is in progress or waits, on any line or at the input of any slice (R245, R247). -/
def State.Calm (s : State) : Prop := s.Quiet ∧ s.mem.inq = []

/-- No copy of a line is poisoned: not DRAM's, not the LLC's, not one in a private cache or on its way out of one (R255). -/
structure MemSt.Unpoisoned (m : MemSt) (line : Nat) : Prop where
  dram : ∀ e ∈ m.poison, e.1 = line → e.2 = false
  llc  : ∀ e ∈ m.dir, e.1 = line → e.2.llcp = false
  kept : ∀ e ∈ m.pois, e.1 % 2 ^ 46 = line → e.2 = false
  left : ∀ w ∈ m.wb, w.line = line → w.pois = false

/-- The DRAM of an access admits it and is on: the address lies in DRAM's range (R28), no part of it is refused (R295, R427), its domain is no
lost held one (R443), and the uncore of its home slice and its DRAM group are on (R449, R455). -/
structure State.Open (s : State) (rq : Req) (pa n : Nat) : Prop where
  dram  : prange pa = .dram
  dramOk : s.dev.dramAdmit rq pa n = true
  held  : s.dev.domLost (s.dev.targetDom pa) rq = false
  home  : s.dev.domState (5 + quadOf (s.dev.home pa)) = 0
  group : s.dev.domState (s.dev.targetDom pa) = 0

/-- The same for an access of a core in its present world within one line, of which no copy is poisoned. -/
def State.Reaches (s : State) (k pa n : Nat) : Prop :=
  s.Open (s.dev.coreReq k (s.core k).secure) pa n ∧ s.mem.Unpoisoned (pa / 64)

/-- The parcels of an instruction at an offset pass the checks of R99, R100, R153 and R154 and lie in DRAM that answers; the second parcel
of one that crosses a page is translated by itself. A service core's lie in its boot ROM. -/
def State.Fetchable (s : State) (k : Nat) (pc : Word) (len : Nat) : Prop :=
  ∃ lin p1 a1 p2, (s.core k).segCheck 0 pc len .fetch = .ok lin ∧ (s.core k).xlate 0 len .fetch false 0 lin = .ok (p1, a1) ∧
    (if len = 4 ∧ lin % 4096 = 4094 then ∃ a2, (s.core k).xlate 0 len .fetch false 1 ((lin + 2) % 2 ^ 64) = .ok (p2, a2) else p2 = p1 + 2) ∧
    (isSvc k = true ∨ (s.Reaches k p1 2 ∧ (len = 4 → s.Reaches k p2 2)))

/-- An operand can be accessed: its checks pass in the order of R119 (segment, alignment, translation, page rights), no watchpoint covers
it (R433), and every piece of it lies in DRAM that answers (R225). -/
def State.Operand (s : State) (k seg : Nat) (off : Word) (n : Nat) (kind : AKind) (al : Option Nat) (atomic : Bool) : Prop :=
  ∃ lin ps, (s.core k).resolve seg off n kind al atomic = .ok (lin, ps) ∧ s.watch k lin n kind = false ∧ ∀ p ∈ ps, s.Reaches k p.pa p.len

/-- A load, a store and a read-modify-write of `n` bytes through a segment. -/
def State.CanLoad (s : State) (k seg : Nat) (off : Word) (n : Nat) : Prop := s.Operand k seg off n .read none false
def State.CanStore (s : State) (k seg : Nat) (off : Word) (n : Nat) : Prop := s.Operand k seg off n .write none false
def State.CanModify (s : State) (k seg : Nat) (off : Word) (n : Nat) (al : Option Nat) (atomic : Bool) : Prop :=
  s.Operand k seg off n .rmw al atomic

/-- A save area can be accessed in a world: it lies in DRAM that admits the core, and none of its lines is poisoned (R257). -/
def State.Area (s : State) (k : Nat) (secure : Bool) (area : Nat) : Prop :=
  prange area = .dram ∧ s.dev.dramAdmit (s.dev.coreReq k secure) area 192 = true ∧ ∀ l ∈ linesOf area 192, s.mem.Unpoisoned l

/-- Every store that has completed is visible: none waits in a store buffer, so every core sees the bytes of memory (R208). -/
def State.Drained (s : State) : Prop := ∀ e ∈ s.cores, e.2.sbuf = []

/-- A core's register files have their sizes: four levels of loop registers in each bank (R106), eight stream lanes (R142), eight segments
in each world (R181). -/
structure Core.Shaped (c : Core) : Prop where
  b0 : c.b0.ls.length = 4 ∧ c.b0.le.length = 4 ∧ c.b0.lc.length = 4
  b1 : c.b1.ls.length = 4 ∧ c.b1.le.length = 4 ∧ c.b1.lc.length = 4
  q  : c.q.length = 8
  sg : c.nrm.segs.length = 8 ∧ c.sec.segs.length = 8
  op : ∀ o ∈ c.lops, (∀ q, o.q = some q → q.length = 8) ∧ (∀ l, o.loops = some l → l.1.length = 4)

/-- The entries of a core's L1 TLBs stand in its L2 TLB too, and no two of these match one address: what every access leaves, so that a second
access of one instruction finds what the first one found, whatever its refill has replaced (R184 to R186). -/
structure Core.TlbCopied (c : Core) : Prop where
  l1   : ∀ e ∈ c.itlb ++ c.dtlb, e ∈ c.tlb
  once : ∀ lin, ∀ e ∈ c.tlb, ∀ f ∈ c.tlb, e.hit c.secure (fld c.cw.asid 15 0) lin = true → f.hit c.secure (fld c.cw.asid 15 0) lin = true → e = f

/-- A core is at an instruction that it can fetch: it runs and no event of its own is noted, its domain is not lost to its pond (R443), no
breakpoint matches (R433), no PFX stands before the instruction unless it takes one (`abs`, R130), its parcels are allocated, its width can
carry its condition (R98), and nothing keeps its fetch. -/
structure State.Begins (s : State) (h : Sys2Proof.Hd) (abs : Bool) : Prop where
  runs  : s.runs h.core = true
  lost  : (!(isSvc h.core) && s.dev.domLost (clusterDom (h.core / 8)) (s.dev.coreReq h.core (s.core h.core).secure)) = false
  brk   : s.breakAt h.core (s.pc h) = false
  pfx   : (s.core h.core).pfx = none ∨ abs = true
  watch : (s.core h.core).wpHit = none
  calm  : s.Calm
  code  : s.Fetchable h.core (s.pc h) h.len
  spelt : h.spelt = true
  width : condLegal h = true

/-- A core executes the instruction it is at: no long operation is outstanding (R165), and the condition holds (R98). -/
structure State.Executes (s : State) (h : Sys2Proof.Hd) (abs : Bool) : Prop extends State.Begins s h abs where
  lops  : (s.core h.core).lops = []
  cond  : condHolds h.cond (s.core h.core).bank.fl = true

/-- The fetch of the instruction in progress leaves `s1` (lines in L2 and L1I, an entry in the L1 instruction TLB). -/
def State.Fetches (s : State) (h : Sys2Proof.Hd) (s1 : State) : Prop := s.fetch h.core (s.pc h) h.len = .ok () s1

/-- The state in which an instruction that was fetched in `s1` leaves the device once its effect has made `u`: PC moves on or
jumps, the loops that end there close, and a single step or a debugger's step is noted. -/
def State.retired (s s1 : State) (h : Sys2Proof.Hd) (u : State) (out : Out) : State :=
  u.finishInsn h.core (s.start h) h.len out (bit (s1.core h.core).bank.ms 7)

/-- The same for an instruction whose effect is a change of the running bank. -/
def State.bankDone (s s1 : State) (h : Sys2Proof.Hd) (f : Bank → Bank) : State :=
  s.retired s1 h (s1.modBank h.core f) .seq

/-- The state in which the exception of an instruction's own effect is taken: what it has put into the store buffer itself is gone (R230). -/
def State.undone (s : State) (k : Nat) : State := s.unstore k (s.core k).sseq

/-- A packet arrives whole on a port of the fabric whose link carries it (R328, R346). -/
structure State.Arrives (s : State) (p : Nat) (pk : Pkt) : Prop where
  port : s.dev.weirPort p = true
  head : pk.hcrc = pk.hcrcOf
  up   : s.dev.linkState p = 4
  body : pk.crc = pk.crcOf
  size : pktLenOk pk = true

end Sys2Proof.Machine
end

