-- ==== Sys2Proof/Certificates/Slice0/Obligations.lean ====
section
/-! DEFINITION. The statements for the provers. -/

open Sys2Proof Sys2Proof.Machine

/-- A long operation is handed off: the instruction completes with it (R163). -/
def HandsOff (s0 s s1 s2 : State) (h : Hd) (g : State → State) (o : LongOp) (c : Instr) : Prop :=
  ∃ u, s2.handOff h.core o = .ok .seq u ∧ exec c s0 = .next (s.retired s1 h (g u) .seq).settle

/-- A step of a state whose queue has a command at its front is the effect of that command on the state with the rest of the
queue. With no command in the queue a step leaves the state as it is. The model's own choice (log entry 23): the table has no
row for a tick. (R525.) -/
def Obligations.StepRunsFront : Prop :=
  (
  ∀ (c : Instr) (rest : List Instr) (s : State), step { s with pending := c :: rest } = exec c { s with pending := rest }) ∧
  (
  ∀ s : State, s.pending = [] → step s = .next s)

/-- On a core that executes it (it runs, its fetch passes its checks, the condition holds, no long operation is outstanding),
LDI, ADDI, CMPI, ANDI, LDXI, ADDXI, LDYI, ADDYI and ADDSP, in their 16-bit and 32-bit forms, complete: A, X, Y or SP takes the
sign-extended immediate, the sum or the conjunction, and the flags of the row are those of the result; nothing else of the
bank changes but PC and the loop state. On a core that executes it (it runs, its fetch passes its checks, the condition holds,
no long operation is outstanding), LDIU, SHLDI, SUBI, ORI, XORI, TSTI, MULI, ADCI, SBCI, CMPXI, CMPYI, SHLDX, SHLDY and
ADDSPI, which exist in 32 bits only, complete with the result and the flags of their rows, and change nothing else of the bank
but PC and the loop state. (R137, R139, R133.) -/
def Obligations.ImmediateInstructionsComplete : Prop :=
  (
  ∀ (s0 s : State) (h : Hd), s = s0.shed h → s.Executes h false →
    ∃ s1, s.Fetches h s1 ∧
    (∀ imm : BitVec 16, immLegal h imm = true → exec (.ldi h imm) s0 = .next (s.bankDone s1 h (fun b => { b with a := immS h imm }))) ∧
    (∀ imm : BitVec 16, immLegal h imm = true → exec (.addi h imm) s0 = .next (s.bankDone s1 h (fun b => { b with a := (addFl b.a (immS h imm) false b.fl).1, fl := (addFl b.a (immS h imm) false b.fl).2 }))) ∧
    (∀ imm : BitVec 16, immLegal h imm = true → exec (.cmpi h imm) s0 = .next (s.bankDone s1 h (fun b => { b with fl := (subFl b.a (immS h imm) false b.fl).2 }))) ∧
    (∀ imm : BitVec 16, immLegal h imm = true → exec (.andi h imm) s0 = .next (s.bankDone s1 h (fun b => { b with a := b.a &&& immS h imm, fl := setZN b.fl (b.a &&& immS h imm) }))) ∧
    (∀ imm : BitVec 16, immLegal h imm = true → exec (.ldxi h imm) s0 = .next (s.bankDone s1 h (fun b => { b with x := immS h imm }))) ∧
    (∀ imm : BitVec 16, immLegal h imm = true → exec (.addxi h imm) s0 = .next (s.bankDone s1 h (fun b => { b with x := b.x + immS h imm }))) ∧
    (∀ imm : BitVec 16, immLegal h imm = true → exec (.ldyi h imm) s0 = .next (s.bankDone s1 h (fun b => { b with y := immS h imm }))) ∧
    (∀ imm : BitVec 16, immLegal h imm = true → exec (.addyi h imm) s0 = .next (s.bankDone s1 h (fun b => { b with y := b.y + immS h imm }))) ∧
    (∀ imm : BitVec 7, h.short = true → exec (.addsp h imm) s0 = .next (s.bankDone s1 h (fun b => { b with sp := b.sp + 8 * imm.signExtend 64 })))) ∧
  (
  ∀ (s0 s : State) (h : Hd), s = s0.shed h → s.Executes h false →
    ∃ s1, s.Fetches h s1 ∧
    (∀ imm : BitVec 16, h.short = false → exec (.ldiu h imm) s0 = .next (s.bankDone s1 h (fun b => { b with a := imm.setWidth 64 }))) ∧
    (∀ imm : BitVec 16, h.short = false → exec (.shldi h imm) s0 = .next (s.bankDone s1 h (fun b => { b with a := b.a <<< 16 ||| imm.setWidth 64 }))) ∧
    (∀ imm : BitVec 16, h.short = false → exec (.subi h imm) s0 = .next (s.bankDone s1 h (fun b => { b with a := (subFl b.a (immS h imm) false b.fl).1, fl := (subFl b.a (immS h imm) false b.fl).2 }))) ∧
    (∀ imm : BitVec 16, h.short = false → exec (.ori h imm) s0 = .next (s.bankDone s1 h (fun b => { b with a := b.a ||| imm.setWidth 64, fl := setZN b.fl (b.a ||| imm.setWidth 64) }))) ∧
    (∀ imm : BitVec 16, h.short = false → exec (.xori h imm) s0 = .next (s.bankDone s1 h (fun b => { b with a := b.a ^^^ imm.setWidth 64, fl := setZN b.fl (b.a ^^^ imm.setWidth 64) }))) ∧
    (∀ imm : BitVec 16, h.short = false → exec (.tsti h imm) s0 = .next (s.bankDone s1 h (fun b => { b with fl := setZN b.fl (b.a &&& imm.setWidth 64) }))) ∧
    (∀ imm : BitVec 16, h.short = false → exec (.muli h imm) s0 = .next (s.bankDone s1 h (fun b => { b with a := b.a * immS h imm, fl := setZN b.fl (b.a * immS h imm) }))) ∧
    (∀ imm : BitVec 16, h.short = false → exec (.adci h imm) s0 = .next (s.bankDone s1 h (fun b => { b with a := (addFl b.a (immS h imm) (bit b.fl flC) b.fl).1, fl := (addFl b.a (immS h imm) (bit b.fl flC) b.fl).2 }))) ∧
    (∀ imm : BitVec 16, h.short = false → exec (.sbci h imm) s0 = .next (s.bankDone s1 h (fun b => { b with a := (subFl b.a (immS h imm) (!(bit b.fl flC)) b.fl).1, fl := (subFl b.a (immS h imm) (!(bit b.fl flC)) b.fl).2 }))) ∧
    (∀ imm : BitVec 16, h.short = false → exec (.cmpxi h imm) s0 = .next (s.bankDone s1 h (fun b => { b with fl := (subFl b.x (immS h imm) false b.fl).2 }))) ∧
    (∀ imm : BitVec 16, h.short = false → exec (.cmpyi h imm) s0 = .next (s.bankDone s1 h (fun b => { b with fl := (subFl b.y (immS h imm) false b.fl).2 }))) ∧
    (∀ imm : BitVec 16, h.short = false → exec (.shldx h imm) s0 = .next (s.bankDone s1 h (fun b => { b with x := b.x <<< 16 ||| imm.setWidth 64 }))) ∧
    (∀ imm : BitVec 16, h.short = false → exec (.shldy h imm) s0 = .next (s.bankDone s1 h (fun b => { b with y := b.y <<< 16 ||| imm.setWidth 64 }))) ∧
    (∀ imm : BitVec 16, h.short = false → exec (.addspi h imm) s0 = .next (s.bankDone s1 h (fun b => { b with sp := b.sp + immS h imm }))))

/-- On a core that executes it (it runs, its fetch passes its checks, the condition holds, no long operation is outstanding),
the shifts and rotates of A by n, BTST, BSET, BCLR, BTGL and, on stepping B0, BFX and BFXS complete with the result and the
flags of their rows, for every bit number, amount or field that is allocated, and change nothing else of the bank but PC and
the loop state. (R137, R139, R133, R128.) -/
def Obligations.ShiftAndBitInstructionsComplete : Prop :=
  ∀ (s0 s : State) (h : Hd), s = s0.shed h → s.Executes h false →
    ∃ s1, s.Fetches h s1 ∧
    (∀ imm : BitVec 7, h.short = true → imm.toNat < 64 → exec (.shli h imm) s0 = .next (s.bankDone s1 h (fun b => { b with a := (shlFl b.a imm.toNat b.fl).1, fl := (shlFl b.a imm.toNat b.fl).2 }))) ∧
    (∀ imm : BitVec 7, h.short = true → imm.toNat < 64 → exec (.shri h imm) s0 = .next (s.bankDone s1 h (fun b => { b with a := (shrFl b.a imm.toNat b.fl).1, fl := (shrFl b.a imm.toNat b.fl).2 }))) ∧
    (∀ imm : BitVec 7, h.short = true → imm.toNat < 64 → exec (.sari h imm) s0 = .next (s.bankDone s1 h (fun b => { b with a := (sarFl b.a imm.toNat b.fl).1, fl := (sarFl b.a imm.toNat b.fl).2 }))) ∧
    (∀ imm : BitVec 7, h.short = true → imm.toNat < 64 → exec (.roli h imm) s0 = .next (s.bankDone s1 h (fun b => { b with a := b.a.rotateLeft imm.toNat, fl := setZN b.fl (b.a.rotateLeft imm.toNat) }))) ∧
    (∀ imm : BitVec 16, imm.toNat < 64 → exec (.btst h imm) s0 = .next (s.bankDone s1 h (fun b => { b with fl := setBit b.fl flT (b.a.getLsbD imm.toNat) }))) ∧
    (∀ imm : BitVec 16, imm.toNat < 64 → exec (.bset h imm) s0 = .next (s.bankDone s1 h (fun b => { b with a := setBit b.a imm.toNat true }))) ∧
    (∀ imm : BitVec 16, imm.toNat < 64 → exec (.bclr h imm) s0 = .next (s.bankDone s1 h (fun b => { b with a := setBit b.a imm.toNat false }))) ∧
    (∀ imm : BitVec 16, h.short = false → imm.toNat < 64 → exec (.shl h imm) s0 = .next (s.bankDone s1 h (fun b => { b with a := (shlFl b.a imm.toNat b.fl).1, fl := (shlFl b.a imm.toNat b.fl).2 }))) ∧
    (∀ imm : BitVec 16, h.short = false → imm.toNat < 64 → exec (.shr h imm) s0 = .next (s.bankDone s1 h (fun b => { b with a := (shrFl b.a imm.toNat b.fl).1, fl := (shrFl b.a imm.toNat b.fl).2 }))) ∧
    (∀ imm : BitVec 16, h.short = false → imm.toNat < 64 → exec (.sar h imm) s0 = .next (s.bankDone s1 h (fun b => { b with a := (sarFl b.a imm.toNat b.fl).1, fl := (sarFl b.a imm.toNat b.fl).2 }))) ∧
    (∀ imm : BitVec 16, h.short = false → imm.toNat < 64 → exec (.rol h imm) s0 = .next (s.bankDone s1 h (fun b => { b with a := b.a.rotateLeft imm.toNat, fl := setZN b.fl (b.a.rotateLeft imm.toNat) }))) ∧
    (∀ imm : BitVec 16, h.short = false → imm.toNat < 64 → exec (.btgl h imm) s0 = .next (s.bankDone s1 h (fun b => { b with a := setBit b.a imm.toNat (!(b.a.getLsbD imm.toNat)) }))) ∧
    (∀ imm : BitVec 16, h.short = false → s.dev.part.b0 = true → imm.toNat < 4096 → imm.toNat % 64 + imm.toNat / 64 + 1 ≤ 64 → exec (.bfx h imm) s0 = .next (s.bankDone s1 h (fun b => { b with a := zextW (b.a >>> (imm.toNat % 64)) (imm.toNat / 64 + 1), fl := setBit b.fl flZ (decide (zextW (b.a >>> (imm.toNat % 64)) (imm.toNat / 64 + 1) = 0)) }))) ∧
    (∀ imm : BitVec 16, h.short = false → s.dev.part.b0 = true → imm.toNat < 4096 → imm.toNat % 64 + imm.toNat / 64 + 1 ≤ 64 → exec (.bfxs h imm) s0 = .next (s.bankDone s1 h (fun b => { b with a := sextW (b.a >>> (imm.toNat % 64)) (imm.toNat / 64 + 1), fl := setZN b.fl (sextW (b.a >>> (imm.toNat % 64)) (imm.toNat / 64 + 1)) })))

/-- On a core that executes it (it runs, its fetch passes its checks, the condition holds, no long operation is outstanding),
NOP, MV in its eight forms, XCH, NEG, NOT, FNEG, FABS, CLZ, CTZ, POPC, BSWAP, CLT, SETT, CLC, SETC, FLCLR and LOOPX complete
with the result and the flags of their rows and change nothing else of the bank but PC and the loop state. A write of X, Y or
SP also ends the reads that came early for younger instructions; a binary32 result has bits 63:32 zero. (R138, R147, R134,
R88, R133, R106.) -/
def Obligations.RegisterInstructionsComplete : Prop :=
  ∀ (s0 s : State) (h : Hd), s = s0.shed h → s.Executes h false →
    ∃ s1, s.Fetches h s1 ∧
    (h.short = true → exec (.not h) s0 = .next (s.bankDone s1 h (fun b => { b with a := ~~~b.a, fl := setZN b.fl (~~~b.a) }))) ∧
    (h.short = true → exec (.nop h) s0 = .next (s.bankDone s1 h (fun b => b))) ∧
    (h.short = true → exec (.neg h) s0 = .next (s.bankDone s1 h (fun b => { b with a := (subFl 0 b.a false b.fl).1, fl := (subFl 0 b.a false b.fl).2 }))) ∧
    (h.short = true → exec (.loopx h) s0 = .next (s.bankDone s1 h (fun b => b.setLdepth (b.ldepth - 1)))) ∧
    (exec (.fnegD h 0) s0 = .next (s.bankDone s1 h (fun b => { b with a := b.a ^^^ 0x8000000000000000#64 }))) ∧
    (exec (.fabsD h 0) s0 = .next (s.bankDone s1 h (fun b => { b with a := b.a &&& 0x7FFFFFFFFFFFFFFF#64 }))) ∧
    (h.short = false → exec (.fnegS h 0) s0 = .next (s.bankDone s1 h (fun b => { b with a := (b.a ^^^ 0x80000000#64) &&& 0xFFFFFFFF#64 }))) ∧
    (h.short = false → exec (.fabsS h 0) s0 = .next (s.bankDone s1 h (fun b => { b with a := b.a &&& 0x7FFFFFFF#64 }))) ∧
    (h.short = false → exec (.clz h 0) s0 = .next (s.bankDone s1 h (fun b => { b with a := word (clzW b.a), fl := setBit b.fl flZ (decide (clzW b.a = 0)) }))) ∧
    (h.short = false → exec (.ctz h 0) s0 = .next (s.bankDone s1 h (fun b => { b with a := word (ctzW b.a), fl := setBit b.fl flZ (decide (ctzW b.a = 0)) }))) ∧
    (h.short = false → exec (.popc h 0) s0 = .next (s.bankDone s1 h (fun b => { b with a := word (popW b.a), fl := setBit b.fl flZ (decide (popW b.a = 0)) }))) ∧
    (h.short = false → exec (.bswap h 0) s0 = .next (s.bankDone s1 h (fun b => { b with a := word (ofBytesBE (bytesLE 8 b.a.toNat)) }))) ∧
    (h.short = false → exec (.clt h 0) s0 = .next (s.bankDone s1 h (fun b => { b with fl := setBit b.fl flT false }))) ∧
    (h.short = false → exec (.sett h 0) s0 = .next (s.bankDone s1 h (fun b => { b with fl := setBit b.fl flT true }))) ∧
    (h.short = false → exec (.clc h 0) s0 = .next (s.bankDone s1 h (fun b => { b with fl := setBit b.fl flC false }))) ∧
    (h.short = false → exec (.setc h 0) s0 = .next (s.bankDone s1 h (fun b => { b with fl := setBit b.fl flC true }))) ∧
    (h.short = false → exec (.flclr h 0) s0 = .next (s.bankDone s1 h (fun b => { b with fl := setFld b.fl 12 8 0 }))) ∧
    (h.short = true → exec (.xch h) s0 = .next (s.retired s1 h ((s1.modBank h.core (fun b => { b with x := b.y, y := b.x })).indexLoaded h.core) .seq)) ∧
    (h.short = true → ∀ k : BitVec 4, 1 ≤ k.toNat → k.toNat ≤ 8 →
      exec (.mv h k) s0 = .next (s.retired s1 h
        (match k.toNat with
         | 1 => (s1.modBank h.core (fun b => { b with x := b.a })).indexLoaded h.core
         | 2 => s1.modBank h.core (fun b => { b with a := b.x })
         | 3 => (s1.modBank h.core (fun b => { b with y := b.a })).indexLoaded h.core
         | 4 => s1.modBank h.core (fun b => { b with a := b.y })
         | 5 => (s1.modBank h.core (fun b => { b with y := b.x })).indexLoaded h.core
         | 6 => (s1.modBank h.core (fun b => { b with x := b.y })).indexLoaded h.core
         | 7 => s1.modBank h.core (fun b => { b with a := b.sp })
         | _ => (s1.modBank h.core (fun b => { b with sp := b.a })).indexLoaded h.core) .seq))

/-- A sum with a carry in has Z = 1 for a zero result, N its bit 63, C the carry out of bit 63, V = 1 on signed overflow; a
difference with a borrow in has C = 1 when no borrow occurs and V = 1 on signed overflow; every other bit of FL is unchanged.
A shift left, a logical and an arithmetic shift right by n below 64 give the shifted number, Z and N of it, C the last bit
shifted out, which an amount of zero leaves unchanged, and leave V and every higher bit of FL unchanged; Z and N of a logical
result leave every other bit of FL unchanged; the immediate of the 16-bit and 32-bit forms is sign-extended. (R133, R137.) -/
def Obligations.ResultsAndFlagsOfArithmetic : Prop :=
  (
  ∀ (a b fl : Word) (c : Bool),
    ((addFl a b c fl).1 = a + b + (if c then 1 else 0) ∧
     bit (addFl a b c fl).2 flZ = decide ((addFl a b c fl).1 = 0) ∧ bit (addFl a b c fl).2 flN = (addFl a b c fl).1.getLsbD 63 ∧
     bit (addFl a b c fl).2 flC = decide (2 ^ 64 ≤ a.toNat + b.toNat + c.toNat) ∧
     bit (addFl a b c fl).2 flV = !(decide (-(2 ^ 63 : Int) ≤ a.toInt + b.toInt + c.toNat) && decide (a.toInt + b.toInt + c.toNat < (2 ^ 63 : Int))) ∧
     ∀ i, 4 ≤ i → bit (addFl a b c fl).2 i = bit fl i) ∧
    ((subFl a b c fl).1 = a - b - (if c then 1 else 0) ∧
     bit (subFl a b c fl).2 flZ = decide ((subFl a b c fl).1 = 0) ∧ bit (subFl a b c fl).2 flN = (subFl a b c fl).1.getLsbD 63 ∧
     bit (subFl a b c fl).2 flC = decide (b.toNat + c.toNat ≤ a.toNat) ∧
     bit (subFl a b c fl).2 flV = !(decide (-(2 ^ 63 : Int) ≤ a.toInt - b.toInt - c.toNat) && decide (a.toInt - b.toInt - c.toNat < (2 ^ 63 : Int))) ∧
     ∀ i, 4 ≤ i → bit (subFl a b c fl).2 i = bit fl i)) ∧
  (
  ∀ (a fl : Word) (n : Nat), n < 64 →
    ((shlFl a n fl).1.toNat = a.toNat * 2 ^ n % 2 ^ 64 ∧ (shrFl a n fl).1.toNat = a.toNat / 2 ^ n ∧
     (sarFl a n fl).1.toInt = a.toInt / (2 ^ n : Int)) ∧
    (∀ r : Word × Word, r = shlFl a n fl ∨ r = shrFl a n fl ∨ r = sarFl a n fl →
      bit r.2 flZ = decide (r.1 = 0) ∧ bit r.2 flN = r.1.getLsbD 63 ∧ (n = 0 → bit r.2 flC = bit fl flC) ∧
      ∀ i, 3 ≤ i → bit r.2 i = bit fl i) ∧
    (0 < n → bit (shlFl a n fl).2 flC = a.getLsbD (64 - n) ∧ bit (shrFl a n fl).2 flC = a.getLsbD (n - 1) ∧
      bit (sarFl a n fl).2 flC = a.getLsbD (n - 1)) ∧
    (bit (setZN fl a) flZ = decide (a = 0) ∧ bit (setZN fl a) flN = a.getLsbD 63 ∧ ∀ i, 2 ≤ i → bit (setZN fl a) i = bit fl i) ∧
    (∀ (h : Hd) (imm : BitVec 16), immLegal h imm = true →
      immS h imm = if h.short then (imm.setWidth 7).signExtend 64 else imm.signExtend 64))

/-- Each addressing mode forms the offset of its row, modulo 2^64, with the default segment of its row unless an override
names another, and the register update of its row; mode 8 has an absolute offset and always names its segment. (R102.) -/
def Obligations.OperandAddresses : Prop :=
  ∀ (b : Bank) (d abs : Word) (ov : Bool) (seg n : Nat),
    b.ea 0 d abs ov seg n = ⟨if ov then seg else 1, b.x + d, none, none⟩ ∧
    b.ea 1 d abs ov seg n = ⟨if ov then seg else 1, b.y + d, none, none⟩ ∧
    b.ea 2 d abs ov seg n = ⟨if ov then seg else 2, b.sp + d, none, none⟩ ∧
    b.ea 3 d abs ov seg n = ⟨if ov then seg else 1, b.x + b.y, none, none⟩ ∧
    b.ea 4 d abs ov seg n = ⟨if ov then seg else 1, b.x, some (b.x + word n), none⟩ ∧
    b.ea 5 d abs ov seg n = ⟨if ov then seg else 1, b.x - word n, some (b.x - word n), none⟩ ∧
    b.ea 6 d abs ov seg n = ⟨if ov then seg else 1, b.y, none, some (b.y + word n)⟩ ∧
    b.ea 7 d abs ov seg n = ⟨if ov then seg else 1, b.y - word n, none, some (b.y - word n)⟩ ∧
    b.ea 8 d abs ov seg n = ⟨seg, abs, none, none⟩

/-- On a core that executes it, with an operand at the address of the mode that can be loaded (its checks pass and its DRAM
answers), LD, LDS, ADD, ADC, SUB, SBC, AND, OR, XOR, CMP, TST, LDX, LDY, MUL, MULH and MULHU, in each of their forms,
complete: the operand is read, and the result of the row replaces its register and the flags, with the index update of the
mode, which the result replaces when both name one register. (R136, R104, R133, R130, R132, R98, R119.) -/
def Obligations.MemoryReadInstructionsComplete : Prop :=
  ∀ (s0 s : State) (h : Hd) (m : MemOp), s = s0.shed h → s.Executes h (!h.short && decide (m.mode = 8#4)) → memLegal m h.short = true →
    let e := (s.core h.core).memEa h m
    let n := szBytes m.size
    s.CanLoad h.core e.seg e.off n →
    ∃ s1 v s2, s.Fetches h s1 ∧ s1.load h.core e.seg e.off n true = .ok v s2 ∧
      (exec (.ld h m) s0 = .next (s.retired s1 h (s2.modBank h.core (fun b => { (b.upd e) with a := zextM v, fl := setZN b.fl (zextM v) })) .seq).settle) ∧
      (h.short = false → exec (.lds h m) s0 = .next (s.retired s1 h (s2.modBank h.core (fun b => { (b.upd e) with a := sextM v n, fl := setZN b.fl (sextM v n) })) .seq).settle) ∧
      (exec (.add h m) s0 = .next (s.retired s1 h (s2.modBank h.core (fun b => { (b.upd e) with a := (addFl b.a (sextM v n) false b.fl).1, fl := (addFl b.a (sextM v n) false b.fl).2 })) .seq).settle) ∧
      (h.short = false → exec (.adc h m) s0 = .next (s.retired s1 h (s2.modBank h.core (fun b => { (b.upd e) with a := (addFl b.a (sextM v n) (bit b.fl flC) b.fl).1, fl := (addFl b.a (sextM v n) (bit b.fl flC) b.fl).2 })) .seq).settle) ∧
      (exec (.sub h m) s0 = .next (s.retired s1 h (s2.modBank h.core (fun b => { (b.upd e) with a := (subFl b.a (sextM v n) false b.fl).1, fl := (subFl b.a (sextM v n) false b.fl).2 })) .seq).settle) ∧
      (h.short = false → exec (.sbc h m) s0 = .next (s.retired s1 h (s2.modBank h.core (fun b => { (b.upd e) with a := (subFl b.a (sextM v n) (!(bit b.fl flC)) b.fl).1, fl := (subFl b.a (sextM v n) (!(bit b.fl flC)) b.fl).2 })) .seq).settle) ∧
      (exec (.andM h m) s0 = .next (s.retired s1 h (s2.modBank h.core (fun b => { (b.upd e) with a := b.a &&& zextM v, fl := setZN b.fl (b.a &&& zextM v) })) .seq).settle) ∧
      (exec (.orM h m) s0 = .next (s.retired s1 h (s2.modBank h.core (fun b => { (b.upd e) with a := b.a ||| zextM v, fl := setZN b.fl (b.a ||| zextM v) })) .seq).settle) ∧
      (exec (.xor h m) s0 = .next (s.retired s1 h (s2.modBank h.core (fun b => { (b.upd e) with a := b.a ^^^ zextM v, fl := setZN b.fl (b.a ^^^ zextM v) })) .seq).settle) ∧
      (exec (.cmp h m) s0 = .next (s.retired s1 h (s2.modBank h.core (fun b => { (b.upd e) with fl := (subFl b.a (sextM v n) false b.fl).2 })) .seq).settle) ∧
      (h.short = false → exec (.tst h m) s0 = .next (s.retired s1 h (s2.modBank h.core (fun b => { (b.upd e) with fl := setZN b.fl (b.a &&& zextM v) })) .seq).settle) ∧
      (exec (.ldx h m) s0 = .next (s.retired s1 h ((s2.modBank h.core (fun b => { (b.upd e) with x := zextM v })).indexLoaded h.core) .seq).settle) ∧
      (exec (.ldy h m) s0 = .next (s.retired s1 h ((s2.modBank h.core (fun b => { (b.upd e) with y := zextM v })).indexLoaded h.core) .seq).settle) ∧
      (h.short = false → exec (.mul h m) s0 = .next (s.retired s1 h (s2.modBank h.core (fun b => { (b.upd e) with a := b.a * sextM v n, fl := setZN b.fl (b.a * sextM v n) })) .seq).settle) ∧
      (h.short = false → exec (.mulh h m) s0 = .next (s.retired s1 h (s2.modBank h.core (fun b => { (b.upd e) with a := BitVec.ofInt 64 (b.a.toInt * (sextM v n).toInt / 2 ^ 64), fl := setZN b.fl (BitVec.ofInt 64 (b.a.toInt * (sextM v n).toInt / 2 ^ 64)) })) .seq).settle) ∧
      (h.short = false → exec (.mulhu h m) s0 = .next (s.retired s1 h (s2.modBank h.core (fun b => { (b.upd e) with a := word (b.a.toNat * v / 2 ^ 64), fl := setZN b.fl (word (b.a.toNat * v / 2 ^ 64)) })) .seq).settle)

/-- On a core that executes it, with an operand at the address of the mode that can be stored to, ST, STX and STY store their
register, and with one that can be read and written INC and DEC write it back one higher or lower; they complete with the
index update of the mode and, for INC and DEC, with Z, N and V of the result of the operand's size; LEA writes the offset that
its mode forms to A. (R136, R104, R133, R130, R98, R119.) -/
def Obligations.MemoryWriteInstructionsComplete : Prop :=
  ∀ (s0 s : State) (h : Hd) (m : MemOp), s = s0.shed h → s.Executes h (!h.short && decide (m.mode = 8#4)) → memLegal m h.short = true →
    let e := (s.core h.core).memEa h m
    let n := szBytes m.size
    let b0 := (s.core h.core).bank
    (s.CanStore h.core e.seg e.off n → ∃ s1, s.Fetches h s1 ∧
      (∃ s2, s1.store h.core e.seg e.off n b0.a.toNat true = .ok () s2 ∧
        exec (.st h m) s0 = .next (s.retired s1 h (s2.modBank h.core (fun b => b.upd e)) .seq).settle) ∧
      (∃ s2, s1.store h.core e.seg e.off n b0.x.toNat true = .ok () s2 ∧
        exec (.stx h m) s0 = .next (s.retired s1 h (s2.modBank h.core (fun b => b.upd e)) .seq).settle) ∧
      (∃ s2, s1.store h.core e.seg e.off n b0.y.toNat true = .ok () s2 ∧
        exec (.sty h m) s0 = .next (s.retired s1 h (s2.modBank h.core (fun b => b.upd e)) .seq).settle)) ∧
    (h.short = false → s.CanModify h.core e.seg e.off n none false → ∃ s1, s.Fetches h s1 ∧
      (∃ r s2, s1.rmw h.core e.seg e.off n (fun v => (v + 1) % 2 ^ (8 * n)) = .ok r s2 ∧
        exec (.inc h m) s0 = .next (s.retired s1 h (s2.modBank h.core (fun b =>
          { (b.upd e) with fl := setZNVsz b.fl n r (decide (r = 2 ^ (8 * n - 1))) })) .seq).settle) ∧
      (∃ r s2, s1.rmw h.core e.seg e.off n (fun v => (v + 2 ^ (8 * n) - 1) % 2 ^ (8 * n)) = .ok r s2 ∧
        exec (.dec h m) s0 = .next (s.retired s1 h (s2.modBank h.core (fun b =>
          { (b.upd e) with fl := setZNVsz b.fl n r (decide (r = 2 ^ (8 * n - 1) - 1)) })) .seq).settle)) ∧
    (h.short = false → m.size = 3#2 → ¬ (4 ≤ m.mode.toNat ∧ m.mode.toNat ≤ 7) → ∃ s1, s.Fetches h s1 ∧
      exec (.lea h m) s0 = .next (s.bankDone s1 h (fun b => { b with a := e.off })))

/-- A piece of a store to DRAM that is normal write-back or write-through and that its home admits, its line not poisoned,
with fewer than 64 stores waiting, joins the tail of the core's store buffer and leaves every byte of memory, every other core
and every bank as it was; the buffered bytes are those that an overlay of the buffer on any bytes of memory gives its own
core. STORE_VISIBLE of a buffered store that no older buffered store of its core overlaps, on a line that is not poisoned,
performed with respect to every observer while no transaction is in progress, completes: every byte the store covers reads as
the store wrote it, and every other byte of memory reads as before. (R208, R227, R26, R209.) -/
def Obligations.StoresAreBufferedThenVisible : Prop :=
  (
  ∀ (s : State) (k : Nat) (p : Piece) (bs : List Byte) (ob : Bool), p.attr ≤ 1 → s.Reaches k p.pa p.len →
    ((s.core k).sbuf.filter (fun x => decide (x.lag = none))).length < 64 →
    ∃ s1 st, s.storePiece k p bs ob = .ok () s1 ∧ (s1.core k).sbuf = (s.core k).sbuf ++ [st] ∧ st.pa = p.pa ∧ st.bytes = bs ∧ st.lag = none ∧
      s1.mem = s.mem ∧ s1.dev = s.dev ∧ (s1.core k).bank = (s.core k).bank ∧ (∀ j, j ≠ k → s1.core j = s.core j) ∧
      (∀ old : List Byte, old.length = bs.length → overlay (s1.core k).sbuf p.pa old = bs)) ∧
  (
  ∀ (s : State) (core idx : Nat) (st : Store), (s.core core).sbuf[idx]? = some st → st.lag = none → 0 < st.bytes.length →
    st.pa / 64 = (st.pa + st.bytes.length - 1) / 64 → prange st.pa = .dram → s.mem.wf = true → s.Calm → s.mem.Unpoisoned (st.pa / 64) →
    (∀ o ∈ (s.core core).sbuf.take idx, o.lag = none → o.hits st.pa st.bytes.length = false) →
    ∃ u : State, exec (.storeVisible core idx []) s = .next u.settle ∧
      ∀ a, u.byte a = if st.pa ≤ a ∧ a < st.pa + st.bytes.length then st.bytes.getD (a - st.pa) 0 else s.byte a)

/-- A piece of a load from DRAM with a normal cacheable attribute that its home admits, its line not poisoned, while no
transaction is in progress and no store is visible to some observers only, returns the bytes of memory with the core's own
buffered stores over them, and leaves every byte of memory and every core's bank as it was. (R208, R210, R213.) -/
def Obligations.LoadsReadMemory : Prop :=
  ∀ (s : State) (k : Nat) (p : Piece) (ob : Bool), p.attr ≤ 1 → (s.core k).early = [] → s.Calm → s.Reaches k p.pa p.len →
    (∀ e ∈ s.cores, ∀ st ∈ e.2.sbuf, st.lag = none) →
    ∃ s1, s.loadPiece k p ob = .ok (overlay (s.core k).sbuf p.pa ((List.range p.len).map (fun i => s.byte (p.pa + i)))) s1 ∧
      (∀ a, s1.byte a = s.byte a) ∧ ∀ j, (s1.core j).bank = (s.core j).bank

/-- While no transaction is in progress, a fetch that is answered leaves the banks of every core, every byte of memory, the
fuses and the configuration as they were. (R99, R154, R246.) -/
def Obligations.FetchChangesNoValue : Prop :=
  ∀ (s s1 : State) (k len : Nat) (pc : Word), s.Calm → s.fetch k pc len = .ok () s1 →
    (∀ j, (s1.core j).bank = (s.core j).bank) ∧ (∀ a, s1.byte a = s.byte a) ∧ s1.fuses = s.fuses ∧ s1.dev.felt = s.dev.felt

/-- The completion of an instruction whose effect is a change of its core's running bank, on a running core that no debugger
steps, changes memory, the fuses, the rest of the device and every other core not at all; of its own core it keeps the other
bank and, of the running bank, every register that the effect gave but PC, FL.LDEPTH and the loop counts. (R106, R98, R108.)
-/
def Obligations.CompletionChangesOnlyLoopState : Prop :=
  ∀ (s s1 : State) (h : Hd) (f : Bank → Bank), (s1.core h.core).stepHalt = false → (s1.core h.core).run = .running →
    let t := s.bankDone s1 h f
    let b := f (s1.core h.core).bank
    let b' := (t.core h.core).bank
    t.mem = s1.mem ∧ t.fuses = s1.fuses ∧ t.dev = s1.dev ∧ (∀ j, j ≠ h.core → t.core j = s1.core j) ∧
    (t.core h.core).inB1 = (s1.core h.core).inB1 ∧
    ((s1.core h.core).inB1 = false → (t.core h.core).b1 = (s1.core h.core).b1) ∧ ((s1.core h.core).inB1 = true → (t.core h.core).b0 = (s1.core h.core).b0) ∧
    (t.core h.core).nrm = (s1.core h.core).nrm ∧ (t.core h.core).sec = (s1.core h.core).sec ∧ (t.core h.core).q = (s1.core h.core).q ∧
    b'.a = b.a ∧ b'.x = b.x ∧ b'.y = b.y ∧ b'.sp = b.sp ∧ b'.ms = b.ms ∧ b'.ls = b.ls ∧ b'.le = b.le ∧
    (∀ i, i < 24 ∨ 26 < i → bit b'.fl i = bit b.fl i)

/-- On a core that executes it, with an operand that can be loaded, DIV, DIVU, REM and REMU complete: with a divisor other
than zero they hand off their quotient or remainder with the flags of the row, -2^63 / -1 being -2^63 with V = 1, and apply
the index update of the mode; with a divisor of zero, in imprecise state, they hand off a failure with the division code,
which writes no result. (R136, R90, R163, R168, R98, R119.) -/
def Obligations.DivisionsAreHandedOff : Prop :=
  ∀ (s0 s : State) (h : Hd) (m : MemOp), s = s0.shed h → s.Executes h (!h.short && decide (m.mode = 8#4)) → memLegal m h.short = true →
    let e := (s.core h.core).memEa h m
    let n := szBytes m.size
    let a := (s.core h.core).bank.a
    let imprecise := bit (s.core h.core).lopstat 63 = false ∧ isSvc h.core = false
    h.short = false → s.CanLoad h.core e.seg e.off n →
    ∃ s1 v s2, s.Fetches h s1 ∧ s1.load h.core e.seg e.off n true = .ok v s2 ∧
      (∀ d : Word, d = sextM v n →
        (d ≠ 0 → ∃ o : LongOp, o.kind = 1 ∧ o.block = none ∧ o.fail = none ∧ o.sticky = 0 ∧ o.a = some (BitVec.ofInt 64 (Int.tdiv a.toInt d.toInt)) ∧
          o.flags = some (0xB, setBit (setZN 0 (BitVec.ofInt 64 (Int.tdiv a.toInt d.toInt))) flV (decide (a = 0x8000000000000000#64 ∧ d = 0xFFFFFFFFFFFFFFFF#64))) ∧ HandsOff s0 s s1 s2 h (fun u => u.modBank h.core (fun b => b.upd e)) o (.div h m)) ∧
        (d = 0 → imprecise → ∃ o : LongOp, o.fail = some (LopFail.arith 0x20) ∧ o.a = none ∧ o.flags = none ∧
          HandsOff s0 s s1 s2 h (fun u => u.modBank h.core (fun b => b.upd e)) o (.div h m))) ∧
      (∀ d : Word, d = zextM v →
        (d ≠ 0 → ∃ o : LongOp, o.kind = 1 ∧ o.block = none ∧ o.fail = none ∧ o.sticky = 0 ∧ o.a = some (word (a.toNat / d.toNat)) ∧
          o.flags = some (0x3, setZN 0 (word (a.toNat / d.toNat))) ∧ HandsOff s0 s s1 s2 h (fun u => u.modBank h.core (fun b => b.upd e)) o (.divu h m)) ∧
        (d = 0 → imprecise → ∃ o : LongOp, o.fail = some (LopFail.arith 0x20) ∧ o.a = none ∧ o.flags = none ∧
          HandsOff s0 s s1 s2 h (fun u => u.modBank h.core (fun b => b.upd e)) o (.divu h m))) ∧
      (∀ d : Word, d = sextM v n →
        (d ≠ 0 → ∃ o : LongOp, o.kind = 1 ∧ o.block = none ∧ o.fail = none ∧ o.sticky = 0 ∧ o.a = some (BitVec.ofInt 64 (Int.tmod a.toInt d.toInt)) ∧
          o.flags = some (0x3, setZN 0 (BitVec.ofInt 64 (Int.tmod a.toInt d.toInt))) ∧ HandsOff s0 s s1 s2 h (fun u => u.modBank h.core (fun b => b.upd e)) o (.rem h m)) ∧
        (d = 0 → imprecise → ∃ o : LongOp, o.fail = some (LopFail.arith 0x20) ∧ o.a = none ∧ o.flags = none ∧
          HandsOff s0 s s1 s2 h (fun u => u.modBank h.core (fun b => b.upd e)) o (.rem h m))) ∧
      (∀ d : Word, d = zextM v →
        (d ≠ 0 → ∃ o : LongOp, o.kind = 1 ∧ o.block = none ∧ o.fail = none ∧ o.sticky = 0 ∧ o.a = some (word (a.toNat % d.toNat)) ∧
          o.flags = some (0x3, setZN 0 (word (a.toNat % d.toNat))) ∧ HandsOff s0 s s1 s2 h (fun u => u.modBank h.core (fun b => b.upd e)) o (.remu h m)) ∧
        (d = 0 → imprecise → ∃ o : LongOp, o.fail = some (LopFail.arith 0x20) ∧ o.a = none ∧ o.flags = none ∧
          HandsOff s0 s s1 s2 h (fun u => u.modBank h.core (fun b => b.upd e)) o (.remu h m)))

/-- On a core that executes it, with an operand that can be loaded, and where no detected condition has its trap enabled,
FADD, FSUB and FMUL write the rounded result, FCMP writes Z, N, C and V of the comparison, FDIV, FSQRT.D and FSQRT.S hand off
their result, the conversions write theirs, and the sticky flag of every detected condition is set. (R136, R90, R91, R134,
R147, R98, R119.) -/
def Obligations.FloatingPointCompletes : Prop :=
  (∀ (s0 s : State) (h : Hd) (m : MemOp), s = s0.shed h → s.Executes h (!h.short && decide (m.mode = 8#4)) → memLegal m h.short = true → 2 ≤ m.size.toNat →
    let e := (s.core h.core).memEa h m
    s.CanLoad h.core e.seg e.off (szBytes m.size) →
    ∃ s1 v s2, s.Fetches h s1 ∧ s1.load h.core e.seg e.off (szBytes m.size) true = .ok v s2 ∧
      (let b := (s.core h.core).bank
      let fm := fmtOf m.size
      let x := fpArg fm b.a
      let y := unpack fm v
      let result (r : Nat × Nat) : State :=
        s.retired s1 h (s2.modBank h.core (fun b => { (({ b with fl := b.fl ||| stickyBits r.2 } : Bank).upd e) with a := word r.1 })) .seq
      (∀ r, r = fpAdd fm (flRm b.fl) (flTeuf b.fl) x y → fpTrap b.fl r.2 = 0 → exec (.fadd h m) s0 = .next (result r).settle) ∧
      (∀ r, (∀ z, y ≠ .nan z) → r = fpAdd fm (flRm b.fl) (flTeuf b.fl) x y.neg → fpTrap b.fl r.2 = 0 → exec (.fsub h m) s0 = .next (result r).settle) ∧
      (∀ r, (∃ z, y = .nan z) → r = fpAdd fm (flRm b.fl) (flTeuf b.fl) x y → fpTrap b.fl r.2 = 0 → exec (.fsub h m) s0 = .next (result r).settle) ∧
      (∀ r, r = fpMul fm (flRm b.fl) (flTeuf b.fl) x y → fpTrap b.fl r.2 = 0 → exec (.fmul h m) s0 = .next (result r).settle) ∧
      (∀ r, h.short = false → r = fpDiv fm (flRm b.fl) (flTeuf b.fl) x y → fpTrap b.fl r.2 = 0 →
        HandsOff s0 s s1 s2 h (fun u => u.modBank h.core (fun b => b.upd e)) (fpLong 2 (s.start h) b.fl r) (.fdiv h m)) ∧
      (fpTrap b.fl (fpCmp x y).2 = 0 → exec (.fcmp h m) s0 = .next (s.retired s1 h (s2.modBank h.core (fun b =>
        let b' := ({ b with fl := b.fl ||| stickyBits (fpCmp x y).2 } : Bank)
        { (b'.upd e) with fl := setBit (setBit (setBit (setBit b'.fl flZ (fpCmp x y).1.1) flN (fpCmp x y).1.2.1) flC (fpCmp x y).1.2.2.1) flV (fpCmp x y).1.2.2.2 })) .seq).settle))) ∧
  (∀ (s0 s : State) (h : Hd), s = s0.shed h → s.Executes h false →
    ∃ s1, s.Fetches h s1 ∧
      (let b := (s.core h.core).bank
      let conv (r : Word × Nat) : State := s.bankDone s1 h (fun b => { b with fl := b.fl ||| stickyBits r.2, a := r.1 })
      let rm := flRm b.fl
      (∀ r, r = fpSqrt f64 rm (flTeuf b.fl) (fpArg f64 b.a) → fpTrap b.fl r.2 = 0 → HandsOff s0 s s1 s1 h id (fpLong 3 b.pc b.fl r) (.fsqrtD h 0)) ∧
      (h.short = false →
        (∀ r, r = fpSqrt f32 rm (flTeuf b.fl) (fpArg f32 b.a) → fpTrap b.fl r.2 = 0 → HandsOff s0 s s1 s1 h id (fpLong 3 b.pc b.fl r) (.fsqrtS h 0)) ∧
        (∀ r, r = fpConv f64 rm false (fpArg f32 b.a) → fpTrap b.fl r.2 = 0 → exec (.fcvtDS h 0) s0 = .next (conv (word r.1, r.2))) ∧
        (∀ r, r = fpConv f32 rm (flTeuf b.fl) (fpArg f64 b.a) → fpTrap b.fl r.2 = 0 → exec (.fcvtSD h 0) s0 = .next (conv (word r.1, r.2))) ∧
        (∀ r, r = fpOfInt f64 rm b.a.toInt → fpTrap b.fl r.2 = 0 → exec (.fcvtDL h 0) s0 = .next (conv (word r.1, r.2))) ∧
        (∀ r, r = fpOfInt f32 rm b.a.toInt → fpTrap b.fl r.2 = 0 → exec (.fcvtSL h 0) s0 = .next (conv (word r.1, r.2))) ∧
        (∀ r, r = fpToInt rm (fpArg f64 b.a) → fpTrap b.fl r.2 = 0 → exec (.fcvtLD h 0) s0 = .next (conv r)) ∧
        (∀ r, r = fpToInt rm (fpArg f32 b.a) → fpTrap b.fl r.2 = 0 → exec (.fcvtLS h 0) s0 = .next (conv r)) ∧
        (∀ r, r = fpToInt 1 (fpArg f64 b.a) → fpTrap b.fl r.2 = 0 → exec (.fcvtzLD h 0) s0 = .next (conv r)))))

/-- In imprecise state an application core hands off a long operation without writing what it owns; in precise state, and on a
service core, it is complete before the next instruction. LONG_OPERATION_COMPLETE of the oldest operation writes the
registers, flags and lanes it owns and merges its sticky flags, and leaves memory as it was. XSYNC completes every outstanding
operation before it completes. (R163, R164, R165, R167, R171.) -/
def Obligations.LongOperationsWriteWhatTheyOwn : Prop :=
  (∀ (s : State) (k : Nat) (o : LongOp), o.block = none → o.fail = none → (s.core k).run = .running →
    (bit (s.core k).lopstat 63 = false → isSvc k = false →
      s.handOff k o = .ok .seq (s.modCore k (fun c => { c with lops := c.lops ++ [o] }))) ∧
    (bit (s.core k).lopstat 63 = true ∨ isSvc k = true → (s.core k).lops = [] →
      ∃ u, s.handOff k o = .ok .seq u ∧ (u.core k).lops = [] ∧ (u.core k).bank.a = o.a.getD (s.core k).bank.a ∧
        (u.core k).bank.x = o.x.getD (s.core k).bank.x ∧ (u.core k).bank.y = o.y.getD (s.core k).bank.y ∧ (u.core k).bank.sp = (s.core k).bank.sp ∧
        (u.core k).bank.pc = (s.core k).bank.pc ∧ (u.core k).q = o.q.getD (s.core k).q ∧ u.mem = s.mem ∧ u.dev = s.dev ∧ ∀ j, j ≠ k → u.core j = s.core j)) ∧
  (∀ (s : State) (k : Nat) (o : LongOp) (rest : List LongOp), (s.core k).lops = o :: rest → o.block = none → o.fail = none → (s.core k).run = .running →
    ∃ u : State, exec (.longOperationComplete k) s = .next u.settle ∧ (u.core k).lops = rest ∧ (u.core k).bank.a = o.a.getD (s.core k).bank.a ∧
      (u.core k).bank.x = o.x.getD (s.core k).bank.x ∧ (u.core k).bank.y = o.y.getD (s.core k).bank.y ∧ (u.core k).q = o.q.getD (s.core k).q ∧
      (u.core k).sstat = o.sstat.getD (s.core k).sstat ∧
      (∀ i, bit (u.core k).bank.fl i = (bit o.sticky i || (match o.flags with
        | some (m, v) => if bit m i then bit v i else bit (s.core k).bank.fl i
        | none => bit (s.core k).bank.fl i))) ∧
      (u.core k).bank.sp = (s.core k).bank.sp ∧ (u.core k).bank.pc = (s.core k).bank.pc ∧ u.mem = s.mem ∧ u.dev = s.dev) ∧
  (∀ (s0 s : State) (h : Hd), s = s0.shed h → s.Begins h false → h.short = true → h.cond = 0 → (∀ o ∈ (s.core h.core).lops, o.block = none ∧ o.fail = none) →
    ∃ s1 s2, s.Fetches h s1 ∧ s1.drainAll h.core = .clear s2 ∧ (s2.core h.core).lops = [] ∧ exec (.xsync h) s0 = .next (s.retired s1 h s2 .seq).settle)

/-- On a core that executes it, BR.S and BR go to PC plus twice the sign-extended offset and JMPA to A; CALL and CALL.I, when
every doubleword of their frame can be stored to, push it, move SP to it and go to their target, which CALL.I reads first;
RET, when its frame can be loaded, restores the registers of the mask, moves SP over the frame and goes to the return offset.
Bit 0 of the target is cleared. On a core that executes it, PFX with condition AL moves PC past itself and holds its
immediate; the operand of a mode-8 instruction after it lies at the immediate times 2^10 plus the displacement, and at the
displacement where no PFX stands before it. (R140, R123, R124, R138, R98, R119, R130, R131.) -/
def Obligations.BranchesCallsAndThePrefixComplete : Prop :=
  (
  (∀ (s0 s : State) (h : Hd), s = s0.shed h → s.Executes h false →
    let k := h.core
    let b := (s.core k).bank
    let noStream (mask : Nat) : Prop := maskStream mask = false ∨ (isSvc k = false ∧ (s.dev.cslu k).strNeed = false)
    let frame (mask : Nat) : Prop := ∀ i, i < 2 + maskLen mask → s.CanStore k 2 (b.sp - word (8 * (i + 1))) 8
    let target (d : BitVec 8) (mode : BitVec 4) : Ea := b.ea mode.toNat (8 * d.signExtend 64) 0 false 0 8
    (∃ s1, s.Fetches h s1 ∧
      (∀ off : BitVec 12, h.short = true → exec (.brS h off) s0 = .next (s.retired s1 h s1 (.jump (b.pc + 2 * off.signExtend 64)))) ∧
      (∀ off : BitVec 23, h.short = false → exec (.br h off) s0 = .next (s.retired s1 h s1 (.jump (b.pc + 2 * off.signExtend 64)))) ∧
      (h.short = true → exec (.jmpa h) s0 = .next (s.retired s1 h s1 (.jump b.a)))) ∧
    (∀ (mask : BitVec 7) (off : BitVec 16), h.short = false → (s.core k).Shaped → (s.core k).TlbCopied → noStream mask.toNat → frame mask.toNat →
      ∃ s1 s2 sp, s.Fetches h s1 ∧ s1.pushFrame k mask.toNat = .ok sp s2 ∧ sp = b.sp - word (8 * (2 + maskLen mask.toNat)) ∧
        exec (.call h mask off) s0 = .next (s.retired s1 h (s2.modBank k (fun b => { b with sp := sp })) (.jump (b.pc + 2 * off.signExtend 64))).settle) ∧
    (∀ (mask d : BitVec 8) (mode : BitVec 4), h.short = false → (s.core k).Shaped → (s.core k).TlbCopied → noStream mask.toNat → frame mask.toNat → mask.toNat < 128 →
      mode.toNat ≤ 3 → (mode = 3#4 → d = 0#8) → s.CanLoad k (target d mode).seg (target d mode).off 8 →
      ∃ s1 t s2 sp s3, s.Fetches h s1 ∧ s1.load k (target d mode).seg (target d mode).off 8 false = .ok t s2 ∧ s2.pushFrame k mask.toNat = .ok sp s3 ∧
        exec (.callI h mask d mode) s0 = .next (s.retired s1 h (s3.modBank k (fun b => { b with sp := sp })) (.jump (word t))).settle) ∧
    (h.short = true → (s.core k).TlbCopied → s.CanLoad k 2 b.sp 8 → s.CanLoad k 2 (b.sp + 8) 8 →
      ∃ s1 hd s2, s.Fetches h s1 ∧ s1.loadWords k b.sp 2 = .ok hd s2 ∧ ∀ mask, mask = (hd.getD 1 0).toNat % 256 →
        mask.testBit 7 = false → noStream mask → (∀ i, i < maskLen mask → s.CanLoad k 2 (b.sp + 16 + word (8 * i)) 8) →
        ∃ ws s3, (if maskStream mask then s2.onDev (fun d => d.setCslu k { d.cslu k with strDirty := true }) else s2).loadWords k (b.sp + 16) (maskLen mask) = .ok ws s3 ∧
          exec (.ret h) s0 = .next (s.retired s1 h ((s3.modCore k (fun c => (c.unmask mask ws).modBank (fun b' =>
            { b' with sp := b.sp + 16 + word (8 * maskLen mask) }))).indexLoaded k) (.jump (hd.getD 0 0))).settle)) ∧
  (∀ (s s1 u : State) (h : Hd) (t : Word), (u.core h.core).run = .running → (u.core h.core).stepHalt = false →
    ((s.retired s1 h u (.jump t)).core h.core).bank = { (u.core h.core).bank with pc := t &&& ~~~1#64 })) ∧
  (
  (∀ (s0 s : State) (h : Hd) (imm : BitVec 22), s = s0.shed h → s.Executes h false → h.short = false → h.cond = 0 →
    ∃ s1, s.Fetches h s1 ∧
      exec (.pfx h imm) s0 = .next (s1.modCore h.core (fun c => { (c.modBank (fun b => { b with pc := b.pc + 4 })) with pfx := some imm.toNat })).settle) ∧
  (∀ (c : Core) (h : Hd) (m : MemOp), m.mode = 8#4 → (c.memEa h m).seg = m.seg.toNat ∧
    (c.memEa h m).off = word ((c.pfx.getD 0) * 2 ^ 10 + m.disp.toNat)))

/-- On a core that executes it, LOOP and LOOPI with a count other than zero and fewer than four open levels open level LDEPTH
with LS at the next instruction, LE at the given distance and LC the count; with four open levels they take loop nest (vector
12); a count of zero goes past the instruction at LE, once that is fetched. An instruction that completes at another offset
than LE of the innermost level, or with no level open, closes nothing; at LE it goes to LS while the decremented count is not
zero, else the level closes and the next outer one is evaluated in the same way. (R106, R141, R98, R119.) -/
def Obligations.LoopsOpenAndClose : Prop :=
  (∀ (s0 s : State) (h : Hd), s = s0.shed h → s.Executes h false → h.short = false →
    let b := (s.core h.core).bank
    let opened (s1 : State) (dist : Nat) (count : Word) : State := s1.modBank h.core (fun b =>
      ({ b with ls := b.ls.set b.ldepth (b.pc + 4), le := b.le.set b.ldepth (b.pc + word (2 * dist)), lc := b.lc.set b.ldepth count } : Bank).setLdepth (b.ldepth + 1))
    let nest (s1 : State) : State := (s1.undone h.core).insnTrap h.core (Trap.plain 12) (s.start h) (b.pc + 4)
    let after (dist : Nat) : Word := b.pc + word (2 * dist)
    let len (es : Bool) : Nat := if es then 2 else 4
    (∃ s1, s.Fetches h s1 ∧
      (∀ (sub : BitVec 4) (imm : BitVec 16) (es : Bool) (count : Word), sub.toNat ≤ 2 → 2 ≤ imm.toNat →
        count = (if sub = 0 then b.a else if sub = 1 then b.x else b.y) → count ≠ 0 →
        (b.ldepth < 4 → exec (.loop h sub imm es) s0 = .next (s.retired s1 h (opened s1 imm.toNat count) .seq).settle) ∧
        (4 ≤ b.ldepth → exec (.loop h sub imm es) s0 = .next (nest s1).settle)) ∧
      (∀ (imm : BitVec 16) (es : Bool), 2 ≤ imm.toNat % 256 → imm.toNat / 256 ≠ 0 →
        (b.ldepth < 4 → exec (.loopi h imm es) s0 = .next (s.retired s1 h (opened s1 (imm.toNat % 256) (word (imm.toNat / 256))) .seq).settle) ∧
        (4 ≤ b.ldepth → exec (.loopi h imm es) s0 = .next (nest s1).settle))) ∧
    (∀ (sub : BitVec 4) (imm : BitVec 16) (es : Bool), sub.toNat ≤ 2 → 2 ≤ imm.toNat → (if sub = 0 then b.a else if sub = 1 then b.x else b.y) = 0 →
      (s.core h.core).TlbCopied → s.Fetchable h.core (after imm.toNat) (len es) → ∃ s1 s2, s.Fetches h s1 ∧ s1.fetch h.core (after imm.toNat) (len es) = .ok () s2 ∧
        exec (.loop h sub imm es) s0 = .next (s.retired s1 h s2 (.jump (after imm.toNat + word (len es)))).settle) ∧
    (∀ (imm : BitVec 16) (es : Bool), 2 ≤ imm.toNat % 256 → imm.toNat / 256 = 0 → (s.core h.core).TlbCopied → s.Fetchable h.core (after (imm.toNat % 256)) (len es) →
      ∃ s1 s2, s.Fetches h s1 ∧ s1.fetch h.core (after (imm.toNat % 256)) (len es) = .ok () s2 ∧
        exec (.loopi h imm es) s0 = .next (s.retired s1 h s2 (.jump (after (imm.toNat % 256) + word (len es)))).settle)) ∧
  (∀ (b : Bank) (at' next : Word), b.ldepth ≤ 4 →
    (b.ldepth = 0 → closeLoops 4 b at' next = (next, b)) ∧
    (∀ d, b.ldepth = d + 1 →
      let b1 : Bank := { b with lc := b.lc.set d (b.lc.getD d 0 - 1) }
      (b.le.getD d 0 ≠ at' → closeLoops 4 b at' next = (next, b)) ∧
      (b.le.getD d 0 = at' → b.lc.getD d 0 ≠ 1 → closeLoops 4 b at' next = (b.ls.getD d 0 &&& ~~~1#64, b1)) ∧
      (b.le.getD d 0 = at' → b.lc.getD d 0 = 1 → closeLoops 4 b at' next = closeLoops 4 (b1.setLdepth d) at' next)))

/-- On a core that executes it, when the doubleword at SP - 8 can be stored to through S2, a push stores its register there
and moves SP to it; when the doubleword at SP can be loaded through S2, a pop reads it, writes its register and moves SP up by
8. POPF keeps LDEPTH and the reserved bits of FL. (R138, R103, R104, R98, R119.) -/
def Obligations.StackInstructionsComplete : Prop :=
  ∀ (s0 s : State) (h : Hd), s = s0.shed h → s.Executes h false → h.short = true →
    let k := h.core
    let b := (s.core k).bank
    (s.CanStore k 2 (b.sp - 8) 8 → ∃ s1, s.Fetches h s1 ∧
      (∃ s2, s1.store k 2 (b.sp - 8) 8 b.a.toNat true = .ok () s2 ∧
        exec (.pusha h) s0 = .next (s.retired s1 h (s2.modBank k (fun b' => { b' with sp := b.sp - 8 })) .seq).settle) ∧
      (∃ s2, s1.store k 2 (b.sp - 8) 8 b.x.toNat true = .ok () s2 ∧
        exec (.pushx h) s0 = .next (s.retired s1 h (s2.modBank k (fun b' => { b' with sp := b.sp - 8 })) .seq).settle) ∧
      (∃ s2, s1.store k 2 (b.sp - 8) 8 b.y.toNat true = .ok () s2 ∧
        exec (.pushy h) s0 = .next (s.retired s1 h (s2.modBank k (fun b' => { b' with sp := b.sp - 8 })) .seq).settle) ∧
      (∃ s2, s1.store k 2 (b.sp - 8) 8 b.fl.toNat true = .ok () s2 ∧
        exec (.pushf h) s0 = .next (s.retired s1 h (s2.modBank k (fun b' => { b' with sp := b.sp - 8 })) .seq).settle)) ∧
    (s.CanLoad k 2 b.sp 8 → ∃ s1 v s2, s.Fetches h s1 ∧ s1.load k 2 b.sp 8 true = .ok v s2 ∧
      (exec (.popa h) s0 = .next (s.retired s1 h (s2.modBank k (fun b' => { b' with sp := b.sp + 8, a := word v })) .seq).settle) ∧
      (exec (.popx h) s0 = .next (s.retired s1 h ((s2.modBank k (fun b' => { b' with sp := b.sp + 8, x := word v })).indexLoaded k) .seq).settle) ∧
      (exec (.popy h) s0 = .next (s.retired s1 h ((s2.modBank k (fun b' => { b' with sp := b.sp + 8, y := word v })).indexLoaded k) .seq).settle) ∧
      (exec (.popf h) s0 = .next (s.retired s1 h (s2.modBank k (fun b' => { b' with sp := b.sp + 8, fl := (b'.fl &&& 0x07000000#64) ||| (word v &&& flMask &&& ~~~0x07000000#64) })) .seq).settle))

/-- On a core that executes it, SCALL outside monitor mode takes vector 17 in the supervisor of the current world and MCALL in
supervisor mode takes vector 18 in monitor, each with its immediate as detail and the next instruction as saved PC; BRK takes
vector 16 with its own offset as saved PC. ERET, outside user mode, when the area at CSH can be read and holds a lower half
whose saved status may be restored, and FRET in B1 continue at the PC they restore. (R115, R116, R118, R110, R138, R101, R98,
R119.) -/
def Obligations.ExceptionInstructionsComplete : Prop :=
  ∀ (s0 s : State) (h : Hd), s = s0.shed h → s.Executes h false → h.short = true →
    let k := h.core
    let c := s.core k
    let area := areaAddr c.cw.csh
    let bs := s.mem.bytes area 192
    ∃ s1, s.Fetches h s1 ∧
      (∀ imm : BitVec 7, c.mode ≠ 3 → exec (.scall h imm) s0 = .next ((s1.undone k).takeException k
        { Trap.plain 17 with next := true, detail := imm.toNat, tgt := some (1, c.secure) } (c.bank.pc + 2)).settle) ∧
      (∀ imm : BitVec 7, c.mode ≠ 3 → c.mode ≠ 0 → exec (.mcall h imm) s0 = .next ((s1.undone k).takeException k
        { Trap.plain 18 with next := true, detail := imm.toNat, tgt := some (3, true) } (c.bank.pc + 2)).settle) ∧
      (exec (.brk h) s0 = .next ((s1.undone k).takeException k (Trap.plain 16) (s.start h)).settle) ∧
      (c.mode ≠ 0 → c.cw.csh ≠ 0 → s.Area k c.secure area → s.Drained → fld (areaHdr bs) 63 62 = 1 → msAdmits c (isSvc k) ((areaWords bs).getD 18 0) = true →
        ∃ s2, s1.eret k = .ok s2 ∧ exec (.eret h) s0 = .next (s.retired s1 h (s2.rewait k) (.jump (s2.core k).bank.pc)).settle) ∧
      (c.inB1 = true → ∃ c', (s1.core k).fret = some c' ∧ exec (.fret h) s0 = .next (s.retired s1 h ((s1.setCore k c').rewait k) (.jump c'.bank.pc)).settle)

/-- When an area of the target world's free list is filled, taking an exception writes the head, the header, the lower half
with the saved PC, MS, the new ESYN and EADDR into it, links it at CSH, takes the next free area and counts one off; the core
is then in the target mode and world with IE = 0 and SS = 0, its SP from SSP or MSP, no open loop, PC at the vector of VBASE
or MVBASE, ESYN and EADDR written and the walk guard clear; A, X, Y and the loop registers are kept. (R116, R114, R196, R257.)
-/
def Obligations.ExceptionEntry : Prop :=
  ∀ (s s1 : State) (k : Nat) (t : Trap) (tmode : Nat) (tsec : Bool) (pc : Word) (area link : Nat), tmode < 4 → s.mem.wf = true →
    (s.core k).run = .running →
    s.saveArea k tsec ((s.core k).wr tsec).csh (lowerHdr tsec false) (lowerWords (s.core k).bank pc (s.core k).bank.ms (esynOf (s.core k) t) t.eaddr) =
      .saved area link s1 → (∃ ob sb, s1.core k = { s.core k with opbuf := ob, sbuf := sb }) →
    (s.core k).bank.ls.length = 4 → (s.core k).bank.le.length = 4 → (s.core k).bank.lc.length = 4 →
    let u := (s.enter k t tmode tsec pc).1
    let b := (s.core k).bank
    let b' := (u.core k).bank
    let w := (s.core k).wr tsec
    let w' := (u.core k).wr tsec
    b'.a = b.a ∧ b'.x = b.x ∧ b'.y = b.y ∧ b'.ls = b.ls ∧ b'.le = b.le ∧ b'.lc = b.lc ∧ b'.ldepth = 0 ∧
    fld b'.ms 1 0 = tmode ∧ bit b'.ms 2 = tsec ∧ bit b'.ms 3 = false ∧ bit b'.ms 7 = false ∧
    b'.sp = (if tmode = 3 then (s.core k).msp else w.ssp) ∧ b'.pc = (if tmode = 3 then (s.core k).mvbase else w.vbase) + word (16 * t.vec) ∧
    w'.csh = word area ∧ w'.cfl = word link ∧ fld w'.cfc 15 0 = fld w.cfc 15 0 - 1 ∧ w'.esyn = esynOf (s.core k) t ∧ w'.eaddr = t.eaddr ∧
    (u.core k).guard = false ∧ (u.core k).inB1 = (s.core k).inB1 ∧
    area = areaAddr w.cfl ∧ u.mem.bytes area 192 = wordBytes (w.csh :: lowerHdr tsec false ::
      lowerWords b pc b.ms (esynOf (s.core k) t) t.eaddr)

/-- On a core that executes it, FENCE.L ends the reads that came early; FENCE.S makes every older write visible; FENCE.LS does
both, with every write the core has read; the .F forms wait while posted exchange-window writes of the core have not completed
and complete once none is left; IFENCE makes older stores visible in L1D. On a core that executes it, when the operand's
checks pass and its DRAM answers, CPF of a cacheable address reads the line into the core's caches, CWB writes the line's
dirty data back, CWBI also invalidates every copy and CINV, outside user mode, invalidates without writing back; a prefetch
whose checks fail has no effect, and outside DRAM CWB and CWBI have none. On an application core that executes it, with no
stream group still to be read and no enabled trap detected: MAC.V, when each of its elements can be loaded and is aligned to 8
bytes, hands off the lanes after n multiply-adds in order from lane next, with X and Y moved over the elements; RED hands off
the pairwise sum of the lanes, RED.C also clears them; QCLR clears the lanes and next. (R212, R213, R222, R179, R148, R256,
R142, R143, R160, R161, R162.) -/
def Obligations.FenceCacheAndStreamInstructionsComplete : Prop :=
  (
  ∀ (s0 s : State) (h : Hd), s = s0.shed h → s.Executes h false → h.short = true →
    let k := h.core
    ∃ s1, s.Fetches h s1 ∧
      (let ls := ((s1.drainStores k).fenceSeen k).modCore k Core.fenceReads
      exec (.fenceL h) s0 = .next (s.retired s1 h (s1.modCore k Core.fenceReads) .seq).settle ∧
      exec (.fenceS h) s0 = .next (s.retired s1 h (s1.drainStores k) .seq).settle ∧
      exec (.fenceLs h) s0 = .next (s.retired s1 h ls .seq).settle ∧
      exec (.fenceLF h) s0 = .next (s.retired s1 h (s1.modCore k Core.fenceReads) .seq).settle ∧
      (s.dev.postedOut k = false → exec (.fenceSF h) s0 = .next (s.retired s1 h (s1.drainStores k) .seq).settle) ∧
      (s.dev.postedOut k = true → exec (.fenceSF h) s0 = .next (s1.drainStores k).settle ∧ exec (.fenceLsF h) s0 = .next ls.settle) ∧
      (s.dev.postedOut k = false → exec (.fenceLsF h) s0 = .next (s.retired s1 h ls .seq).settle) ∧
      exec (.ifence h) s0 = .next (s.retired s1 h (s1.performWhere k (fun _ => true)) .seq).settle ∧
      ((s.core k).run = .running → ((s1.drainStores k).core k).sbuf = [] ∧ ((s1.modCore k Core.fenceReads).core k).early = []))) ∧
  (
  ∀ (s0 s : State) (h : Hd) (o : CacheOp), s = s0.shed h → s.Executes h false → h.short = false → o.z = 0 → (o.ov = true ∨ o.seg = 0) →
    let k := h.core
    let c := s.core k
    let rq := s.dev.coreReq k c.secure
    let seg := if o.ov then o.seg.toNat else 1
    ∃ s1, s.Fetches h s1 ∧
      (∀ t, c.resolve seg c.bank.x 1 .read none false = .error t → exec (.cpf h o) s0 = .next (s.retired s1 h s1 .seq)) ∧
      (∀ lin p ps, c.resolve seg c.bank.x 1 .read none false = .ok (lin, p :: ps) →
        let s2 := s1.tlbUse k false lin 1
        let line := p.pa / 64
        (s.Open rq p.pa 1 →
          (p.attr ≤ 1 → exec (.cpf h o) s0 = .next (s.retired s1 h ((s2.fillRead k line (decide (p.attr = 1))).l1Fill k line false) .seq)) ∧
          exec (.cwb h o) s0 = .next (s.retired s1 h ((s2.settleOwn k (line * 64) 64).cwb line) .seq).settle ∧
          exec (.cwbi h o) s0 = .next (s.retired s1 h ((s2.settleOwn k (line * 64) 64).cwbi line) .seq).settle) ∧
        (prange p.pa ≠ .dram → exec (.cwb h o) s0 = .next (s.retired s1 h s2 .seq).settle ∧ exec (.cwbi h o) s0 = .next (s.retired s1 h s2 .seq).settle)) ∧
      (∀ lin p ps, c.mode ≠ 0 → c.resolve seg c.bank.x 1 .write none false = .ok (lin, p :: ps) → s.Open rq p.pa 1 →
        let line := p.pa / 64
        exec (.cinv h o) s0 = .next (s.retired s1 h ((((s1.tlbUse k false lin 1).settleOwn k (line * 64) 64).endLag (line * 64) 64).cinv line) .seq).settle)) ∧
  (
  ∀ (s0 s : State) (h : Hd), s = s0.shed h → s.Executes h false → h.short = false → isSvc h.core = false → (s.dev.cslu h.core).strNeed = false →
    let k := h.core
    let c := s.core k
    let b := c.bank
    let dirty (u : State) : State := u.onDev (fun d => d.setCslu k { d.cslu k with strDirty := true })
    (∀ (o : MacOp) l, 1 ≤ o.n.toNat → o.n.toNat ≤ 64 → o.bit7 = false → (o.xov = true ∨ o.xseg = 0) → (o.yov = true ∨ o.yseg = 0) →
      l = macOpds (if o.xov then o.xseg.toNat else 1) (if o.yov then o.yseg.toNat else 1) o.n.toNat b.x b.y →
      (∀ x ∈ l, s.CanLoad k x.seg x.off 8 ∧ c.opdLin x % 8 = 0) →
      ∃ s1 els s2, s.Fetches h s1 ∧
        (l.foldl (fun s x => (s.tlbUse k false (c.opdLin x) 8).watched k (c.opdLin x) 8 .read) s1).macReads k (c.macPieces l) = .ok els s2 ∧
        ∀ r, r = macLanes (flRm b.fl) (flTeuf b.fl) (pairs els) (fld c.sstat 2 0) c.q 0 → fpTrap b.fl r.2 = 0 →
          HandsOff s0 s s1 (dirty s2) h id { LongOp.new 4 (tQ + tX + tY) b.pc with
            sticky := stickyBits r.2, q := some r.1, sstat := some (word ((fld c.sstat 2 0 + o.n.toNat) % 8)), x := some (b.x + word (8 * o.n.toNat))
            y := some (b.y + word (8 * o.n.toNat)) } (.macV h o)) ∧
    (∃ s1, s.Fetches h s1 ∧
      (∀ r, r = redSum (flRm b.fl) (flTeuf b.fl) c.q → fpTrap b.fl r.2 = 0 →
        HandsOff s0 s s1 s1 h id { LongOp.new 5 tA b.pc with sticky := stickyBits r.2, a := some (word r.1) } (.red h 0) ∧
        HandsOff s0 s s1 (dirty s1) h id { LongOp.new 5 (tA + tQ) b.pc with
          sticky := stickyBits r.2, a := some (word r.1), q := some (List.replicate 8 0), sstat := some 0 } (.redC h 0)) ∧
      exec (.qclr h 0) s0 = .next (s.retired s1 h (dirty (s1.modCore k (fun c => { c with q := List.replicate 8 0, sstat := 0 }))) .seq).settle))

/-- On a core that executes it: WAIT with no sluice context stops fetch; with one it consumes its oldest event and goes on,
or, with none and CFC at least 4, makes the context WAITING and stops until it is started again. YIELD puts a running context
at the tail of its ready list when CFC is at least 4 and has no effect without a context. SWAKE offers a software event to the
context that A names and writes the status to A; SPRIO and SDEAD write the priority, within CLU.PRIOMAX, or the deadline of
the running context and set T, which is 0 without a context. (R278, R279, R283, R286, R149, R98, R119.) -/
def Obligations.WaitAndSluiceInstructionsComplete : Prop :=
  ∀ (s0 s : State) (h : Hd), s = s0.shed h → s.Executes h false →
    let k := h.core
    let ctx := (s.dev.cslu k).ctx
    ∃ s1, s.Fetches h s1 ∧
      (let withT (u : State) (t : Bool) : State := s.retired s1 h (u.modBank k (fun b => { b with fl := setBit b.fl flT t })) .seq
      (h.short = true → ctx = none →
        (isSvc k = true → exec (.wait h) s0 = .next (s.retired s1 h (s1.modCore k (fun c => { c with run := .idle })) .seq).settle) ∧
        (isSvc k = false → exec (.wait h) s0 = .next (s.retired s1 h ((s1.modCore k (fun c => { c with run := .idle })).onDev (fun d =>
          d.setCslu k { d.cslu k with waited := true })) .seq).settle) ∧
        exec (.yield h) s0 = .next (s.retired s1 h s1 .seq).settle) ∧
      (∀ x, h.short = true → ctx = some x →
        (s.dev.consume x ≠ none → ∃ e d, s1.dev.consume x = some (e, d) ∧ exec (.wait h) s0 = .next (s.retired s1 h { s1 with dev := d.start x k e } .seq).settle) ∧
        (s.dev.consume x = none → s.dev.ctxState x ≠ stStopped → 4 ≤ s.cfcNow k →
          exec (.wait h) s0 = .next (s.retired s1 h ((s1.onDev (fun d => d.setCtxState x stWaiting)).ctxWait k) .seq).settle) ∧
        (s.dev.ctxState x = stRunning → 4 ≤ s.cfcNow k →
          exec (.yield h) s0 = .next (s.retired s1 h ((s1.onDev (fun d => d.makeReady x false)).ctxWait k) .seq).settle)) ∧
      (h.short = false →
        (∀ r, r = s1.dev.sluiceEvent { kind := 6, src := k, angle := s.dev.reg R.atbNow, cluster := fld (s.core k).bank.a 14 10, slot := fld (s.core k).bank.a 9 0
                                       pond := if isSvc k then 32 else (clusterOwner s.dev.felt.cfg (k / 8)).getD 32 } →
          exec (.swake h 0) s0 = .next (s.retired s1 h (({ s1 with dev := r.2 } : State).modBank k (fun b => { b with a := word r.1 })) .seq).settle) ∧
        (∀ imm : BitVec 16, imm.toNat < 16 →
          (ctx = none → exec (.sprio h imm) s0 = .next (withT s1 false).settle) ∧
          (∀ x, ctx = some x → imm.toNat ≤ s.dev.rf (R.cluPriomax (x / 1024)) 3 0 →
            exec (.sprio h imm) s0 = .next (withT (s1.onDev (fun d => d.setCd x 0 (setFld (d.cd x 0) 55 52 imm.toNat))) true).settle)) ∧
        (ctx = none → exec (.sdead h 0) s0 = .next (withT s1 false).settle) ∧
        (∀ x, ctx = some x → exec (.sdead h 0) s0 = .next (withT (s1.onDev (fun d =>
          (d.setCd x 3 (s.core k).bank.a).setCd x 0 (setBit (d.cd x 0) 51 true))) true).settle)))

/-- On a core that executes it in a mode that the register admits, MFC of an allocated register writes its value to A and MTC
of a writable one writes A to it; MTC of a stream or segment register marks the group changed, and MTC of a loop register
takes effect for the next instruction. A write of VBASE, SSP, CSH, CFL, CFC, EADDR, TLBROOT, WCTL, a segment's base, limit or
rights, a loop register, a stream lane or SSTAT reads back with its reserved and ignored bits cleared; a write of MS changes
IE and SS, FE outside B1, and SIE in the secure world only. (R112, R113, R95, R93, R107, R170, R98, R119, R101.) -/
def Obligations.SystemRegisterInstructionsComplete : Prop :=
  (
  ∀ (s0 s : State) (h : Hd) (imm : BitVec 16) (need : Nat) (rd wr : Bool), s = s0.shed h → s.Executes h false → h.short = false →
    sysReg imm.toNat (isSvc h.core) (s.core h.core).inB1 = some (need, rd, wr) →
    (isStreamReg imm.toNat = true → (s.dev.cslu h.core).strNeed = false) →
    let k := h.core
    let loopReg := 0x60 ≤ imm.toNat ∧ imm.toNat < 0x6C
    ∃ s1, s.Fetches h s1 ∧
      (let w := s1.modCore k (fun c => c.writeSys (isSvc k) imm.toNat c.bank.a)
      let got := s1.modBank k (fun b => { b with a := s1.readSys k imm.toNat })
      (rd = true ∨ need ≤ (s.core k).mode → exec (.mfc h imm) s0 = .next (s.retired s1 h (if imm.toNat = 0x18 then got.modCore k Core.ownA else got) .seq)) ∧
      (wr = true → need ≤ (s.core k).mode →
        (isStreamReg imm.toNat = false → isSegReg imm.toNat = false → ¬ loopReg → exec (.mtc h imm) s0 = .next (s.retired s1 h w .seq).settle) ∧
        (loopReg → exec (.mtc h imm) s0 =
          .next (s.retired s1 h s1 (.loop ((imm.toNat - 0x60) / 4) ((imm.toNat - 0x60) % 4) (s.core k).bank.a)).settle) ∧
        (isStreamReg imm.toNat = true →
          exec (.mtc h imm) s0 = .next (s.retired s1 h (w.onDev (fun d => d.setCslu k { d.cslu k with strDirty := true })) .seq).settle) ∧
        (isStreamReg imm.toNat = false → isSegReg imm.toNat = true →
          exec (.mtc h imm) s0 = .next (s.retired s1 h (w.onDev (fun d => d.setCslu k { d.cslu k with segDirty := true })) .seq).settle)))) ∧
  (
  ∀ (s : State) (k : Nat) (v : Word), (s.core k).run = .running → (s.core k).cw.segs.length = 8 → (s.core k).bank.ls.length = 4 → (s.core k).bank.le.length = 4 →
    (s.core k).bank.lc.length = 4 → (s.core k).q.length = 8 →
    let rb (n : Nat) : Word := (s.modCore k (fun c => c.writeSys (isSvc k) n v)).readSys k n
    rb 1 = v &&& ~~~0x3FF#64 ∧ rb 3 = v &&& ~~~7#64 ∧ rb 8 = v &&& 0x000FFFFFFFFFFFC0#64 ∧ rb 9 = v &&& 0x000FFFFFFFFFFFC0#64 ∧ rb 10 = v &&& 0xFFFF#64 ∧
    rb 0x11 = v ∧ rb 0x21 = v &&& 0x000FFFFFFFFFF000#64 ∧ rb 0x24 = v &&& 1 ∧
    (∀ n, n < 8 → rb (0x40 + n) = v ∧ rb (0x48 + n) = v &&& 0x0000FFFFFFFFFFFF#64 ∧ rb (0x50 + n) = v &&& 0x1F#64) ∧
    (∀ n, n < 12 → rb (0x60 + n) = v) ∧ (∀ n, n < 8 → rb (0x70 + n) = v) ∧ rb 0x78 = v &&& 7 ∧
    (let b := (s.core k).bank
     let b' := ((s.modCore k (fun c => c.writeSys (isSvc k) 0 v)).core k).bank
     (∀ i, bit b'.ms i = if i = 3 ∨ i = 7 ∨ (i = 4 ∧ (s.core k).inB1 = false) ∨ (i = 5 ∧ (s.core k).secure = true) then bit v i else bit b.ms i) ∧
     b'.a = b.a ∧ b'.pc = b.pc ∧ b'.fl = b.fl))

/-- On a core that executes it outside user mode: WLK of an address below 2^42 whose DRAM answers writes the doubleword to A;
TLBWR with the walk guard set installs nothing and clears it, with a leaf whose V is 1 installs the entry, and else installs
nothing; a local TLBINV drops what it names; a broadcast one drops it too, sets the guard, and completes at once when no other
core must answer, or once every one has answered; on a service core it is the local one. On a core that executes it outside
user mode, with no stream group still to be read: SVL and SVU, when the free list has an area that can be accessed and CFC is
not 3, fill it and link it at CSH; RSL and RSU, when the area at CSH can be accessed and is of their own kind, restore its
half and return the area to the free list. (R148, R192, R193, R196, R199, R200, R203, R259, R260, R261, R285, R257.) -/
def Obligations.TranslationAndSaveInstructionsComplete : Prop :=
  (
  ∀ (s0 s : State) (h : Hd), s = s0.shed h → s.Executes h false → h.short = false → (s.core h.core).mode ≠ 0 →
    let k := h.core
    let c := s.core k
    let pa := c.bank.x.toNat / 8 * 8
    ∃ s1, s.Fetches h s1 ∧
      (let fin (u : State) : Host.Outcome State Fault Refusal := .next (s.retired s1 h u .seq).settle
      (pa ≤ 0x3FFFFFFFFFF → s.Reaches k pa 8 → ∃ bs s2, (s1.settleOwn k pa 8).pread k (s1.dev.coreQos k) (s1.dev.coreReq k c.secure) 0 pa 8 = (.ok bs, s2) ∧
        exec (.wlk h 0) s0 = fin (s2.modBank k (fun b => { b with a := word (ofBytesLE bs) }))) ∧
      (∀ victims, c.guard = true → exec (.tlbwr h 0 victims) s0 = fin (s1.modCore k (fun c => { c with guard := false, dropped := true }))) ∧
      (∀ victims, c.guard = false → (bit c.bank.a 0 = false ∨ bit c.bank.a 1 = true) → exec (.tlbwr h 0 victims) s0 = fin (s1.modCore k (fun c => { c with dropped := false }))) ∧
      (∀ victims, c.guard = false → bit c.bank.a 0 = true → bit c.bank.a 1 = false →
        exec (.tlbwr h 0 victims) s0 = fin (s1.modCore k (fun c => c.tlbInstall k (leafEntry c c.bank.a c.bank.x c.bank.y) victims))) ∧
      exec (.tlbinvVa h 0) s0 = fin (s1.modCore k (fun c => c.tlbDrop (c.tlbReq k 0))) ∧
      exec (.tlbinvAs h 0) s0 = fin (s1.modCore k (fun c => c.tlbDrop (c.tlbReq k 1))) ∧
      exec (.tlbinvW h 0) s0 = fin (s1.modCore k (fun c => c.tlbDrop (c.tlbReq k 2))) ∧
      (∀ i form, (i = Instr.tlbinvBVa h 0 ∧ form = 0) ∨ (i = Instr.tlbinvBAs h 0 ∧ form = 1) ∨ (i = Instr.tlbinvBW h 0 ∧ form = 2) →
        (isSvc k = true → exec i s0 = fin (s1.modCore k (fun c => c.tlbDrop (c.tlbReq k form)))) ∧
        (isSvc k = false → c.tlbOut = none → s.tlbTargets k = [] →
          exec i s0 = fin (s1.modCore k (fun c' => { (c'.tlbDrop ((s1.core k).tlbReq k form)) with guard := true, tlbId := c.tlbId + 1 }))) ∧
        (isSvc k = false → c.tlbOut = some [] → exec i s0 = fin (s1.modCore k (fun c => { c with tlbOut := none })))))) ∧
  (
  ∀ (s0 s : State) (h : Hd), s = s0.shed h → s.Executes h false → h.short = false → (s.core h.core).mode ≠ 0 → (s.dev.cslu h.core).strNeed = false →
    let k := h.core
    let c := s.core k
    let area := areaAddr c.cw.csh
    let bs := s.mem.bytes area 192
    let free := c.cw.cfc ≠ 0 ∧ c.cw.cfl ≠ 0 ∧ fld c.cw.cfc 15 0 ≠ 3 ∧ s.Area k c.secure (areaAddr c.cw.cfl)
    let held (kind : Nat) := c.cw.csh ≠ 0 ∧ s.Area k c.secure area ∧ s.Drained ∧ fld (areaHdr bs) 63 62 = kind
    ∃ s1, s.Fetches h s1 ∧
      (let fin (u : State) : Host.Outcome State Fault Refusal := .next (s.retired s1 h u .seq).settle
      (free → ∃ link s2, s1.saveArea k c.secure c.cw.csh (lowerHdr c.secure false) (lowerWords c.bank (c.bank.pc + 4) c.bank.ms c.cw.esyn c.cw.eaddr) =
          .saved (areaAddr c.cw.cfl) link s2 ∧
        exec (.svl h 0) s0 = fin (s2.modCore k (fun c' => c'.linkArea c.secure (areaAddr c.cw.cfl) link))) ∧
      (free → ∃ link s2, s1.saveArea k c.secure c.cw.csh (upperHdr c.secure false (fld c.sstat 2 0) c.cw) (upperWords c.cw c.q) = .saved (areaAddr c.cw.cfl) link s2 ∧
        exec (.svu h 0) s0 = fin (s2.modCore k (fun c' => c'.linkArea c.secure (areaAddr c.cw.cfl) link))) ∧
      (held 1 → ∃ s2, s1.areaRead k c.secure area = .ok bs s2 ∧
        exec (.rsl h 0) s0 = fin (((s2.modCore k (fun c' => c'.modBank (fun b => b.restore (areaWords bs) c'.secure false))).freeArea k c.secure
          area (word (leAt bs 0 8))).modCore k (fun c => { c with early := [] }))) ∧
      (held 2 → ∃ s2, (s1.onDev (fun d => d.setCslu k { d.cslu k with segDirty := true, strDirty := true })).areaRead k c.secure area = .ok bs s2 ∧
        exec (.rsu h 0) s0 = fin (((s2.modCore k (fun c => if isSvc k then c.modCw (fun w => w.loadSegs bs) else (c.modCw (fun w => w.loadSegs bs)).loadStream bs)).freeArea k c.secure
          area (word (leAt bs 0 8))).modCore k (fun c => { c with early := [] })))))

/-- On a core that executes it, each atomic of size .W or .D whose operand is aligned and can be read and written completes
with the one read and write of its row: SWAP writes A, CAS writes X when the old value equals A and tells in T, LDADD, LDAND
and LDOR write the sum, conjunction or disjunction with A. (R144, R214, R253, R254, R98, R119.) -/
def Obligations.AtomicInstructionsComplete : Prop :=
  ∀ (s0 s : State) (h : Hd) (o : AtomOp), s = s0.shed h → s.Executes h false → h.short = false → o.mode.toNat ≤ 7 → 2 ≤ o.size.toNat → (o.ov = true ∨ o.seg = 0) →
    (o.mode.toNat ≤ 2 ∨ o.d5 = 0) →
    let n := szBytes o.size
    let e := (s.core h.core).bank.ea o.mode.toNat (o.d5.signExtend 64) 0 o.ov o.seg.toNat n
    s.CanModify h.core e.seg e.off n (some 1) true →
    ∃ s1, s.Fetches h s1 ∧
      (let does (i : Instr) (f : Bank → Nat → Nat → Option Nat × Bank) : Prop :=
        ∃ u, s1.atomic h o f = .ok .seq u ∧ exec i s0 = .next (s.retired s1 h u .seq).settle
      does (.swap h o) (fun b _ n => (some (lowBytes b.a n), b)) ∧
      does (.cas h o) (fun b old n => if old = lowBytes b.a n then (some (lowBytes b.x n), { b with fl := setBit b.fl flT true })
        else (none, { b with fl := setBit b.fl flT false })) ∧
      does (.ldadd h o) (fun b old n => (some ((old + lowBytes b.a n) % 2 ^ (8 * n)), b)) ∧
      does (.ldand h o) (fun b old n => (some (Nat.land old (lowBytes b.a n)), b)) ∧
      does (.ldor h o) (fun b old n => (some (Nat.lor old (lowBytes b.a n)), b)))

/-- An atomic whose operand passes its checks and lies in DRAM that answers, its line not poisoned, with no transaction in
progress and no store of its core waiting, completes: it gives A the old bytes of its operand, zero-extended, and writes the
value of its row to exactly the bytes of its operand, or nothing for a CAS that does not match; every other byte of memory
reads as before. (R144, R214, R253, R254.) -/
def Obligations.AtomicsReadAndWriteOnce : Prop :=
  ∀ (s : State) (h : Hd) (o : AtomOp) (f : Bank → Nat → Nat → Option Nat × Bank) (lin : Nat) (p : Piece), s.Calm → s.mem.wf = true →
    let k := h.core
    let n := szBytes o.size
    let e := (s.core k).bank.ea o.mode.toNat (o.d5.signExtend 64) 0 o.ov o.seg.toNat n
    (s.core k).sbuf = [] → (s.core k).run = .running → (s.core k).resolve e.seg e.off n .rmw (some 1) true = .ok (lin, [p]) → s.Reaches k p.pa n →
    let old := ofBytesLE (s.mem.bytes p.pa n)
    ∃ u, s.atomic h o f = .ok .seq u ∧ (u.core k).bank.a = word old ∧
      (∀ a, u.byte a = match (f (s.core k).bank old n).1 with
        | some v => if p.pa ≤ a ∧ a < p.pa + n then (bytesLE n v).getD (a - p.pa) 0 else s.byte a
        | none => s.byte a)

/-- On an application core in imprecise state that executes it, MOVB, FILLB, CMPB and SCANB complete with the block
instruction outstanding. BLOCK_ELEMENT of the oldest operation, when it is a block instruction: with A = 0 it writes the end
flags and takes it off the queue; otherwise, when the element's operands can be accessed, it moves, fills, compares or looks
at one element, counts A down and moves X and Y; an unequal pair of CMPB or a match of SCANB ends it at that element with its
flags, and so does A = 0 afterwards. (R145, R146, R163, R173, R98, R119.) -/
def Obligations.BlockInstructionsComplete : Prop :=
  (∀ (s0 s : State) (h : Hd) (o : BlockOp), s = s0.shed h → s.Executes h false → h.short = false → o.bit19 = false → (o.dov = true ∨ o.dseg = 0) → (o.sov = true ∨ o.sseg = 0) →
    bit (s.core h.core).lopstat 63 = false → isSvc h.core = false →
    ∃ s1, s.Fetches h s1 ∧
      (let b := (s.core h.core).bank
      let out (op : Nat) : Host.Outcome State Fault Refusal := .next (s.retired s1 h (s1.modCore h.core (fun c => { c with lops := c.lops ++
        [{ LongOp.new 6 (tA + tX + tY + tZN + tV + tCT) b.pc with block := some (op, o), loops := some (b.lc, b.ldepth) }] })) .seq).settle
      exec (.movb h o) s0 = out 0 ∧ exec (.fillb h o) s0 = out 1 ∧ exec (.cmpb h o) s0 = out 2 ∧ exec (.scanb h o) s0 = out 3)) ∧
  (∀ (s : State) (k op : Nat) (o : LongOp) (bo : BlockOp) (rest : List LongOp), (s.core k).lops = o :: rest → o.block = some (op, bo) →
    let left (u : State) (l : List LongOp) : State := u.modCore k (fun c => { c with lops := l })
    let s0 := left s []
    let b := (s.core k).bank
    let n := szBytes bo.size
    let x := if bo.dir then b.x - word n else b.x
    let y := if bo.dir then b.y - word n else b.y
    let x' := if bo.dir then x else b.x + word n
    let y' := if bo.dir then y else b.y + word n
    let ends (u : State) : State := left (u.modBank k (fun b => { b with fl := blkEnd op b.fl })) rest
    let goes (u : State) : State := if b.a = 1 then ends u else left u (o :: rest)
    (b.a = 0 → exec (.blockElement k) s = .next (ends s0).settle) ∧
    (b.a ≠ 0 → s.Calm → (s.core k).wpHit = none → (s.core k).TlbCopied →
      (op = 0 → s.CanLoad k (blkSrc bo) x n → s.CanStore k (blkDst bo) y n →
        ∃ v s1 s2, s0.load k (blkSrc bo) x n false = .ok v s1 ∧ s1.store k (blkDst bo) y n v false = .ok () s2 ∧
          exec (.blockElement k) s = .next (goes (s2.modBank k (fun b => { b with a := b.a - 1, x := x', y := y' }))).settle) ∧
      (op = 1 → s.CanStore k (blkDst bo) y n →
        ∃ s2, s0.store k (blkDst bo) y n (b.x.toNat % 2 ^ (8 * n)) false = .ok () s2 ∧
          exec (.blockElement k) s = .next (goes (s2.modBank k (fun b => { b with a := b.a - 1, y := y' }))).settle) ∧
      (op = 2 → s.CanLoad k (blkSrc bo) x n → s.CanLoad k (blkDst bo) y n →
        ∃ v1 v2 s1 s2, s0.load k (blkSrc bo) x n false = .ok v1 s1 ∧ s1.load k (blkDst bo) y n false = .ok v2 s2 ∧
          (v1 = v2 → exec (.blockElement k) s = .next (goes (s2.modBank k (fun b => { b with a := b.a - 1, x := x', y := y' }))).settle) ∧
          (v1 ≠ v2 → exec (.blockElement k) s = .next (left (s2.modBank k (fun b => { b with
            x := x, y := y, fl := setBit (subFl (word v1) (word v2) false b.fl).2 flT false })) rest).settle)) ∧
      (op = 3 → s.CanLoad k (blkDst bo) y n →
        ∃ v s1, s0.load k (blkDst bo) y n false = .ok v s1 ∧
          (v = b.x.toNat % 2 ^ (8 * n) → exec (.blockElement k) s = .next (left (s1.modBank k (fun b => { b with
            y := y, fl := setBit (setBit b.fl flZ true) flT false })) rest).settle) ∧
          (v ≠ b.x.toNat % 2 ^ (8 * n) → exec (.blockElement k) s = .next (goes (s1.modBank k (fun b => { b with a := b.a - 1, y := y' }))).settle))))

/-- On a core that executes it, SCALL in user or supervisor mode raises vector 17, MCALL in supervisor mode of either world
raises vector 18, MCALL in user mode raises privilege, and both in monitor mode raise illegal instruction, whose target from
there is monitor. (R115.) -/
def Obligations.SystemCallsByMode : Prop :=
  ∀ (s0 s : State) (h : Hd) (imm : BitVec 7), s = s0.shed h → s.Executes h false → h.short = true →
    let k := h.core
    let c := s.core k
    ∃ s1, s.Fetches h s1 ∧
      (let raised (u : State) (t : Trap) (pc : Word) : Host.Outcome State Fault Refusal := .next (u.takeException k t pc).settle
      let next := c.bank.pc + 2
      (c.mode = 0 ∨ c.mode = 1 →
        exec (.scall h imm) s0 = raised (s1.undone k) { Trap.plain 17 with next := true, detail := imm.toNat, tgt := some (1, c.secure) } next) ∧
      (c.mode = 1 → exec (.mcall h imm) s0 = raised (s1.undone k) { Trap.plain 18 with next := true, detail := imm.toNat, tgt := some (3, true) } next) ∧
      (c.mode = 0 → exec (.mcall h imm) s0 = raised s1 (Trap.plain 3) (s.start h)) ∧
      (c.mode = 3 → exec (.scall h imm) s0 = raised s1 (Trap.plain 2) (s.start h) ∧ exec (.mcall h imm) s0 = raised s1 (Trap.plain 2) (s.start h) ∧
        c.excTarget (Trap.plain 2) = (3, c.secure)))

/-- On a core that executes it, in user mode MTC to MS raises privilege and MFC from MS completes with MS in A; in the normal
world, outside user mode, MTC to MS completes with no exception and SIE keeps its value. (R93.) -/
def Obligations.StatusRegisterByModeAndWorld : Prop :=
  ∀ (s0 s : State) (h : Hd), s = s0.shed h → s.Executes h false → h.short = false →
    let k := h.core
    let c := s.core k
    ∃ s1, s.Fetches h s1 ∧
      (c.mode = 0 → exec (.mtc h 0) s0 = .next (s1.takeException k (Trap.plain 3) (s.start h)).settle) ∧
      (c.mode = 0 → exec (.mfc h 0) s0 = .next (s.bankDone s1 h (fun b => { b with a := b.ms }))) ∧
      (c.mode ≠ 0 → c.secure = false → ∃ u : State, exec (.mtc h 0) s0 = .next (s.retired s1 h u .seq).settle ∧
        bit (u.core k).bank.ms 5 = bit c.bank.ms 5)

/-- An access of an offset that names no register, or of a register of an instance that its block lists as absent, reads as
zero and changes nothing, not even a count of refusals; so do an export that does not exist and LANE.SPARE outside a spare
lane's block. (R506.) -/
def Obligations.UnnamedRegisterOffsets : Prop :=
  ∀ (s : State) (rq : Req) (size : Nat) (v : Word),
    let blank (off : Nat) : Prop := s.regRead rq off size = (0, s) ∧ s.regWrite rq off size v = s
    (∀ off, regAt (off / 8 * 8) = none → blank off) ∧
    (∀ off b i o r, regAt (off / 8 * 8) = some (b, i, o, r) → s.dev.present b i o = false → blank off) ∧
    (∀ n, n < 256 → (exports s.dev.felt.cfg).length ≤ n → blank (R.wxExpctl n)) ∧
    (∀ l, l < 136 → l % 17 ≠ 16 → blank (R.laneSpare l))

/-- At a boundary of a core whose long operations, none of them a block instruction, succeed: TAKE_INTERRUPT of the source
that is next takes vector 19 or 20 with its number and, unless the entry stops the core, makes the source active;
FAST_INTERRUPT enters B1 at the vector of the source's world, or in B1, and on a core with one bank, is a bank nesting error;
MACHINE_CHECK_ASYNC takes vector 1 with the record's number; SINGLE_STEP takes vector 16; DEBUG_HALT halts a core whose pond's
invasive enable is 1. The long operations complete first. (That a core with one bank has a bank nesting error is the model's
choice, log entry 122.) A fast interrupt taken in B0 switches to B1 with PC at VBASE + 336 of the source's world, MS
supervisor of that world with IE = 0 and BANK = 1, and FL zero; B1's A, X, Y, SP and loop registers, all of B0, the registers
of both worlds and the stream lanes keep their values. (R94, R109, R111, R120, R122, R272, R482, R434.) -/
def Obligations.CoreEventsAreTaken : Prop :=
  (
  ∀ (s : State) (k : Nat), s.atBoundary k = true → (∀ o ∈ (s.core k).lops, o.block = none ∧ o.fail = none) →
    ∃ s1, s.quiesce k = .clear s1 ∧ (s1.core k).lops = [] ∧ ((s.core k).lops = [] → s1 = s) ∧
    (∀ n, (s.core k).mcNext = none → s.fastNext k = none → s.irqNext k = some n →
      ∀ s2 : State, s2 = s1.takeException k { Trap.plain (if s.dev.srcSecure n then 20 else 19) with
        next := true, detail := n
        tgt := some (if s.dev.srcSecure n then (if (s.core k).secure = false ∨ (s.core k).mode = 3 then (3, true) else (1, true)) else (1, false)) } (s1.core k).bank.pc →
      exec (.takeInterrupt k) s = .next (if (s2.core k).run = .stopped then s2 else s2.onDev (fun d => d.takeSrc n)).settle) ∧
    (isSvc k = true → exec (.fastInterrupt k) s = .next (s1.bankNest k 1 21 true).settle) ∧
    (∀ n, isSvc k = false → (s.core k).mcNext = none → s.fastNext k = some n →
      ((s.core k).inB1 = false → exec (.fastInterrupt k) s = .next ((s1.modCore k (fun c => { (c.fastEntry (s.dev.srcSecure n)) with ssPend := false })).onDev
        (fun d => (d.takeSrc n).setRf (R.cluIrqcore (k / 8) (k % 8)) 10 0 n)).settle) ∧
      ((s.core k).inB1 = true → exec (.fastInterrupt k) s = .next (s1.bankNest k 1 21 (s.dev.srcSecure n)).settle)) ∧
    (∀ m, (s.core k).mcNext = some m →
      exec (.machineCheckAsync k) s = .next ((s1.modCore k (fun c => { c with mcPend := c.mcPend.erase m })).takeException k
        { Trap.plain 1 with next := true, eaddr := word m.addr, detail := m.seq
                            tgt := if m.secure = true ∧ (s.core k).secure = false then some (3, true) else none } (s1.core k).bank.pc).settle) ∧
    ((s.core k).ssPend = true → (s.core k).mcNext = none → s.fastNext k = none → s.irqNext k = none →
      exec (.singleStep k) s = .next (s1.takeException k { Trap.plain 16 with next := true } (s1.core k).bank.pc).settle) ∧
    ((s.core k).haltReq = true → s.invasive k = true → exec (.debugHalt k) s = .next (s1.halt k 1).settle)) ∧
  (
  ∀ (c : Core) (sec : Bool), c.inB1 = false →
    let c' := c.fastEntry sec
    c'.inB1 = true ∧ c'.b1.pc = (c.wr sec).vbase + 336 ∧ fld c'.b1.ms 1 0 = 1 ∧ bit c'.b1.ms 2 = sec ∧ bit c'.b1.ms 3 = false ∧ bit c'.b1.ms 6 = true ∧ c'.b1.fl = 0 ∧
    c'.b1.a = c.b1.a ∧ c'.b1.x = c.b1.x ∧ c'.b1.y = c.b1.y ∧ c'.b1.sp = c.b1.sp ∧ c'.b1.ls = c.b1.ls ∧ c'.b1.le = c.b1.le ∧ c'.b1.lc = c.b1.lc ∧
    c'.b0 = c.b0 ∧ c'.nrm = c.nrm ∧ c'.sec = c.sec ∧ c'.q = c.q ∧ c'.sbuf = c.sbuf)

/-- READ_RESPONSE keeps the bytes a later read will return; HALTREQ, RESUME and RDATA_ACCESS are their register accesses, a
read leaving its value at the debug port; DEBUG_PORT_ACCESS of an admitted register performs the access with the pond's tag;
CORE_RESET drains the core's stores and starts it afresh, CORE_RESET_DRAIN_TIMEOUT resets it with the remaining stores
discarded and reported; TLBINV_B_ARRIVAL drops the entries, performs the stores and sets the guard, and answers once no access
of the core outside the device is under way; TLBINV_B_TIMEOUT reports the clusters that did not answer and takes a machine
check. (R210, R211, R231, R265, R196, R200, R202, R431, R433, R434.) -/
def Obligations.CoresAreReachedFromOutside : Prop :=
  ∀ (s : State) (k : Nat),
    (∀ pa n, s.runs k = true → isSvc k = false → n = 1 ∨ n = 2 ∨ n = 4 ∨ n = 8 → pa % 8 + n ≤ 8 → s.Calm → s.Reaches k pa n →
      (∀ st ∈ (s.core k).sbuf, st.lag = none → st.hits pa n = false) → (∀ e ∈ (s.core k).early, e.pa + e.bytes.length ≤ pa ∨ pa + n ≤ e.pa) →
      ∃ bs s1, s.pread k (s.dev.coreQos k) (s.dev.coreReq k (s.core k).secure) 0 pa n = (.ok bs, s1) ∧
        exec (.readResponse k pa n) s = .next (s1.modCore k (fun c => { c with early := c.early ++ [{ pa := pa, bytes := bs }] })).settle) ∧
    (∀ rq, exec (.haltreq rq k) s = .next (s.regWrite rq (R.dbgCtl k) 8 (setBit (s.dev.reg (R.dbgCtl k) &&& 0x3000000000000000#64) 63 true)).settle ∧
      exec (.resume rq k) s = .next (s.regWrite rq (R.dbgCtl k) 8 (setBit (s.dev.reg (R.dbgCtl k) &&& 0x3000000000000000#64) 62 true)).settle) ∧
    (∀ rq v, exec (.rdataAccess rq k true v) s = .next (s.regWrite rq (R.dbgRdata k) 8 v).settle ∧
      exec (.rdataAccess rq k false v) s = .next ((s.regRead rq (R.dbgRdata k) 8).2.onDev (fun d =>
        { d with pins := { d.pins with dr := (s.regRead rq (R.dbgRdata k) 8).1 } })).settle) ∧
    (∀ pond sec addr v rq, rq = { pond := pond, secure := sec, dev := false, dbg := true } → s.dev.pins.jins = .debug → s.Open rq addr 8 →
      (s.dev.portAdmits pond sec addr true = true → ∃ s1, s.agentWrite rq addr (bytesLE 8 v.toNat) none = (0, s1) ∧
        exec (.debugPortAccess pond sec addr 8 true v) s = .next (s1.onDev (fun d => { d with pins := { d.pins with dr := 0, dstat := 0 } })).settle) ∧
      (s.dev.portAdmits pond sec addr false = true → (∀ l ∈ linesOf addr 8, s.mem.Unpoisoned l) →
        exec (.debugPortAccess pond sec addr 8 false v) s = .next ((s.readNote rq addr 8).onDev (fun d =>
          { d with pins := { d.pins with dr := word (ofBytesLE (s.mem.bytes addr 8)), dstat := 0 } })).settle)) ∧
    (s.resetDue k = true → exec (.coreReset k) s = .next ((s.drainStores k).resetCore k).settle) ∧
    (s.resetDue k = true → ∀ s1 left, s1 = s.performWhere k (fun st => st.must) → left = ((s1.core k).sbuf.filter (fun st => decide (st.lag = none))).map (·.grp) →
      exec (.coreResetDrainTimeout k) s = .next ((if left = [] then s1 else s1.reportDiscard k left.eraseDups.length).resetCore k).settle) ∧
    (∀ r rest, (s.core k).tlbWait = r :: rest →
      let s1 := (s.drainStores k).modCore k (fun c => { (c.tlbDrop r) with guard := true, early := [] })
      ((∃ e ∈ s.dev.ext, e.agent = k ∧ e.st ≠ .finished) → exec (.tlbinvBArrival k) s = .next s1.settle) ∧
      ((∀ e ∈ s.dev.ext, e.agent = k → e.st = .finished) → exec (.tlbinvBArrival k) s = .next ((s1.modCore k (fun c => { c with tlbWait := rest })).tlbAck k r).settle)) ∧
    (∀ j js, (s.core k).tlbOut = some (j :: js) → ∃ u : State, (u.core k).tlbOut = none ∧ u.mem = s.mem ∧ u.dev.err.waiting.length = s.dev.err.waiting.length + 1 ∧
      exec (.tlbinvBTimeout k) s = .next (u.takeException k (Trap.check 0 5 0) (u.core k).bank.pc).settle)

/-- SLUICE_EVENT is the sluice's reception of the event; SWITCH_OUT at an eligible boundary saves a context that is to leave,
SLICE_EXPIRY assigns the core to a ready context of equal priority, CONTEXT_RESTORE restores the one assigned to an idle core;
each CTXCMD row acts on the selected slot while GO names it, with the state change of its row and its status; an expired timer
raises its event and reloads or stops; the placement interval moves what it may and counts the holds down. (R274, R275, R276,
R277, R278, R280, R281, R282, R283, R287, R526.) -/
def Obligations.SluiceCommandsComplete : Prop :=
  ∀ (s : State) (c : Nat),
    (∀ ev, exec (.sluiceEvent ev) s = .next (s.onDev (fun d => (d.sluiceEvent ev).2)).settle) ∧
    (∀ k x, (s.dev.cslu k).ctx = some x → s.eligible k = true → s.leaveDue k x = true →
      (cfcOf (s.core k) (s.dev.ctxSecure x) < 4 → exec (.switchOut k) s = .next (s.withhold k x).settle) ∧
      (4 ≤ cfcOf (s.core k) (s.dev.ctxSecure x) → (∀ o ∈ (s.core k).lops, o.block = none ∧ o.fail = none) →
        ∃ s1, s.quiesce k = .clear s1 ∧
          (s.dev.ctxState x ≠ stRunning → exec (.switchOut k) s = .next ((s1.switchOut k x).1).settle) ∧
          (s.dev.ctxState x = stRunning → exec (.switchOut k) s = .next (if (s1.switchOut k x).2 then
            (s1.switchOut k x).1.onDev (fun d => d.makeReady x false) else (s1.switchOut k x).1).settle))) ∧
    (∀ k x, (s.dev.cslu k).assigned = some x → s.eligible k = true → (s.dev.cslu k).ctx = none → (s.core k).run = .idle →
      exec (.contextRestore k) s = .next (s.restoreCtx k x).settle) ∧
    (∀ k x e, (s.dev.cslu k).ctx = some x → s.dev.rf (R.cluSlice (k / 8)) 15 0 ≠ 0 → (s.dev.cslu k).assigned = none → s.dev.ctxState x = stRunning →
      (s.dev.ready (k / 8)).find? (fun e => decide (e.2 = s.dev.ctxPrio x) && decide (s.dev.runner e.1 = none)) = some e → 4 ≤ cfcOf (s.core k) (s.dev.ctxSecure x) →
      exec (.sliceExpiry k) s = .next (s.onDev (fun d => (d.unready e.1).setCslu k { s.dev.cslu k with assigned := some e.1 })).settle) ∧
    (bit (s.dev.reg (R.cluPlacectl c)) 63 = true → ∃ u : State, exec (.placementInterval c) s = .next u.settle ∧ u.mem = s.mem ∧ u.cores = s.cores ∧
      (s.dev.heldSlots c = [] → u = s)) ∧
    (∀ n, bit (s.dev.reg (R.cluCtxcmd c)) 63 = true → fld (s.dev.reg (R.cluCtxcmd c)) 3 0 = n →
      let k := s.dev.selHolder c
      let done' (f : Dev → Dev) (st slot : Nat) : Host.Outcome State Fault Refusal := .next (s.onDev (fun d => (f d).ctxDone c st slot)).settle
      (n = 1 → s.dev.ctxState k = stFree → s.Open (s.createReq c k) (areaAddr (s.dev.cd k 1)) 192 →
        (∀ l ∈ linesOf (areaAddr (s.dev.cd k 1)) 192, s.mem.Unpoisoned l) → bit (s.dev.reg (R.cluCtxcmd c)) 8 = false →
        (∀ bs m, bs = s.mem.bytes (areaAddr (s.dev.cd k 1)) 192 → m = (areaWords bs).getD 18 0 → fld (areaHdr bs) 63 62 = 1 ∧
          bit (areaHdr bs) 61 = s.dev.ctxSecure k ∧ bit m 2 = s.dev.ctxSecure k ∧ fld m 1 0 ≠ 3) →
        exec (.ctxCreate c) s = .next ((s.createNote c k).onDev (fun d => (d.setCtxState k stWaiting).ctxDone c 0 k)).settle) ∧
      (n = 2 → ∀ r, r = s.dev.sluiceEvent { kind := 6, src := 0xFFFF, angle := s.dev.reg R.atbNow, cluster := c, slot := s.dev.rf (R.cluCtxsel c) 9 0
                                            pond := (clusterOwner s.dev.felt.cfg c).getD 32 } →
        exec (.ctxWake c) s = .next ({ s with dev := r.2.ctxDone c r.1 0 } : State).settle) ∧
      (n = 3 → s.dev.ctxState k = stWaiting ∨ s.dev.ctxState k = stReady → s.dev.runner k = none → s.dev.assignee k = none →
        exec (.ctxStop c) s = done' (fun d => (d.unready k).setCtxState k stStopped) 0 0) ∧
      (n = 4 → s.dev.ctxState k = stStopped → s.dev.runner k = none → exec (.ctxStart c) s = done' (fun d => d.makeReady k false) 0 0) ∧
      (n = 5 → s.dev.ctxState k = stStopped → s.dev.runner k = none →
        exec (.ctxRelease c) s = done' (fun d => (d.dropHolds (s.dev.ctx k).home).freeCtx k) 0 0) ∧
      (n = 6 → ∀ dst t, dst = s.dev.rf (R.cluCtxcmd c) 36 32 → s.dev.ctxState k = stWaiting ∨ s.dev.ctxState k = stReady ∨ s.dev.ctxState k = stStopped →
        s.dev.runner k = none → s.dev.assignee k = none → clusterOwner s.dev.felt.cfg dst = clusterOwner s.dev.felt.cfg c → s.dev.part.order.cluster dst = true →
        dst ≠ k / 1024 → (if dst = (s.dev.ctx k).home / 1024 then some (s.dev.ctx k).home else s.dev.freeSlot dst) = some t →
        exec (.ctxMove c) s = done' (fun d => (d.dropHolds (s.dev.ctx k).home).migrate k t) 0 0)) ∧
    (∀ rq j v, j < 8 → exec (.ctxdataWrite rq c j v) s = .next (s.regWrite rq (R.cluCtxdata c j) 8 v).settle) ∧
    (∀ i, i < 16 → bit (s.dev.reg (R.cluTmrctl c i)) 63 = true → s.dev.rf (R.cluTmrcnt c i) 31 0 = 0 →
      exec (.clusterTimerExpiry c i) s = .next (s.onDev (fun d =>
        ((if bit (s.dev.reg (R.cluTmrctl c i)) 62 then d.setRf (R.cluTmrcnt c i) 31 0 (max 1000 (d.rf (R.cluTmrcnt c i) 63 32)) else d.setRf (R.cluTmrctl c i) 63 63 0).sluiceEvent
          { kind := 5, src := i, angle := s.dev.reg R.atbNow, cluster := c, slot := fld (s.dev.reg (R.cluTmrctl c i)) 9 0
            pond := (clusterOwner s.dev.felt.cfg c).getD 32 }).2)).settle)

/-- An event for a context that is not FREE, STOPPED or AWAY, of the pond that owns the cluster, with room in the queue and in
the context's count, joins the tail of the cluster's queue and answers DONE; a WAITING context that no core runs becomes
READY. An event of another pond is refused with REFUSED_POLICY and changes nothing; one without room answers REFUSED_FULL and
is not queued. (R277, R278, R526.) -/
def Obligations.SluiceReceptionOfAnEvent : Prop :=
  ∀ (d : Dev) (ev : SluiceEv), ev.cluster < 32 → ev.slot < 1024 →
    let k := d.holder (slotKey ev.cluster ev.slot)
    let c := k / 1024
    let named := clusterOwner d.felt.cfg ev.cluster = some ev.pond ∧ clusterOwner d.felt.cfg c = some ev.pond
    (¬ named → d.sluiceEvent ev = (3, d)) ∧
    (named → d.ctxState k = stFree ∨ d.ctxState k = stStopped ∨ d.ctxState k = stAway → d.sluiceEvent ev = (3, d)) ∧
    (named → d.ctxState k = stReady ∨ d.ctxState k = stRunning → (d.evq c).length < 256 → fld (d.cd k 0) 31 24 < 255 →
      (d.sluiceEvent ev).1 = 0 ∧ (d.sluiceEvent ev).2.evq c = d.evq c ++ [{ kind := ev.kind, src := ev.src, angle := ev.angle, slot := k }]) ∧
    (named → d.ctxState k ≠ stFree → d.ctxState k ≠ stStopped → d.ctxState k ≠ stAway → 256 ≤ (d.evq c).length →
      (d.sluiceEvent ev).1 = 2 ∧ (d.sluiceEvent ev).2.evq c = d.evq c)

/-- SOURCE_EDGE changes the input of a source; EOI, PENDSET, PENDCLR, MASKSET and MASKCLR are writes of their registers, which
for a requester that reaches every bit end the source, or set or clear the bits; BOUND_EVENT_REOFFER offers again the refused
sources bound to contexts of a cluster whose queue has room. (R267, R268, R269, R273, R505.) -/
def Obligations.InterruptRowsComplete : Prop :=
  ∀ (s : State) (rq : Req) (n j : Nat) (v : Word), n < 2048 → j < 32 →
    (∀ level, exec (.sourceEdge n level) s = .next (s.onDev (fun d => d.srcInput n level)).settle) ∧
    (exec (.eoi rq n) s = .next (s.regWrite rq R.icEoi 8 (word n)).settle) ∧
    (exec (.pendset rq j v) s = .next (s.regWrite rq (R.icPendset j) 8 v).settle) ∧
    (exec (.pendclr rq j v) s = .next (s.regWrite rq (R.icPendclr j) 8 v).settle) ∧
    (exec (.maskset rq j v) s = .next (s.regWrite rq (R.icMaskset j) 8 v).settle) ∧
    (exec (.maskclr rq j v) s = .next (s.regWrite rq (R.icMaskclr j) 8 v).settle) ∧
    (∀ c, (s.dev.evq c).length < 256 → ∃ u : State, exec (.boundEventReoffer c) s = .next u.settle ∧ u.mem = s.mem ∧ u.cores = s.cores ∧ u.dev.regs = s.dev.regs ∧
      ∀ e ∈ u.dev.ic.refused, e ∈ s.dev.ic.refused ∧ ¬ (bit (s.dev.srcCfg e.1) 31 = true ∧
        s.dev.holder (slotKey (fld (s.dev.srcCfg e.1) 30 26) (fld (s.dev.srcCfg e.1) 25 16)) / 1024 = c)) ∧
    (rq.dev = true →
      (s.dev.active n = true → Tab.rising 0 s.dev.regs = true → (s.regWrite rq R.icEoi 8 (word n)).dev.active n = false) ∧
      s.regWrite rq (R.icPendset j) 8 v = s.onDev (fun d => d.icBits (0x100 + 8 * j) v) ∧
      s.regWrite rq (R.icPendclr j) 8 v = s.onDev (fun d => d.icBits (0x200 + 8 * j) v) ∧
      s.regWrite rq (R.icMaskset j) 8 v = s.onDev (fun d => d.setReg (R.icMaskset j) (d.reg (R.icMaskset j) ||| v)) ∧
      s.regWrite rq (R.icMaskclr j) 8 v = s.onDev (fun d => d.setReg (R.icMaskset j) (d.reg (R.icMaskset j) &&& ~~~v)))

/-- An EVALUATION_CYCLE of a live source keeps its reason when it is invalid, clearing the count of good cycles, and when it
is valid records the angle that its samples give and lets the tracker follow: it tracks the selected source, hands over to a
better one that has been valid for 50 cycles, and begins to follow the best source from FREE or HOLD. SOURCE_LOST of the
followed source hands over to the best valid one or enters HOLD (that the count is then 0 is the model's choice, log entry
242); HOLDOVER_EXPIRY enters FREE with the ramp to nominal; ENCODER_EDGE counts; an armed mark that is due and first in order
fires; the setting, mark and PTP rows are writes of their registers. (R70, R71, R72, R73, R74, R76, R77, R78, R83, R85, R377.)
-/
def Obligations.TimeBaseCommandsComplete : Prop :=
  ∀ (s : State),
    (∀ p obs kind inst nominal sel, p < 8 → atbSource s.dev.felt.cfg p = some (kind, inst, nominal, sel) → s.dev.srcDead kind inst = false →
      (kind = 1 → s.dev.atb.uncal = false) →
      let seen : AtbSt := if kind = 4 then { s.dev.atb with enc := 0, rev := false } else if kind = 5 then { s.dev.atb with sync := 0 } else s.dev.atb
      let reason := s.dev.cycleReason p kind inst nominal sel obs
      (reason ≠ 0 → exec (.evaluationCycle p obs) s = .next (s.onDev (fun d =>
        let d1 := ({ d with atb := seen } : Dev).srcCycle p reason
        let d2 := d1.setSrc p { d1.src p with good := 0 }
        if (d2.atbState = 1 ∨ d2.atbState = 2) ∧ p = d2.atbSel then { d2 with atb := { d2.atb with mean := d2.atbFreq } } else d2)).settle) ∧
      (reason = 0 → exec (.evaluationCycle p obs) s = .next (s.onDev (fun d =>
        ((({ d with atb := seen } : Dev).srcCycle p 0).setSrc p (d.srcSample p kind nominal obs)).atbCycle p)).settle)) ∧
    (∀ (d : Dev) p,
      (d.atbState = 1 ∨ d.atbState = 2 → p = d.atbSel → d.atbCycle p = d.atbTrack p) ∧
      (d.atbState = 1 ∨ d.atbState = 2 → d.atbSel < p → d.atbCycle p = d) ∧
      (d.atbState = 1 ∨ d.atbState = 2 → p < d.atbSel → d.srcValid p = true → 50 ≤ d.rf (R.atbSrcstat p) 23 16 → d.atbCycle p = (d.atbFollow p true).1.atbEvent 3) ∧
      (d.atbState = 0 ∨ d.atbState = 3 → d.bestSrc = none → d.atbCycle p = d) ∧
      (∀ b, d.atbState = 0 ∨ d.atbState = 3 → d.bestSrc = some b →
        d.atbCycle p = if (d.atbFollow b false).2 then (d.atbFollow b false).1.atbEvent 0 else (d.atbFollow b false).1)) ∧
    (∀ p d, p < 8 → s.dev.srcValid p = true →
      d = (let d0 := (s.dev.setSrcValid p false).setRf (R.atbSrcstat p) 23 16 0
           if d0.rf (R.atbSrcstat p) 27 24 = 0 then d0.setRf (R.atbSrcstat p) 27 24 1 else d0) →
      (d.atbState = 1 ∨ d.atbState = 2 → d.atbSel = p → ∀ b, d.bestSrc = some b →
        exec (.sourceLost p) s = .next ({ s with dev := (((d.atbFollow b false).1).atbEvent 3).atbEvent 2 } : State).settle) ∧
      (d.atbState = 1 ∨ d.atbState = 2 → d.atbSel = p → d.bestSrc = none →
        exec (.sourceLost p) s = .next ({ s with dev := ((d.atbEnter 3 p).setReg R.atbFreq (word (if d.atbState = 1 then d.atb.fest else d.atb.mean))).atbEvent 2 } : State).settle) ∧
      (¬ ((d.atbState = 1 ∨ d.atbState = 2) ∧ d.atbSel = p) → exec (.sourceLost p) s = .next ({ s with dev := d } : State).settle)) ∧
    (s.dev.atbState = 3 → exec .holdoverExpiry s = .next (s.onDev (fun d => (({ d with atb := { d.atb with ramp := true, left := 0 } }).atbEnter 0 0).atbEvent 6)).settle) ∧
    (∀ rq j v, j < 4 → exec (.atbSettingWrite rq j v) s = .next (s.regWrite rq (R.atbHoldover + 8 * j) 8 v).settle) ∧
    (∀ fw, ∃ t, exec (.encoderEdge fw) s = .next t ∧ t.mem = s.mem ∧ t.cores = s.cores ∧ t.dev.regs = s.dev.regs ∧
      t.dev.atb.enc = s.dev.atb.enc + (if fw then 1 else -1) ∧ t.dev.atb.rev = (s.dev.atb.rev || !fw)) ∧
    (∀ scope n, (scope = 0xFF ∧ n < 64) ∨ (scope < 32 ∧ n < 16) → s.dev.markDue (mkCtl scope n) = true →
      (∀ c ∈ s.dev.armed, markBefore c (mkCtl scope n) = true → s.dev.markDue c = false) →
      let ctl := mkCtl scope n
      let angle := s.dev.reg (ctl + 8)
      exec (.markFire scope n) s = .next (((s.onDev (fun d =>
        let d0 : Dev := { d with atb := { d.atb with fired := ctl :: d.atb.fired } }
        (if bit (d.reg ctl) 30 then d0.setReg (ctl + 8) (angle + word (d.rf (ctl + 16) 31 0)) else d0.setRf ctl 31 31 0).wrapAdd
          (ctl + 24) 63 32 1)).markAct ctl angle).markApply (fun c => decide (c = ctl))).settle) ∧
    (∀ rq scope n j size v, (scope = 0xFF ∧ n < 64) ∨ (scope < 32 ∧ n < 16) → j < 4 →
      exec (.markRegisterWrite rq scope n j size v) s = .next (s.regWrite rq (mkCtl scope n + 8 * j) size v).settle) ∧
    (∀ rq v, exec (.ptpstep rq v) s = .next (s.regWrite rq R.exPtpstep 8 v).settle)

/-- With the ATB's domain on, its boot step past, RESET_N high and no write of a mark waiting, a tick adds the rate of
ATB.FREQ to the value and the 32 bits below it, counts EX.TICK, and changes neither memory, the cores, the fuses nor the
configuration; PROTECT_RISE and PROTECT_FALL follow the protect windows: they act exactly when the level and what is due
differ. (R65, R66, R67, R87.) -/
def Obligations.TickAdvancesTheTimeBase : Prop :=
  (∀ s : State, s.dev.domState 1 = 0 → 1 < s.dev.pwr.step → s.dev.pins.resetLow = false → Tab.rising 0 s.dev.regs = true → s.dev.atb.held = [] →
    ∃ t, exec .atbTick s = .next t ∧ t.mem = s.mem ∧ t.cores = s.cores ∧ t.fuses = s.fuses ∧ t.dev.felt = s.dev.felt ∧
      t.dev.now.toNat * 2 ^ 32 + t.dev.atb.sub = (s.dev.now.toNat * 2 ^ 32 + s.dev.atb.sub + s.dev.atbFreq * 2 ^ 64 / 10 ^ 15) % 2 ^ 96) ∧
  (∀ s : State, s.dev.protectDue = true → s.dev.protect = false → ∃ t, exec .protectRise s = .next t ∧ t.mem = s.mem ∧ t.cores = s.cores ∧ t.dev.regs =
    (s.dev.setRf R.atbWinstat 8 8 1).regs) ∧
  (∀ s : State, s.dev.protectDue = false → s.dev.protect = true → ∃ t, exec .protectFall s = .next t ∧ t.mem = s.mem ∧ t.cores = s.cores ∧ t.dev.regs =
    (s.dev.setRf R.atbWinstat 8 8 0).regs)

/-- An admitted request of a cache that misses, or of an agent without a cache, reaches its home; a snoop that is due is
answered unless an atomic keeps the line, when it waits; the hold's expiry answers it; an eviction of a line held in the row's
states leaves the cache and reaches the home; its acknowledgement frees the entry; a probe of the directory shows the entry of
its line; a flit with a good header check clears the count of failures of its link and is accepted, and one with a wrong one
is counted and asked for again. (R243, R244, R245, R247, R248, R249, R250, R254, R158, R20, R22, R24.) -/
def Obligations.CoherenceMessagesComplete : Prop :=
  ∀ (s : State) (agent line : Nat),
    (∀ rq qos, rq = s.dev.coreReq agent (s.core agent).secure → qos = s.dev.coreQos agent → s.maySend agent = true → s.Open rq (line * 64) 64 →
      (s.mem.l2st agent line = .i →
        exec (.getcopy agent line) s = .next ((s.noteMiss agent line).request agent line qos rq (Txn.plain .getCopy agent)).settle ∧
        exec (.getown agent line) s = .next ((s.noteMiss agent line).request agent line qos rq (Txn.plain .getOwn agent)).settle) ∧
      (s.mem.l2st agent line = .s → exec (.promote agent line) s = .next (s.request agent line qos rq (Txn.plain .promote agent)).settle)) ∧
    (∀ (f : Sender) rq0 rq a qos io, rq = s.senderReq f rq0 → a = senderAgent f → qos = s.dev.senderQos f → io = senderIo f →
      (s.Open rq (line * 64) 64 →
        exec (.peekline f rq0 line) s = .next (s.request a line qos rq { Txn.plain .peek a with io := io }).settle ∧
        ∀ (data : List Byte) wb room, data.length = 64 →
          exec (.putfull f rq0 line data none wb room) s = .next ((s.endLag (line * 64) 64).request a line qos rq (Txn.write 0 data none none io)).settle) ∧
      (∀ pa (data : List Byte), 1 ≤ data.length → pa % 64 + data.length ≤ 64 → s.Open rq pa data.length →
        exec (.putpartial f rq0 pa data) s = .next ((s.endLag pa data.length).request a (pa / 64) qos rq (Txn.write (pa % 64) data none none io)).settle)) ∧
    (∀ i kinds, (i = Instr.probedemote agent line ∧ kinds = [TxnKind.getCopy]) ∨ (i = Instr.probetake agent line ∧ kinds = [TxnKind.getOwn, .promote]) ∨
        (i = Instr.probepeek agent line ∧ kinds = [TxnKind.peek]) ∨ (i = Instr.probeclear agent line ∧ kinds = [TxnKind.put]) ∨
        (i = Instr.probeTake agent line ∧ kinds = [TxnKind.getOwn, .promote, .put]) → s.snoopDue agent line kinds = true →
      (s.holding agent line = [] → exec i s = .next (s.answer line agent).settle) ∧
      (s.holding agent line ≠ [] → exec i s = .next ((s.holding agent line).foldl (fun s k => s.modCore k (fun c => c.snoopWaits line)) s))) ∧
    (∀ ring, ring = 0x300 + agent / 64 → s.snoopDue agent line [.getOwn, .promote, .put] = false →
      (s.snoopDue ring line [.getOwn, .promote, .put] = false → exec (.probeTake agent line) s = .next (s.killOps agent line)) ∧
      (s.snoopDue ring line [.getOwn, .promote, .put] = true → s.holding ring line = [] → exec (.probeTake agent line) s = .next (s.answer line ring).settle)) ∧
    (∀ l w rest u, (s.core agent).hold = (l, w) :: rest → u = s.modCore agent (fun c => { c with hold := rest }) →
      (w = false → exec (.atomicHoldExpiry agent) s = .next u) ∧
      (w = true → u.snoopDue agent l [.getCopy, .getOwn, .promote, .peek, .put] = true → u.holding agent l = [] →
        exec (.atomicHoldExpiry agent) s = .next (u.answer l agent).settle)) ∧
    (s.dev.isCache agent = true →
      (s.mem.l2st agent line = .m → exec (.dropdirty agent line) s = .next (s.evictLine agent line).settle) ∧
      (s.mem.l2st agent line = .e ∨ s.mem.l2st agent line = .s → exec (.dropclean agent line) s = .next (s.evictLine agent line).settle)) ∧
    (s.mem.evq = [] → ∃ t, exec (.evictionAck agent line) s = .next t ∧ t.mem.img = s.mem.img ∧ t.dev = s.dev ∧
      ∀ w, w ∈ t.mem.wb ↔ w ∈ s.mem.wb ∧ ¬ (w.agent = agent ∧ w.line = line ∧ w.acked = true)) ∧
    (s.mem.evq ≠ [] → exec (.evictionAck agent line) s = .next ((s.onMem (fun m => m.freeWb agent line)).evictNext agent).settle) ∧
    (∀ sl v, s.dev.reg (R.llcDirprobe sl) = v → bit v 63 = true → ∀ hit, hit = (decide (s.dev.home (fld v 51 6 * 64) = sl) && (s.mem.dirE (fld v 51 6)).held) →
      exec (.dirprobe sl) s = .next (s.onDev (fun d => (d.setReg (R.llcDirprobe sl) (setBit (setBit v 63 false) 62 hit)).setReg (R.llcDirdata sl)
        (if hit then s.mem.dirWord (fld v 51 6) else 0))).settle) ∧
    (∀ stop port (flit : Flit) n, stop < 64 → port < 4 → n = Tab.get (fun _ => 0) s.dev.net (4 * stop + port) → n < 3 →
      (flit.hchk = flitCheck flit.head → exec (.flitReceive stop port flit []) s =
        .next (({ s with dev := { s.dev with net := Tab.set (fun _ => 0) s.dev.net (4 * stop + port) 0 } } : State).flitAccept stop port
          { head := flit.head, pay := flit.pay, wait := 0 }).settle) ∧
      (flit.hchk ≠ flitCheck flit.head → n < 2 → ∃ u : State, exec (.flitReceive stop port flit []) s = .next u.settle ∧ u.mem = s.mem ∧ u.cores = s.cores ∧
        Tab.get (fun _ => 0) u.dev.net (4 * stop + port) = n + 1 ∧
        Tab.get (fun _ => false) u.dev.noc.resend (4 * (feeder stop port).1 + (feeder stop port).2) = true))

/-- A GetCopy or GetOwn that its home serves for a cache that has room for the line, of a line that no cache holds and on
which nothing is in progress, with a tracker free and no eviction waiting, leaves the line with that cache as its owner, in E,
and changes no byte of memory, no poison of DRAM and no other line's state in any cache. (R233, R236, R244, R246.) -/
def Obligations.GrantOfALine : Prop :=
  ∀ (s : State) (agent line : Nat) (kind : TxnKind), kind = .getCopy ∨ kind = .getOwn → s.mem.dirE line = DirEnt.none → s.mem.l2st agent line = .i → s.Calm → s.mem.wb = [] →
    s.dev.trkFree (s.dev.home (line * 64)) false 1 = true → (sameSet s.mem.l2 agent line (s.dev.l2Geom agent).1).length < (s.dev.l2Geom agent).2 →
    (s.mem.dir.filter (fun e => decide (e.1 % 8192 = line % 8192))).length < s.dev.waysLeft 3 (s.dev.home (line * 64)) 8 16 →
    let t := s.serve line (Txn.plain kind agent)
    (t.mem.dirE line).owner = some agent ∧ (t.mem.dirE line).busy = none ∧ t.mem.l2st agent line = .e ∧ t.mem.img = s.mem.img ∧ t.mem.poison = s.mem.poison ∧
    (∀ a l, (a, l) ≠ (agent, line) → l < 2 ^ 46 → line < 2 ^ 46 → t.mem.l2st a l = s.mem.l2st a l) ∧ t.cores = s.cores

/-- A slot check ends DONE with its code as detail; a submitted amendment that its checks pass, that fits the log and that no
supply floor holds off is logged and its records wait; each record, when it is the next to apply, changes the configuration in
force and does what its row says, and the last one ends the amendment with the new version. (R42, R50, R53, R54, R55, R56,
R57, R82, R432, R459.) -/
def Obligations.AmendmentCommandsComplete : Prop :=
  ∀ (s : State),
    (s.dev.feltGo 1 = true → exec .checkSlotA s = .next (s.onDev (fun d => d.feltDone 0 (s.checkSlot 0).code)).settle) ∧
    (s.dev.feltGo 2 = true → exec .checkSlotB s = .next (s.onDev (fun d => d.feltDone 0 (s.checkSlot 1).code)).settle) ∧
    (∀ buf a pa, s.dev.feltGo 3 = true → buf = s.dev.regBytes R.feltAmdbuf 512 → a = checkAmendment s.dev.part s.fuses s.dev.felt buf → a.code = 0 → s.dev.belowFloor = false →
      pa = (scanLog (fun p n => s.mem.bytes p n) 8192 logBase).2 → pa + logSpan a.len ≤ logEnd → a.recs ≠ [] →
      exec .submitAmendment s = .next ((s.logAmend pa (buf.take a.len) (commitRec a.seq a.base (buf.take a.len))).onDev (fun d =>
        { d with felt := { d.felt with todo := a.recs, busy := true } })).settle) ∧
    (∀ c f t, s.dev.nextRec = some (.moveCluster c f t) → (∀ e ∈ s.dev.ext, e.agent < 256 → e.agent / 8 = c → e.st = .finished) →
      (∀ i, i < 8 → s.midInsn (8 * c + i) = false ∧ (s.core (8 * c + i)).lops = []) →
      ∃ s1, s.moveCluster c f t = some s1 ∧ exec .moveCluster s = .next (s1.onDev (fun d => d.recDone)).settle) ∧
    (∀ f fr t w, s.dev.nextRec = some (.moveFunction f fr t w) → (∀ r ∈ s.dev.pep.reads, r.fn ≠ f) →
      ∃ u : State, exec .moveFunction s = .next u.settle ∧ u.mem = s.mem ∧ u.cores = s.cores ∧ u.dev.felt.cfg = amendCfg s.dev.felt.cfg (.moveFunction f fr t w)) ∧
    (∀ c f t w, s.dev.nextRec = some (.moveDma c f t w) → s.dev.job c = none →
      exec .moveDma s = .next ((State.dmaAbort c 4096 s).onDev (fun d => (d.recApply (.moveDma c f t w)).recDone)).settle) ∧
    (∀ n f t w fl, s.dev.nextRec = some (.moveIrq n f t w fl) → ∃ u : State, exec .moveIrq s = .next u.settle ∧ u.mem = s.mem ∧ u.cores = s.cores ∧
      u.dev.felt.cfg = amendCfg s.dev.felt.cfg (.moveIrq n f t w fl) ∧ (n < 2048 → u.dev.masked n = true)) ∧
    (∀ code p lo hi, s.dev.nextRec = some (.setBound code p lo hi) → exec .setBound s = .next (s.onDev (fun d => ((d.recApply (.setBound code p lo hi)).clampAll d.felt.cfg code).recDone)).settle) ∧
    (∀ dom, s.dev.nextRec = some (.clearHold dom) → exec .clearHold s = .next (s.onDev (fun d => ((d.recApply (.clearHold dom)).loadHold dom).recDone)).settle) ∧
    (∀ sc n m a p an pe t, s.dev.nextRec = some (.setMark sc n m a p an pe t) → exec .setMark s = .next (s.onDev (fun d => ((d.recApply (.setMark sc n m a p an pe t)).loadMark sc n m a p an pe t).recDone)).settle) ∧
    (∀ w, s.dev.nextRec = some (.setCap w) → exec .setCap s = .next (s.onDev (fun d => ((d.recApply (.setCap w)).clampAll d.felt.cfg 5).recDone)).settle) ∧
    (∀ p e, s.dev.nextRec = some (.setDebug p e) → exec .setDebug s = .next ((s.onDev (fun d =>
      ((((d.recApply (.setDebug p e)).setRf (R.secDbgen p) 3 0 e).setRf (R.secDbgen p) 7 4 0).dbgenShow p).recDone)).dbgRelease).settle) ∧
    (∀ p x, s.dev.nextRec = some (.setShare p x) → exec .setShare s = .next (s.onDev (fun d =>
      (((List.range 16).filter d.part.order.channel).foldl (fun d ch => d.setRf (R.dmcShare ch p) 6 0 x) (d.recApply (.setShare p x))).recDone)).settle) ∧
    (∀ dom l w p d, s.dev.nextRec = some (.setHold dom l w p) → d = (s.dev.recApply (.setHold dom l w p)).loadHold dom → d.transOf dom = none →
      (d.domState dom ≤ l → exec .setHold s = .next ({ s with dev := d.recDone } : State).settle) ∧
      (l < d.domState dom → exec .setHold s = .next ({ s with dev := d.beginTrans dom { tgt := l, req := false, exit := false, idle := false } } : State).settle))

/-- A start in which SEC0's boot ROM is good runs the boot steps from BS01, one whose BS01 exceeds its limit halts there; the
end of the stopping hold, DEVRESET, a power-on, RESET_N, undervoltage, an over-temperature and OFF do what their rows say; the
SMBus requests act only with their key; CLRFAIL clears the failure counts; a rise of WAKE_SENSE wakes the device from off,
where it is enabled, or from watch. (R493, R494, R417, R418, R465, R469, R477, R499, R502, R518, R521, R522.) -/
def Obligations.StartAndResetCommandsComplete : Prop :=
  ∀ (s : State),
    (∀ obs late, s.dev.pwr.mode = .reset → s.dev.pins.resetLow = false → obs.rom = true →
      let r := s.bs01
      (exec (.deviceStart obs) s = .next (State.bootRun obs 0 r.2 11 (r.1.stepEnd 1 (StepRes.pass (r.1.plainMode 1)))).settle) ∧
      (2 ≤ late → late ≤ 12 → exec (.bootStepTimeout obs late) s = .next (State.bootRun obs late r.2 11 (r.1.stepEnd 1 (StepRes.pass (r.1.plainMode 1)))).settle) ∧
      (exec (.bootStepTimeout obs 1) s = .next (s.onDev (fun d => { d with pwr := { d.pwr with mode := .halted, step := 1 } })))) ∧
    (s.dev.pwr.mode = .stopping → exec .stoppingHoldExpiry s = .next (s.afresh (some 2) true)) ∧
    (s.dev.pins.resetLow = false → exec (.resetN true) s =
      .next ((s.afresh (some 1) false).onDev (fun d => { d with pins := { d.pins with resetLow := true, therm := false } }))) ∧
    (s.dev.pins.resetLow = true → exec (.resetN false) s = .next (s.onDev (fun d => { d with pins := { d.pins with resetLow := false } }))) ∧
    exec .powerOn s = .next s.powerOn ∧ exec (.undervoltage true) s = .next s.powerOn ∧
    (s.dev.pwr.mode ≠ .off → exec (.undervoltage false) s = .next (s.afresh (some 3) false) ∧ exec (.smbusDevreset 0x44455652) s = .next (s.afresh (some 2) true)) ∧
    (∀ key, key ≠ 0x44455652 → exec (.smbusDevreset key) s = .next s) ∧
    (exec (.smbusPwrcyc 0x50575243) s = .next (s.onDev (fun d => { d with pins := { d.pins with pwrcyc := true } }))) ∧
    (∀ key, key ≠ 0x50575243 → exec (.smbusPwrcyc key) s = .next s) ∧
    (exec .pwrcycRelease s = .next (s.onDev (fun d => { d with pins := { d.pins with pwrcyc := false } }))) ∧
    (exec (.smbusClrfail 0x434C5246) s = .next s.clrFail.settle) ∧ (∀ key, key ≠ 0x434C5246 → exec (.smbusClrfail key) s = .next s) ∧
    (s.dev.pwr.mode = .off → s.dev.pins.therm = false → bit (s.dev.reg R.pwrWakeen) 0 = true → exec .wakeSenseRise s = .next ((s.afresh none false).onDev (fun d => d.setReg R.pwrWakecause 1))) ∧
    (s.dev.pwr.mode = .watch → exec .wakeSenseRise s = .next (s.wakeSource 0).settle) ∧
    (bit (s.dev.reg R.errStartctl) 63 = true → exec .clrfail s = .next (s.clrFail.onDev (fun d => d.setRf R.errStartctl 63 63 0)).settle) ∧
    (s.dev.devGo 2 = true → s.dev.alive = true → (∀ e ∈ s.dev.pwr.trans, 21 ≤ e.1 → e.2.req = false) → exec .off s = .next (((List.range 32).foldl (fun s c => s.clusterEntry c) s).toOff.onDev (fun d => d.devDone 0))) ∧
    (∀ hot sensor, s.dev.pwr.mode ≠ .off → sensor < 40 → (s.dev.tlimMax : Int) + 15 ≤ hot → ∃ t, exec (.thermalShutdown hot sensor false) s = .next t ∧
      t.cores = [] ∧ t.dev.pins.therm = true ∧ t.dev.pwr.mode = .off ∧ t.fuses = s.fuses)

/-- A device reset, a power-on and a fall of RESET_N keep the fuses, the part, the queue of commands and the count of free
values, list no core (each is held in reset) and leave the block before its first boot step; after the reset of the model's
own start state memory lists nothing. (R417, R518, R438, R439.) -/
def Obligations.ResetKeepsWhatItMust : Prop :=
  (∀ (s : State) (c : Option Nat) (r : Bool), (s.afresh c r).fuses = s.fuses ∧ (s.afresh c r).pending = s.pending ∧ (s.afresh c r).free = s.free ∧
    (s.afresh c r).cores = [] ∧ (s.afresh c r).dev.part = s.dev.part ∧ (s.afresh c r).dev.pwr.mode = .reset) ∧
  (∀ s : State, s.powerOn.fuses = s.fuses ∧ s.powerOn.pending = s.pending ∧ s.powerOn.cores = [] ∧ s.powerOn.dev.pwr.mode = .reset) ∧
  (∀ s a, s = State.reset → s.byte a = memDefault a ∧ s.pending = [] ∧ (s.core a).run = .inReset ∧ s.dev.pwr.mode = .reset ∧ bit (s.dev.reg R.pwrRstcause) 0 = true)

/-- A write of the record store that its owner check admits, above the NV write floor and with domain 2 on, is performed at
its place; one that is refused leaves every byte as it was; while the device is up the hourly rows write the DRAM, lane and
AVS records. An error record taken by the service core is finished, joins a test in progress or begins its test; a passing
test below its bucket's limit returns the resource and finishes a transient record; a bucket above 0 loses one. DIGEST_UPDATE
replaces the digest as a whole, a snapshot keeps it and returns its first 32 bytes, a piece returns further bytes of the
snapshot, and the snapshot is dropped at its expiry. (R232, R467, R489, R510, R480, R485, R486, R487, R500, R501, R502.) -/
def Obligations.RecordsErrorsAndDigestComplete : Prop :=
  (
  ∀ (s : State),
    (∀ rq off (data : List Byte), data ≠ [] → off + data.length ≤ nvSize → s.dev.domLost 2 rq = false → s.dev.nvAdmit rq true off data.length = true → s.dev.belowFloor = false →
      s.dev.domState 2 = 0 → exec (.recordStoreWrite rq off data) s = .next (s.nvWrite (nvBase + off) data).settle) ∧
    (∀ rq off (data : List Byte), data ≠ [] → off + data.length ≤ nvSize → s.dev.nvAdmit rq true off data.length = false →
      ∃ u : State, exec (.recordStoreWrite rq off data) s = .next u.settle ∧ u.mem = s.mem ∧ u.cores = s.cores) ∧
    (s.dev.pwr.mode = .up → exec .dramRecordSave s = .next (s.saveDram (List.range 16)).settle ∧ exec .laneSettingsSave s = .next s.saveLanes.settle ∧
      exec .avsRecordSave s = .next (s.saveAvs [0, 1, 2, 3]).settle)) ∧
  (
  ∀ (s : State),
    (∀ quad, quad < 4 → s.dev.alive = true → s.dev.starting = false → s.dev.domState (5 + quad) ≤ 1 →
      ((s.dev.err.waiting.find? (fun r => decide (r.quad = quad))) = none → exec (.errorRecord quad none) s = .next s) ∧
      (∀ r s1, s.dev.err.waiting.find? (fun r => decide (r.quad = quad)) = some r →
        s1 = s.onDev (fun d => { d with err := { d.err with waiting := d.err.waiting.erase r } }) →
        (r.cls ≠ 0 → exec (.errorRecord quad none) s = .next (s1.finishRec r).settle) ∧
        (r.cls = 0 → s1.dev.err.testing = [] → r.arrays = false → exec (.errorRecord quad none) s =
          .next ((if r.sram then s1.rowOut r else s1).onDev (fun d => { d with err := { d.err with testing := d.err.testing ++ [(r, false)] } })).settle) ∧
        (r.cls = 0 → s1.dev.err.testing = [] → r.arrays = true → (s.dev.cslu r.inst).ctx = none → s.midInsn r.inst = false → (s.core r.inst).lops = [] →
          ∃ s2, s1.beginTest r = some s2 ∧ exec (.errorRecord quad none) s = .next s2.settle) ∧
        (∀ t, r.cls = 0 → s1.dev.err.testing = [t] → r.sameTest t.1 = true → exec (.errorRecord quad none) s =
          .next (s1.onDev (fun d => { d with err := { d.err with testing := [({ t.1 with count := satAdd 0xFFFF t.1.count 1 }, t.2)] } })).settle))) ∧
    (∀ quad t key l1i spare, s.dev.err.testing.find? (fun t => decide (t.1.quad = quad) && s.dev.testReady t.1) = some t → t.1.unit ≠ 5 → key = t.1.bucket.2 →
      Tab.get (fun _ => 0) s.dev.err.bucket key + 1 ≤ s.dev.rf (R.errBktcfg t.1.bucket.1) 63 48 →
      exec (.selfTestComplete quad true l1i spare) s = .next ((State.passed (s.onDev (fun d => { d with err := { d.err with
        testing := d.err.testing.erase t, bucket := Tab.set (fun _ => 0) d.err.bucket key (Tab.get (fun _ => 0) s.dev.err.bucket key + 1) } }))
          t.1 t.2).finishRec { t.1 with cls := 1, act := 0 }).settle) ∧
    (∀ key n, Tab.get (fun _ => 0) s.dev.err.bucket key = n + 1 → exec (.bucketLeak key) s =
      .next (s.onDev (fun d => { d with err := { d.err with bucket := Tab.set (fun _ => 0) d.err.bucket key n } }))) ∧
    (∃ n, exec .digestUpdate s = .next (s.onDev (fun d => { d with digest := s.digestBytes n })) ∧
      n = satAdd (2 ^ 32 - 1) (leAt s.dev.digest 0x10 4) 1) ∧
    exec .digestSnapshot s = .next (s.onDev (fun d => { d with pwr := { d.pwr with snap := some d.digest, smb := d.digest.take 32 } })) ∧
    (∀ bs n, s.dev.pwr.snap = some bs → 0x11 ≤ n → n ≤ 0x17 → exec (.digestPiece n) s =
      .next (s.onDev (fun d => { d with pwr := { d.pwr with smb := (bs.drop (32 * (n - 0x10))).take 32 } }))) ∧
    exec .digestSnapshotExpiry s = .next (s.onDev (fun d => { d with pwr := { d.pwr with snap := none } })))

/-- FLOOR sets BELOW and its event, FLOORUP clears it; while the device runs, a limit step shows what was measured and moves
its limit by its rule, an AVS step moves the rail at most 5 mV towards the need, an alert and a droop are counted; FREQREQ and
CAP are writes of their registers. (R466, R470, R471, R472, R474, R475, R476, R505.) -/
def Obligations.PowerLimitCommandsComplete : Prop :=
  ∀ (s : State),
    (s.dev.belowFloor = false → exec .floor s = .next (s.onDev (fun d => (d.setRf R.pwrStatus 5 5 1).pwrEvent 1)).settle) ∧
    (s.dev.belowFloor = true → s.dev.err.defer = [] → exec .floorup s = .next
      (((s.onDev (fun d => d.setRf R.pwrStatus 5 5 0)).onDev (fun d => ({ d with err := { d.err with defer := [] } } : Dev).pwrEvent 2)).wakeSource 1).settle) ∧
    (∀ rq c v, c < 32 → ∀ s1, s1 = s.regWrite rq (R.cluFreqreq c) 8 v → exec (.freqreqWrite rq c v) s = .next (if s1.dev.alive then s1.onDev (fun d => d.showFreq) else s1).settle) ∧
    (∀ rq v, exec (.capWrite rq v) s = .next (s.regWrite rq R.pwrCap 8 v).settle) ∧
    (s.dev.alive = true →
      (∀ c n, s.dev.part.order.cluster c = true → exec (.droop c n) s = .next (s.onDev (fun d => d.wrapAdd (R.cluFreqstat c) 31 0 n))) ∧
      (∀ q, q < 4 → exec (.avsAlert q) s = .next (s.onDev (fun d => (d.satInc (R.pwrAvs q) 15 8).pwrEvent 6)).settle) ∧
      (∀ others mw, mw = s.dev.powerMean others → ∃ u : State, exec (.powerCapStep others) s = .next u.settle ∧ u.mem = s.mem ∧ u.cores = s.cores ∧
        (s.dev.rf R.pwrCap 15 0 * 1000 < mw → u.dev.pwr.capLim = max 400 (s.dev.pwr.capLim - 100) ∧ u.dev.pwr.capLow = 0) ∧
        (mw ≤ s.dev.rf R.pwrCap 15 0 * 1000 → s.dev.rf R.pwrCap 15 0 * 1000 * 95 ≤ mw * 100 → u.dev.pwr.capLim = s.dev.pwr.capLim ∧ u.dev.pwr.capLow = 0) ∧
        (mw ≤ s.dev.rf R.pwrCap 15 0 * 1000 → mw * 100 < s.dev.rf R.pwrCap 15 0 * 1000 * 95 → 9 ≤ s.dev.pwr.capLow → u.dev.pwr.capLim = min topMhz (s.dev.pwr.capLim + 100))) ∧
      (∀ hot sensor, ∃ u : State, exec (.thermalLimitStep hot sensor) s = .next u.settle ∧ u.mem = s.mem ∧ u.cores = s.cores ∧
        ((s.dev.rf R.pwrThermctl 7 0 : Int) ≤ hot → u.dev.pwr.thLim = max 400 (s.dev.pwr.thLim - 200) ∧ u.dev.pwr.thLow = 0) ∧
        (hot < (s.dev.rf R.pwrThermctl 7 0 : Int) → (s.dev.rf R.pwrThermctl 7 0 : Int) - 2 ≤ hot → u.dev.pwr.thLim = s.dev.pwr.thLim ∧ u.dev.pwr.thLow = 0)) ∧
      (∀ q need fmax vout iout ok, q < 4 → ∃ u : State, exec (.avsLoopStep q need fmax vout iout ok) s = .next u.settle ∧ u.mem = s.mem ∧ u.cores = s.cores ∧
        Tab.get (fun _ => 0) u.dev.pwr.band q = if ok then min 100 (Tab.get (fun _ => 0) s.dev.pwr.band q + 1) else 0))

/-- The four DOMCTL requests are writes of the register with GO, after which a new transition of the domain begins its entry;
a transition that is done reaches its state, an idle wait that is over completes with TIMEOUT; an idle cluster is clock-gated
or enters its AUTO state, and another domain with no request outstanding is clock-gated; a wake begins when its event waits;
WATCH takes the clusters to their watch states; a sequencer interval records and judges; a lost held domain and its return act
as their rows say. (R443, R452, R453, R454, R455, R457, R461, R462, R463, R464.) -/
def Obligations.DomainCommandsComplete : Prop :=
  ∀ (s : State) (dom : Nat), dom < 53 →
    (∀ i st rq, (i = Instr.domainRequestOn rq dom ∧ st = 0) ∨ (i = Instr.domainRequestClockGate rq dom ∧ st = 1) ∨ (i = Instr.domainRequestRetention rq dom ∧ st = 2) ∨
        (i = Instr.domainRequestOff rq dom ∧ st = 3) →
      ∀ s1, s1 = s.regWrite rq (R.pwrDomctl dom) 8 (setFld (setBit (s.dev.reg (R.pwrDomctl dom)) 63 true) 62 60 st) →
      (s1.dev.transOf dom = none → exec i s = .next s1.settle) ∧
      (∀ t, s.dev.transOf dom = none → s1.dev.transOf dom = some t → exec i s = .next (if t.idle then s1.startEntry dom else s1.domEntry dom t.tgt).settle)) ∧
    (∀ t, s.dev.transOf dom = some t → t.idle = false → s.dev.exitWaits dom t = false → t.tgt < 2 →
      exec (.domainTransitionDone dom) s = .next (if t.req then ((s.onDev (fun d => d.endTrans dom)).domReach dom t.tgt).onDev (fun d => d.domComplete dom 0)
        else (s.onDev (fun d => d.endTrans dom)).domReach dom t.tgt).settle) ∧
    (∀ t, s.dev.transOf dom = some t → t.idle = true → t.req = true → exec (.domainRequestTimeout dom) s = .next (s.onDev (fun d => (d.endTrans dom).domComplete dom 7)).settle) ∧
    (∀ c, c < 32 → s.dev.alive = true → s.clusterIdle c = true → s.dev.transOf (21 + c) = none →
      (s.dev.domState (21 + c) = 0 → 1 ≤ s.dev.rf (R.pwrDomctl (21 + c)) 42 40 → 1 ≤ s.dev.domLowest (21 + c) → exec (.clusterIdle c) s = .next (s.domMove (21 + c) 1).settle) ∧
      (∀ tgt, tgt = min (s.dev.rf (R.pwrDomctl (21 + c)) 42 40) (s.dev.domLowest (21 + c)) → 2 ≤ s.dev.rf (R.pwrDomctl (21 + c)) 42 40 → s.dev.domState (21 + c) < tgt →
        s.dev.domState (21 + c) ≤ 3 → 2 ≤ tgt → exec (.idleTimeout c) s =
          .next ((s.domEntry (21 + c) tgt).onDev (fun d => d.beginTrans (21 + c) { tgt := tgt, req := false, exit := false, idle := false })).settle)) ∧
    (dom < 21 → s.dev.alive = true → s.dev.domPermits dom 1 = true → s.domQuiet dom = true → s.dev.transOf dom = none → s.dev.domState dom = 0 → s.dev.domLowest dom ≠ 0 →
      exec (.clusterIdle (32 + dom)) s = .next (s.domMove dom 1).settle) ∧
    (s.dev.pwr.mode = .up → s.dev.domState dom ≠ 0 → Tab.get (fun _ => false) s.dev.wakes dom = true → exec (.domainWake dom) s = .next (s.onDev (fun d => d.beginWake dom false)).settle) ∧
    (∀ c lead m, c < 32 → s.dev.pwr.mode = .up → s.dev.domState (21 + c) ≠ 0 → lead = s.dev.rf (R.pwrDomctl (21 + c)) 23 12 → lead ≠ 0 → m < 16 → bit (s.dev.reg (R.cluMkctl c m)) 31 = true →
      fld (s.dev.reg (R.cluMkctl c m)) 29 27 = 0 →
      atOrAfter s.dev.now (s.dev.reg (R.cluMkangle c m) - word ((lead * 1000 * atbRate s.dev.atbFreq + 2 ^ 31) / 2 ^ 32)) = true →
      exec (.wakeLead c) s = .next (s.onDev (fun d => d.beginWake (21 + c) false)).settle) ∧
    (s.dev.devGo 1 = true → s.dev.pwr.mode = .up → s.dev.watchLeft = [] → exec .watch s = .next s.enterWatch.settle) ∧
    (s.dev.devGo 1 = true → s.dev.pwr.mode = .up → (∃ c ∈ s.dev.watchLeft, s.clusterIdle c = false) → exec .watchEntryTimeout s = .next (s.onDev (fun d => d.devDone 7)).settle) ∧
    (s.dev.pwr.mode = .watch → bit (s.dev.reg R.pwrWatchctl) 63 = true → (∀ i, i < 6 → bit (s.dev.reg (R.pwrWatchthr i)) 0 = false) →
      (∀ i, i < 6 → Tab.get (fun _ => 0) s.dev.pwr.seqRun i = 0) → ∀ rms, exec (.watchSequencerInterval rms) s = .next s.settle) ∧
    (s.dev.pwr.mode ≠ .off → exec (.heldDomainLost 3) s = .next (s.afresh (some 5) false)) ∧
    (Tab.get (fun _ => false) s.dev.pwr.down dom = true → exec (.powerGoodReturn dom) s =
      .next ((s.onDev (fun d => { d with pwr := { d.pwr with down := Tab.set (fun _ => false) d.pwr.down dom false } })).domReach dom 0).settle)

/-- PROGRAM writes a public key on the curve into a blank slot and REVOKE blows a revocation fuse while another live key
remains, above the floor; both are refused otherwise. CHALLENGE shows four free values as the nonce and marks it valid; SUBMIT
of an accepted token raises its enables and consumes the nonce; RELOCK clears the unlocked enables; the DBGEN and KSBIND rows
are writes of their registers. (R432, R436, R437, R438, R439, R527.) -/
def Obligations.SecurityCommandsComplete : Prop :=
  ∀ (s : State),
    (∀ k bs x y, s.dev.keyGo 1 = true → k = s.dev.rf R.secKeycmd 5 4 → bs = s.dev.regBytes R.secKeybuf 12 → x = ofBytesBE (bs.take 48) → y = ofBytesBE (bs.drop 48) →
      (s.fuses.keys.getD k none = none → onCurve x y = true → s.dev.belowFloor = false →
        exec .program s = .next (({ s with fuses := { s.fuses with keys := s.fuses.keys.set k (some (x, y)) } } : State).keyDone 0).settle) ∧
      (s.fuses.keys.getD k none ≠ none ∨ onCurve x y = false → exec .program s = .next (s.keyDone 3).settle)) ∧
    (∀ k, s.dev.keyGo 2 = true → k = s.dev.rf R.secKeycmd 5 4 →
      ((∃ j ∈ s.fuses.live, j ≠ k) → s.dev.belowFloor = false →
        exec .revoke s = .next (({ s with fuses := { s.fuses with revoked := s.fuses.revoked.set k true } } : State).keyDone 0).settle) ∧
      ((∀ j ∈ s.fuses.live, j = k) → exec .revoke s = .next (s.keyDone 3).settle)) ∧
    (s.dev.dbuGo 1 = true → ∃ u : State, exec .challenge s = .next u.settle ∧ u.free = s.free + 4 ∧ u.mem = s.mem ∧ u.cores = s.cores ∧ u.fuses = s.fuses) ∧
    (∀ tok, s.dev.dbuGo 2 = true → tok = s.dev.regBytes R.secDbutok 20 → bit (s.dev.reg R.secDbustat) 17 = false → s.tokenCode tok = 0 →
      exec .submit s = .next (((s.onDev (fun d => d.setRf R.secDbustat 16 16 0)).onDev (fun d =>
        ((d.grant (leAt tok 0x30 4) (leAt tok 0x34 1)).setRf R.secDbustat 13 12 0).dbuDone 0 0)).modBlock 6 (fun bs =>
          lePut (lePut (lePut (lePut bs 0 4 s.startNo) 4 4 (leAt tok 0x30 4)) 8 1 (leAt tok 0x34 1)) 0x10 8 (s.dev.reg R.exTick).toNat)).settle) ∧
    (s.dev.dbuGo 3 = true → exec .relock s = .next ((s.onDev (fun d =>
      ((List.range 32).foldl (fun d p => (d.setRf (R.secDbgen p) 11 8 0).dbgenShow p) d).dbuDone 0 0)).dbgRelease).settle) ∧
    (∀ rq p v, p < 32 → exec (.dbgenLowWrite rq p v) s = .next (s.regWrite rq (R.secDbgen p) 8 v).settle) ∧
    (∀ rq n v, n < 16 → exec (.ksbindWrite rq n v) s = .next (s.regWrite rq (R.secKsbind n) 8 v).settle)

/-- On a channel that runs, a request joins those at its stop and the command slots that come with it are worked through; with
no slot, a read of a queued whole write is answered from it, another read takes an entry of the read queue, a write is merged
into the entry of its line or takes one, and with its queue full a request waits and is counted; a refresh falls due by the
protect signal and the reads that wait; a scrub read moves on by a line; an alert is an event and, the third time, a failure
of the rank; SPARECMD starts a migration or is refused; MIGRATION_COPY takes the next line; retraining leaves its parameters;
the SHARE and HSEL rows are writes of their registers. (R297, R298, R299, R302, R303, R306, R307, R310, R311, R312, R313,
R314.) -/
def Obligations.DramCommandsComplete : Prop :=
  ∀ (s : State) (ch : Nat), s.dev.chanRuns ch = true →
    (∀ pa pond qos slots, s.dev.chanGets ch pa = true →
      let r : ChanReq := { line := pa / 64, wr := false, part := false, pond := pond, qos := qos, arr := 0 }
      exec (.channelRead ch pa pond qos slots) s = .next (s.chanRequest ch r slots).settle ∧
      ((s.dev.chan ch).inq = [] →
        (∀ w, (s.dev.chan ch).wq.find? (fun w => decide (w.line = pa / 64)) = some w → w.merging = false →
          ((s.chanRequest ch r []).dev.chan ch).out = [(pa / 64, s.mem.poisoned (pa / 64))]) ∧
        ((s.dev.chan ch).wq.find? (fun w => decide (w.line = pa / 64)) = none → (s.dev.chan ch).rq.length < 64 →
          ((s.chanRequest ch r []).dev.chan ch).rq = (s.dev.chan ch).rq ++ [{ req := { r with arr := (s.dev.chan ch).time }, wait := false }]) ∧
        ((s.dev.chan ch).wq.find? (fun w => decide (w.line = pa / 64)) = none → 64 ≤ (s.dev.chan ch).rq.length →
          ((s.chanRequest ch r []).dev.chan ch).inq = [{ r with arr := (s.dev.chan ch).time }]))) ∧
    (∀ pa size pond qos slots, s.dev.chanGets ch pa = true → 0 < size → size ≤ 64 →
      let r : ChanReq := { line := pa / 64, wr := true, part := decide (size < 64), pond := pond, qos := qos, arr := 0 }
      exec (.channelWrite ch pa size pond qos slots) s = .next (s.chanRequest ch r slots).settle ∧
      ((s.dev.chan ch).inq = [] → (s.dev.chan ch).wq.find? (fun w => decide (w.line = pa / 64)) = none →
        ((s.dev.chan ch).wq.length < 64 → ((s.chanRequest ch r []).dev.chan ch).wq = (s.dev.chan ch).wq ++
          [{ line := pa / 64, merging := decide (size < 64), urgent := false, reqs := [{ r with arr := (s.dev.chan ch).time }] }]) ∧
        (64 ≤ (s.dev.chan ch).wq.length → ((s.chanRequest ch r []).dev.chan ch).inq = [{ r with arr := (s.dev.chan ch).time }]))) ∧
    (∀ rank n, rank < 4 → (s.dev.chan ch).ranks.testBit rank = true → n = (s.dev.chan ch).owedOf rank + 1 →
      (s.dev.protect = true → n ≤ 4 → exec (.refreshDue ch rank) s = .next (s.onDev (fun d => (d.modChan ch (fun c => c.setOwed rank n)).noteOwed ch n))) ∧
      (s.dev.protect = true → 4 < n → exec (.refreshDue ch rank) s =
        .next (s.onDev (fun d => ((d.noteOwed ch 4).wrapAdd (R.dmcProtstat ch) 63 32 1).dmcEvent ch 7)).settle) ∧
      (s.dev.protect = false → s.dev.criticalRead ch rank = false → 0 < n → exec (.refreshDue ch rank) s =
        .next (s.onDev (fun d => (d.modChan ch (fun c => c.setOwed rank 0)).noteOwed ch 0))) ∧
      (s.dev.protect = false → s.dev.criticalRead ch rank = true → n = 1 → exec (.refreshDue ch rank) s =
        .next (s.onDev (fun d => (d.modChan ch (fun c => c.setOwed rank 1)).noteOwed ch 1)))) ∧
    (∀ rank train phase, exec (.zqCalibration ch rank) s = .next s ∧ exec (.retraining ch train phase) s =
      .next (s.onDev (fun d => d.modChan ch (fun c => { c with train := if d.protect then c.train else train, phase := phase })))) ∧
    (∀ ecc la, bit (s.dev.reg (R.dmcScrub ch)) 63 = true → s.dev.protect = false → s.dev.demand ch = false → (s.dev.chan ch).capacity ≠ 0 →
      la = (s.dev.chan ch).scrub * 64 % (s.dev.chan ch).capacity →
      ∀ s1, s1 = s.onDev (fun d => d.modChan ch (fun c => { c with scrub := (c.scrub + 1) % (c.capacity / 64) })) →
      ((s.dev.chan ch).wq = [] → exec (.scrubRead ch ecc) s = .next (s1.eccResult ch la (dramUnmap s.dev.felt.cfg ch la) ecc true).settle) ∧
      (∀ a w, dramUnmap s.dev.felt.cfg ch la = some a → w ∈ (s.dev.chan ch).wq → w.line = a / 64 → exec (.scrubRead ch ecc) s = .next s1)) ∧
    (∀ bank, exec (.rowIdleTimeout ch bank) s = .next (s.onDev (fun d => d.modChan ch (fun c => { c with rows := c.rows.map (fun e =>
      if e.1 = bank ∧ e.2.isOpen then (e.1, { e.2 with isOpen := false, pred := false }) else e) })))) ∧
    (∀ rank parity failures, rank < 4 → ∀ s1, s1 = s.onDev (fun d => d.dmcEvent ch (if parity then 2 else 3)) →
      (failures < 3 → exec (.crcAlert ch rank parity failures) s = .next s1.settle) ∧
      (3 ≤ failures → exec (.crcAlert ch rank parity failures) s =
        .next (((s1.onDev (fun d => d.modChan ch (fun c => { c with out := [] }))).failReads ch rank).rankErr ch rank true).settle)) ∧
    (∀ v rank, v = s.dev.reg (R.dmcSparecmd ch) → bit v 63 = true → rank = fld v 1 0 →
      (∀ st s1, ((s.dev.chan ch).mig.isSome = true ∧ st = 2 ∧ s1 = s) ∨ ((s.dev.chan ch).mig = none ∧ (s.dev.chan ch).spareFor rank = none ∧ st = 3 ∧ s1 = s) ∨
          ((s.dev.chan ch).mig = none ∧ ∃ t, (s.dev.chan ch).spareFor rank = some t ∧ st = 0 ∧ s1 = (s.onDev (fun d => d.startMig ch rank t false)).saveSpare ch) →
        exec (.sparecmd ch) s = .next (s1.onDev (fun d => (d.setRf (R.dmcSparecmd ch) 63 63 0).setRf (R.dmcSparecmd ch) 11 8 st)).settle)) ∧
    (∀ frm tgt n la ecc, (s.dev.chan ch).mig = some (frm, tgt) → s.dev.protect = false → s.dev.demand ch = false → (s.dev.chan ch).cmdFail = false →
      n = s.dev.rf (R.dmcMigptr ch) 36 6 → la = (s.dev.chan ch).pos.idxOf frm * (s.dev.chan ch).rankSize + n * 64 → n + 1 < (s.dev.chan ch).rankSize / 64 →
      exec (.migrationCopy ch ecc) s = .next ((s.eccResult ch la (dramUnmap s.dev.felt.cfg ch la) ecc true).onDev (fun d => d.setRf (R.dmcMigptr ch) 36 6 (n + 1))).settle) ∧
    (∀ rq pond v, pond < 32 → exec (.shareWrite rq ch pond v) s = .next (s.regWrite rq (R.dmcShare ch pond) 8 v).settle) ∧
    (∀ rq v, exec (.hselClr rq ch v) s = .next (s.regWrite rq (R.dmcHsel ch) 8 (setBit v 63 true)).settle)

/-- A packet that arrives returns its buffer's credit first. One whose header check is wrong is discarded. A WRITE, TWRITE,
READ, DOORBELL or TDOORBELL for this device is served as its type is, a response completes the request it answers, and a
transit packet is sent on with one more hop, or discarded after fifteen. The earliest timed entry that is due is performed.
(R318, R328, R334, R335, R337, R338, R339, R340, R341, R346, R360.) -/
def Obligations.FabricRequestsComplete : Prop :=
  ∀ (s : State) (port : Nat) (pk : Pkt) (s1 : State), s1 = s.onDev (fun d => d.credit port pk) →
    (s.Arrives port pk → pk.dst = s.dev.wxAddr →
      (∀ stall, pk.typ = 1 → exec (.write port pk stall) s = .next (s1.weirWrite pk (some port) stall).settle) ∧
      (pk.typ = 2 → exec (.twrite port pk) s = .next (s1.weirTwrite pk (some port)).settle) ∧
      (∀ stall, pk.typ = 3 → exec (.read port pk stall) s = .next (s1.weirWrite pk (some port) stall).settle) ∧
      (pk.typ = 6 → exec (.doorbell port pk) s = .next (s1.weirBell pk (some port)).settle) ∧
      (pk.typ = 0xA → exec (.tdoorbell port pk) s = .next (s1.weirTbell pk (some port)).settle) ∧
      (pk.typ = 4 → s1.dev.answers pk = true → exec (.rdata port pk) s = .next (s1.onDev (fun d => d.complete pk.seq pk.flags 0 0 pk.bytes)).settle) ∧
      (pk.typ = 5 → s1.dev.answers pk = true → exec (.cpl port pk) s =
        .next (s1.onDev (fun d => d.complete pk.seq pk.flags (fld (pk.words.getD 0 0) 63 56) (fld (pk.words.getD 0 0) 31 0) [])).settle)) ∧
    (s.Arrives port pk → pk.dst ≠ s.dev.wxAddr → 1 ≤ pk.typ → pk.typ ≤ 6 →
      (15 ≤ pk.hops → exec (.packetForward port pk) s = .next (s1.onDev (fun d => d.hopDrop port)).settle) ∧
      (∀ o, pk.hops < 15 → s1.dev.route pk.src pk.dst = some o → verHas (s1.dev.linkVer o) pk.typ = true →
        exec (.packetForward port pk) s = .next (s1.onDev (fun d => d.txPkt o (some port) false { pk with hops := pk.hops + 1 })).settle)) ∧
    (s.dev.weirPort port = true → pk.hcrc ≠ pk.hcrcOf → pk.dst = s.dev.wxAddr → pk.typ = 1 → ∀ stall,
      exec (.write port pk stall) s = .next (s1.onDev (fun d => d.hdrErr port)).settle) ∧
    (∀ tag, exec (.responseTimeout tag) s = .next (s.onDev (fun d => d.complete tag 7 11 0 [])).settle) ∧
    (∀ group e, (s.dev.tdb group).filter (fun e => atOrAfter (s.dev.reg R.atbNow) e.angle) = [e] →
      exec (.tdbRelease group) s = .next (State.fireTdb (s.onDev (fun d => d.setTdb group ((d.tdb group).erase e))) e).2.settle)

/-- An access from the fabric that no export holds whole is refused with DETAIL 1 and one whose tags are not the export's with
DETAIL 2, in both cases with memory and the cores unchanged; with the export's depth reached it is refused as full with DETAIL
3 and counted; a timed request more than 256 cycles ahead is refused with DETAIL 5; one that is due later is held and
acknowledged. (R328, R335, R336, R340.) -/
def Obligations.FabricChecksOfARequest : Prop :=
  ∀ (s : State) (pk : Pkt) (port : Nat),
    (∀ f, exportOf s.dev.felt.cfg (pktAddr pk.words).1 (pktAddr pk.words).2 = none → s.checkExport pk (some port) f = s.respond pk (some port) 3 1 0 []) ∧
    (∀ f n pond sec pa, exportOf s.dev.felt.cfg (pktAddr pk.words).1 (pktAddr pk.words).2 = some (n, pond, sec, pa) →
      (pk.pond ≠ pond ∨ pk.secure ≠ sec → s.checkExport pk (some port) f = s.respond pk (some port) 3 2 0 []) ∧
      (pk.pond = pond → pk.secure = sec → s.checkExport pk (some port) f = f n pa s)) ∧
    (∀ g n r stall, s.dev.rf (R.wxExpctl n) 8 0 ≤ ((s.dev.inq g).filter (fun x => decide (x.expo = n))).length →
      s.enqueueIn g n r stall = (s.onDev (fun d => d.wrapAdd (R.wxExpstat n) 63 32 1)).respond r.pk r.port 2 3 0 []) ∧
    (∀ e : TdbEnt, ∀ v ahead, v = s.dev.reg R.atbNow → ahead = (e.angle - v).toNat → 0 < ahead → ahead < 2 ^ 63 →
      (256 * 2 ^ 32 < ahead → s.timed pk (some port) e = s.respond pk (some port) 3 5 0 []) ∧
      (ahead ≤ 256 * 2 ^ 32 → (s.dev.tdb (groupOf (some port))).length < 256 →
        s.timed pk (some port) e = (s.onDev (fun d => d.setTdb (groupOf (some port)) (d.tdb (groupOf (some port)) ++ [e]))).respond pk (some port) 0 0 0 [])) ∧
    (∀ status detail late data, (s.respond pk (some port) status detail late data).mem = s.mem ∧
      (s.respond pk (some port) status detail late data).cores = s.cores ∧ (s.respond pk (some port) status detail late data).fuses = s.fuses)

/-- A codeword on a locked link, a lock, a loss and a HELLO act on the link; a management message along the tree is
acknowledged and acted on or relayed; a beacon counts; a headwater is chosen, lost or drained as the rows say; SYNC, DREQ and
DRSP are exchanged on an up link; the timed-send and exchange rows send what is staged or waiting, or finish it where it
cannot be sent, and each WX row that is a write is a write of its register. (R323, R325, R345, R347, R348, R349, R351, R357,
R358, R359, R361.) -/
def Obligations.FabricLinksAndFormationComplete : Prop :=
  ∀ (s : State) (port : Nat),
    (s.dev.weirPort port = true → (s.dev.link port).lock = true →
      let d := ((s.dev.wordTimes port).modLink port (fun l => { l with line := [] })).nakAgain port
      let sent := fun s : State => s.onDev (fun d =>
        if (d.link port).lock && decide ((d.link port).line = []) then d.modLink port (Link.filler (d.portWidth port)) else d)
      (∀ fec ctl words, words.length = 80 → (d.link port).lock = false → exec (.codewordReceive port fec ctl words) s = .next (State.settle { s with dev := d })) ∧
      ((d.link port).lock = true →
        (∀ ctl words, words.length = 80 → exec (.codewordReceive port .uncorrectable ctl words) s =
          .next (sent { s with dev := (d.wrapAdd (R.wptFecunc port) 63 0 1).missed port }).settle) ∧
        (∀ (ctl : BitVec 20) words, words.length = 80 → words ≠ List.replicate 80 0 → ctl.toNat / 1024 < 0x3FC → ctl.toNat / 1024 = (d.link port).rxNext →
          let r := words.foldl (fun x w => Dev.takeWord x port w) (d.modLink port (fun l =>
            { l.ack (ctl.toNat % 1024) with rxNext := (l.rxNext + 1) % 1020, nakWait := none }), [])
          exec (.codewordReceive port .clean ctl words) s =
            .next (sent (r.2.foldl (fun s pk => State.reservedPkt s port pk) { s with dev := r.1.pump port })).settle))) ∧
    (s.dev.weirPort port = true → (s.dev.link port).lock = true →
      (∀ lost, exec (.linkDown port lost) s = .next (s.onDev (fun d => if lost then (d.linkDown port).wptEvent port 4 else d.linkDown port)).settle) ∧
      ((s.dev.link port).age < 4 → exec (.helloSend port) s = .next (s.onDev (fun d => (d.modLink port (fun l => { l with age := l.age + 1 })).sendHello port)).settle) ∧
      (4 ≤ (s.dev.link port).age → exec (.helloSend port) s = .next (s.onDev (fun d => d.linkDown port)).settle)) ∧
    (s.dev.weirPort port = true → (s.dev.link port).lock = false → s.dev.portLocked port = true →
      ∃ u : State, exec (.linkLock port) s = .next u.settle ∧ u.mem = s.mem ∧ u.cores = s.cores ∧ u.fuses = s.fuses) ∧
    (∀ pk s1, s.Arrives port pk → s1 = s.onDev (fun d => d.credit port pk) →
      let sub := fld (pk.words.getD 0 0) 7 0
      let ack := s1.respond pk (some port) 0 0 0 []
      (pk.typ = 9 → exec (.hello port pk) s = .next ((s1.onDev (fun d => d.helloIn port pk.words)).relane port).settle) ∧
      (pk.typ = 7 → pk.flags % 2 = 1 →
        (sub = 1 → ∃ u : State, exec (.topo port pk) s = .next u.settle ∧ u.mem = s.mem ∧ u.cores = s.cores ∧ u.fuses = s.fuses) ∧
        (sub = 2 → ∃ u : State, exec (.addr port pk) s = .next u.settle ∧ u.mem = s.mem ∧ u.cores = s.cores ∧ u.fuses = s.fuses) ∧
        (sub = 3 → forMe pk ack.dev = true → exec (.route port pk) s = .next (ack.onDev (fun d => d.routeIn pk.words)).settle) ∧
        (sub = 4 → ∃ u : State, exec (.refuse port pk) s = .next u.settle ∧ u.mem = s.mem ∧ u.cores = s.cores ∧ u.fuses = s.fuses) ∧
        (sub = 5 → ack.dev.isHead = false → exec (.portdown port pk) s = .next (ack.onDev (fun d => d.sendUp pk.words)).settle) ∧
        (sub = 6 → ack.dev.isHead = false → exec (.drain port pk) s = .next (ack.onDev (fun d => d.sendUp pk.words)).settle)) ∧
      (pk.typ = 7 → pk.flags % 2 = 0 → pk.dst = s.dev.wxAddr →
        (sub = 7 → ∃ u : State, exec (.digestreq port pk) s = .next u.settle ∧ u.mem = s.mem ∧ u.cores = s.cores ∧ u.fuses = s.fuses) ∧
        (sub = 8 → exec (.digest port pk) s = .next (s1.onDev (fun d => { d with weir := { d.weir with digests := Tab.set (fun _ => []) d.weir.digests (pk.src * 2 + fld (pk.words.getD 0 0) 23 16 % 2) (pk.words.drop 1) } })).settle)) ∧
      (pk.typ = 8 → s1.dev.weir.timeP = some port → fld (pk.words.getD 2 0) 39 32 ≤ 15 → sub = 1 →
        ∃ u : State, exec (.sync port pk) s = .next u.settle ∧ u.mem = s.mem ∧ u.cores = s.cores ∧ u.dev.weir.depth = fld (pk.words.getD 2 0) 39 32 + 1 ∧
          u.dev.atb.sync = s1.dev.atb.sync + 1) ∧
      (pk.typ = 8 → sub = 2 → exec (.dreq port pk) s = .next (s1.onDev (fun d =>
        d.txPkt port none true (d.ownPkt 8 0 0 0 [3, pk.words.getD 1 0, d.reg R.exTick, d.reg R.exTick]))).settle) ∧
      (pk.typ = 8 → sub = 3 → ∃ u : State, exec (.drsp port pk) s = .next u.settle ∧ u.mem = s.mem ∧ u.cores = s.cores)) ∧
    (∀ tag m, s.dev.weir.mgmt.find? (fun m => decide (m.tag = tag)) = some m → 8 ≤ m.tries → exec (.mgmtRetry tag) s =
      .next (s.onDev (fun d => { d with weir := { d.weir with mgmt := d.weir.mgmt.filter (fun x => decide (x.tag ≠ tag)) } })).settle) ∧
    (s.dev.weir.head = none → s.dev.wxState = 1 → s.dev.candidate.map (·.1) = some s.dev.part.uid →
      ∃ u : State, exec .becomeHeadwater s = .next u.settle ∧ u.mem = s.mem ∧ u.cores = s.cores ∧ u.dev.weir.head = some s.dev.part.uid) ∧
    (s.dev.isHead = true → s.dev.wxState = 2 → exec .beacon s = .next (s.onDev (fun d => { d with weir := { d.weir with beacon := (d.weir.beacon + 1) % 2 ^ 32 } })).settle) ∧
    (s.dev.weir.head ≠ none → s.dev.isHead = false → exec .headwaterLost s =
      .next (s.onDev (fun d => ({ d with weir := { d.weir with head := none, parent := none } } : Dev).setRf R.wxStatus 45 44 0)).settle) ∧
    (s.dev.linkUp port = true → exec (.dreqSend port) s = .next (s.onDev (fun d => d.txPkt port none true (d.ownPkt 8 0 0 0 [2, d.reg R.exTick]))).settle) ∧
    (s.dev.member = true → ∃ u : State, exec .syncSend s = .next u.settle ∧ u.mem = s.mem ∧ u.cores = s.cores) ∧
    (s.dev.member = true → bit (s.dev.reg R.wxStatus) 45 = false → exec .tmlost s = .next (s.onDev (fun d => d.wxEvent 6)).settle) ∧
    (∀ rq v, exec (.drainWrite rq v) s = .next (s.regWrite rq R.wxCtl 8 v).settle ∧ exec (.rejoin rq) s = .next (s.regWrite rq R.wxCtl 8 2).settle) ∧
    (s.dev.wxState = 3 → (s.dev.reg R.wxEpoch).toNat ≠ s.dev.weir.drainEp → s.dev.weir.outs = [] → s.dev.weir.inq = [] → s.dev.weir.tdb = [] →
      exec .drained s = .next (s.onDev (fun d => (d.setRf R.wxStatus 3 0 4).wxEvent 4)).settle) ∧
    (∀ slot, slot < 64 → bit (s.dev.reg (R.wxTsctl slot)) 56 = true → exec (.timedSendGo slot) s = .next (s.sendSlot slot none).settle) ∧
    (∀ rq core ctl v, core < 256 → exec (.timedControlWrite rq core ctl v) s = .next (s.regWrite rq (if ctl then R.wxTctl core else R.wxTrel core) 8 v).settle) ∧
    (∀ agent n e es run data typ ws dst, s.dev.ext.filter (fun e => e.weir && decide (e.agent = agent) && (decide (e.st = .accepted) || decide (e.st = .waiting))) = e :: es →
      run = (if e.write then e :: mergeRun e (n - 1) e.size es else [e]) → data = run.flatMap (·.data) → dst = e.pa / 2 ^ 35 % 65536 →
      (∀ w0 : Word, w0 = word (e.pa % 2 ^ 35 + 2 ^ 40 * ((if e.write then data.length else e.size) - 1)) →
        (e.write = false ∧ typ = 3 ∧ ws = [w0]) ∨ (e.write = true ∧ e.timed = none ∧ typ = 1 ∧ ws = w0 :: packWords data) ∨
        (e.write = true ∧ ∃ r b, e.timed = some (r, b) ∧ typ = 2 ∧ ws = w0 :: r :: b :: packWords data)) →
      (∀ st det, s.dev.outLocal dst typ = some (st, det) →
        exec (.outboundPacketSend agent n) s = .next (s.onDev (fun d => d.finishExt (fun x => run.contains x) st det [])).settle) ∧
      (∀ tag d0, s.dev.outLocal dst typ = none → s.dev.weir.outs.length < 8192 → s.dev.takeTag = (tag, d0) →
        exec (.outboundPacketSend agent n) s = .next (State.sendReq { s with dev := { d0 with
            weir := { d0.weir with outs := d0.weir.outs ++ [{ tag := tag, dst := dst, slot := none }] }
            ext := d0.ext.map (fun x => if run.contains x then { x with st := .sent, tag := tag } else x) } }
          { ver := 1, typ := typ, qos := e.qos, secure := e.secure, pond := e.pond, dst := dst, src := d0.wxAddr, hops := 0, flags := 0
            len := ws.length, seq := tag, stamp := 0, hcrc := 0, words := ws, crc := 0 }).settle))

/-- A lane that trains locks with the settings found; a fault starts its self-test; a spare request is made, acknowledged or
times out; a lane test starts on a free lane only and ends with its count; a frame that is too long, too short or damaged is
counted and not delivered, a good one that its filter passes is delivered to its ring; a MAC sends its next descriptor's frame
and hands the descriptor back, or stops the ring whose descriptor it cannot read; a ring's ITIME raises its edge; a restart is
a write of its register. (R366, R368, R369, R370, R371, R375, R383, R384, R385, R386.) -/
def Obligations.LaneAndEthernetCommandsComplete : Prop :=
  ∀ (s : State) (lane group port ring : Nat),
    (∀ ctle taps rx d0 d1, s.dev.laneState lane = 1 → s.dev.part.order.lane lane = true →
      d0 = s.dev.setReg (R.laneEq lane) (setFld (setFld 0 63 60 ctle) 29 0 taps) →
      d1 = ({ d0 with lane := { d0.lane with rx := Tab.set (fun _ => 0) d0.lane.rx lane (rx % 2 ^ 384) } } : Dev) →
      (lane = s.dev.spareLane (lane / 17) ∧ s.dev.lanePort lane = 0xFF → exec (.laneTrainingDone lane ctle taps rx) s =
        .next (State.saveLaneList { s with dev := (d1.setLane lane 3).setRf (spareReg (lane / 17)) 62 60 2 } [lane]).settle) ∧
      (¬(lane = s.dev.spareLane (lane / 17) ∧ s.dev.lanePort lane = 0xFF) →
        ∃ d2 : Dev, (d2 = d1.setLane lane 2 ∨ ∃ f, d2 = (d1.setLane lane 2).ethLink f true) ∧
          exec (.laneTrainingDone lane ctle taps rx) s = .next (State.saveLaneList { s with dev := d2 } [lane]).settle)) ∧
    (s.dev.laneState lane = 1 → bit (s.dev.reg (R.laneStatus lane)) 1 = true →
      exec (.savedTrainingTimeout lane) s = .next (s.onDev (fun d => d.setRf (R.laneStatus lane) 1 1 0)).settle) ∧
    (∀ uid, group < 8 → s.dev.spareState group = 2 → exec (.reserveCodeword group uid 0) s =
      .next (s.onDev (fun d => d.setReg (R.laneSpnuid (s.dev.spareLane group)) uid)).settle) ∧
    (group < 8 → (s.dev.spare group).ask.isSome = true → exec (.spareRequestTimeout group) s = .next (s.onDev (fun d => d.askRefused group)).settle) ∧
    (∀ l, group < 8 → bit (s.dev.reg (spareReg group)) 63 = true → (s.dev.spare group).ask = none → (s.dev.spare group).sw = none → l = s.dev.rf (spareReg group) 3 0 →
      (s.dev.spareUsable group l = true → exec (.spareGo group) s = .next (s.onDev (fun d => d.askSpare group l false)).settle) ∧
      (s.dev.spareUsable group l = false → exec (.spareGo group) s =
        .next (s.onDev (fun d => (d.setRf (spareReg group) 51 48 3).setRf (spareReg group) 63 63 0)).settle)) ∧
    (s.dev.laneState lane = 2 → s.dev.part.order.lane lane = true →
      ∃ u : State, exec (.laneFault lane) s = .next u.settle ∧ u.mem = s.mem ∧ u.cores = s.cores ∧ u.fuses = s.fuses) ∧
    (∀ mode c, (mode = 1 ∧ c = Instr.nearEndLoopback lane) ∨ (mode = 2 ∧ c = Instr.farEndLoopback lane) ∨ (mode = 3 ∧ c = Instr.prbsTest lane) →
      s.dev.part.order.lane lane = true → bit (s.dev.reg (R.laneTest lane)) 63 = true → s.dev.rf (R.laneTest lane) 62 60 = mode → s.dev.laneState lane ≠ 4 →
      (s.dev.laneFree lane = true → ∃ u : State, exec c s = .next u.settle ∧ u.mem = s.mem ∧ u.cores = s.cores ∧ u.dev.lane.was = Tab.set (fun _ => 0) s.dev.lane.was lane (s.dev.laneState lane)) ∧
      (s.dev.laneFree lane = false → exec c s = .next (s.onDev (fun d => (d.setRf (R.laneTest lane) 43 40 3).setRf (R.laneTest lane) 63 63 0)).settle)) ∧
    (∀ errors, bit (s.dev.reg (R.laneTest lane)) 63 = true → s.dev.laneState lane = 4 →
      ∃ u : State, exec (.laneTestEnd lane errors) s = .next u.settle ∧ u.mem = s.mem ∧ u.cores = s.cores ∧ u.dev.lane = s.dev.lane) ∧
    (∀ frame half, (ethOwner s.dev.felt.cfg port).isSome = true → s.dev.part.order.port port = true → bit (s.dev.reg (R.ethStatus port)) 63 = true →
      (2000 < frame.length → exec (.frameReceive port frame half) s = .next (s.onDev (fun d => d.ethCount (R.ethRxlong port))).settle) ∧
      (frame.length < 64 → exec (.frameReceive port frame half) s = .next (s.onDev (fun d => d.ethCount (R.ethRxrunt port))).settle) ∧
      (64 ≤ frame.length → frame.length ≤ 2000 → leAt frame (frame.length - 4) 4 ≠ crc32 (frame.take (frame.length - 4)) →
        exec (.frameReceive port frame half) s = .next (s.onDev (fun d => d.ethCount (R.ethRxfcs port))).settle)) ∧
    (∀ frame half data h feeds s1, (ethOwner s.dev.felt.cfg port).isSome = true → s.dev.part.order.port port = true → bit (s.dev.reg (R.ethStatus port)) 63 = true →
      64 ≤ frame.length → frame.length ≤ 2000 → data = frame.take (frame.length - 4) → leAt frame (frame.length - 4) 4 = crc32 data → h = ethHead data → h.etype ≠ 0x8808 →
      feeds = s.dev.felt.cfg.filter (fun r => match r with
        | .atbSource _ 2 i _ sel => decide (i = port) && decide (h.etype = 0x88BA) && decide (h.appid = some sel)
        | .atbSource _ 3 i _ _ => decide (i = port) && decide (h.etype = 0x88F7)
        | _ => false) →
      s1 = feeds.foldl (fun s r => match r with
        | .atbSource p 2 _ _ _ => s.onDev (fun d => d.svFeed p data h (s.dev.stamp port half false))
        | .atbSource _ 3 _ _ sel => State.ptpFeed s port sel data h (s.dev.stamp port half false)
        | _ => s) (s.onDev (fun d => d.wrapAdd (R.ethAtbfeed port) 63 0 feeds.length)) →
      (s1.dev.ethFilter port h = false → exec (.frameReceive port frame half) s = .next (s1.onDev (fun d => d.ethCount (R.ethRxfilt port))).settle) ∧
      (feeds = [] → s1.dev.ethFilter port h = true → (∀ k, k < 16 → s1.dev.ruleHit port k h = false) → bit (s1.dev.reg (R.ethCtl port)) 0 = true →
        exec (.frameReceive port frame half) s = .next (s1.ringDeliver port (ringOf h.etype) none h data (s.dev.stamp port half false)).settle)) ∧
    (∀ half, (ethOwner s.dev.felt.cfg port).isSome = true → s.dev.part.order.port port = true →
      (∀ f rest, s.dev.ptpQueue port = f :: rest → exec (.frameTransmit port half) s = .next (s.onDev (fun d => d.ptpTransmit port half f rest)).settle) ∧
      (∀ r da desc c pa n0 w s2, s.dev.ptpQueue port = [] → bit (s.dev.reg (R.ethCtl port)) 1 = true → s.dev.txRing port = some r →
        n0 = ringSize (s.dev.rf (R.ethTxctl port r) 3 0) → da = (s.dev.reg (R.ethTxbase port r)).toNat + 32 * (s.dev.rf (R.ethTxhead port r) 11 0 % n0) →
        s.Open (s.dev.ethReq port) da 32 → (∀ l ∈ linesOf da 32, s.mem.Unpoisoned l) → desc = s.mem.bytes da 32 → c = word (leAt desc 8 8) → bit c 63 = true →
        bit (s.dev.reg (R.ethStatus port)) 63 = true → bit c 62 = false → bit c 61 = false → 0 < fld c 15 0 → pa = leAt desc 0 8 / 64 * 64 % 2 ^ 52 →
        s.Open (s.dev.ethReq port) pa (fld c 15 0) → (∀ l ∈ linesOf pa (fld c 15 0), s.mem.Unpoisoned l) →
        s2 = ((s.readNote (s.dev.ethReq port) da 32 (s.dev.rf (R.ethRxctl port r) 47 46)).readNote (s.dev.ethReq port) pa (fld c 15 0)
            (s.dev.rf (R.ethRxctl port r) 47 46)).onDev
          (fun d => { d with lane := { d.lane with frame := Tab.set (fun _ => []) d.lane.frame port (wireFrame (s.mem.bytes pa (fld c 15 0)) false) } }) →
        w = s2.agentWrite (s.dev.ethReq port) (da + 8) (bytesLE 8 (setFld (setFld c 63 63 0) 59 56 0).toNat ++ []) none (s.dev.rf (R.ethRxctl port r) 47 46) →
        exec (.frameTransmit port half) s = .next (if w.1 ≠ 0 then w.2.onDev (fun d => d.ringStop port r)
          else w.2.onDev (fun d => d.setRf (R.ethTxhead port r) 11 0 ((s.dev.rf (R.ethTxhead port r) 11 0 + 1) % n0))).settle) ∧
      (∀ r da, s.dev.ptpQueue port = [] → bit (s.dev.reg (R.ethCtl port)) 1 = true → s.dev.txRing port = some r →
        da = (s.dev.reg (R.ethTxbase port r)).toNat + 32 * (s.dev.rf (R.ethTxhead port r) 11 0 % ringSize (s.dev.rf (R.ethTxctl port r) 3 0)) →
        prange da = .dram → s.dev.dramAdmit (s.dev.ethReq port) da 32 = false →
        exec (.frameTransmit port half) s = .next ((s.readNote (s.dev.ethReq port) da 32 (s.dev.rf (R.ethRxctl port r) 47 46)).onDev (fun d => d.ringStop port r)).settle)) ∧
    (∀ k, k = 4 * port + ring → ring < 4 → Tab.get (fun _ => 0) s.dev.lane.wback k ≠ 0 → s.dev.rf (R.ethRxctl port ring) 43 32 ≠ 0 →
      exec (.ringItimeExpiry port ring) s = .next (s.onDev (fun d =>
        ({ d with lane := { d.lane with wback := Tab.set (fun _ => 0) d.lane.wback k 0 } } : Dev).edge (d.ringSrc port ring))).settle) ∧
    (∀ rq, ring < 4 → port < 128 → exec (.ringRestart rq port ring) s =
      .next (s.regWrite rq (R.ethRxctl port ring) 8 (setBit (s.dev.reg (R.ethRxctl port ring)) 63 true)).settle) ∧
    ((ethOwner s.dev.felt.cfg port).isSome = true → bit (s.dev.reg (R.ethStatus port)) 63 = true →
      exec (.ethernetLinkDown port) s = .next (s.onDev (fun d => (d.ethLink port false).retrain port)).settle)

/-- While the endpoint is reached and serves, an aligned 4- or 8-byte BAR0 write acts on its register, another write is
dropped with its event and another read is answered as unsupported; the rows of BAR0 registers are such writes; BAR2 reads and
writes reach the function's DRAM, or are aborted; the expansion ROM is read where it is enabled. (R393, R394, R395, R396,
R397, R402, R404, R405, R407, R413, R417, R418.) -/
def Obligations.HostRequestsComplete : Prop :=
  ∀ (s : State) (fn : Nat), s.dev.hostReach = true → s.dev.hostServes = true →
    (∀ off size v, (size = 4 ∨ size = 8) → off % size = 0 → off + size ≤ bar0Size fn → s.dev.mse fn = true → s.dev.flrBusy fn = false →
      exec (.bar0Request fn off size true v) s = .next (s.bar0Write fn off size v).settle ∧
      (∀ w s1, s.bar0Read fn (off / 8 * 8) = (w, s1) → exec (.bar0Request fn off size false v) s =
        .next (s1.hostAns (.data (((bytesLE 8 w.toNat).drop (off % 8)).take size) false)).settle)) ∧
    (∀ off size v, size ≠ 4 → size ≠ 8 → off + size ≤ bar0Size fn → s.dev.mse fn = true →
      exec (.bar0Request fn off size true v) s = .next (s.onDev (fun d => d.fnEvent fn 3)).settle ∧
      exec (.bar0Request fn off size false v) s = .next (s.hostAns .unsupported).settle) ∧
    (s.dev.mse fn = true → s.dev.flrBusy fn = false →
      (∀ v, exec (.hdb fn v) s = .next (s.bar0Write fn 0x10 8 v).settle) ∧
      (∀ q v, q < 64 → exec (.sqtdb fn q v) s = .next (s.bar0Write fn (0x1000 + 16 * q) 8 v).settle ∧
        exec (.cqhdb fn q v) s = .next (s.bar0Write fn (0x1008 + 16 * q) 8 v).settle ∧ exec (.qctlWrite fn q v) s = .next (s.bar0Write fn (qCtl q) 8 v).settle)) ∧
    (s.dev.mse 0 = true → s.dev.flrBusy 0 = false →
      (∀ v w, 1 ≤ v → v ≤ 128 → exec (.dlctlSelWrite v w) s = .next (s.bar0Write 0 (dlCtl v) 8 w).settle) ∧
      exec (.devreset 0x44455652) s = .next s.devReset.settle ∧ exec (.pwrcyc 0x50575243) s = .next (s.onDev Dev.powerCycle).settle ∧
      (∀ key : Word, fld key 31 0 ≠ 0x44455652 → exec (.devreset key) s = .next s.settle) ∧ (∀ key : Word, fld key 31 0 ≠ 0x50575243 → exec (.pwrcyc key) s = .next s.settle)) ∧
    (∀ off len, 0 < len → len ≤ 4096 → off + len ≤ s.dev.bar2Size fn →
      (s.dev.bar2At fn off len = none → exec (.bar2Read fn off len) s = .next (s.hostAns .unsupported).settle) ∧
      (∀ pa, s.dev.bar2At fn off len = some pa → s.Open (s.dev.fnReq fn) pa len → (∀ l ∈ linesOf pa len, s.mem.Unpoisoned l) → exec (.bar2Read fn off len) s =
        .next ((s.readNote (s.dev.fnReq fn) pa len).hostAns (.parts (cplSplit s.dev.mps (len + 1) off (s.mem.bytes pa len)) false)).settle) ∧
      (∀ pa, s.dev.bar2At fn off len = some pa → prange pa = .dram → s.dev.dramAdmit (s.dev.fnReq fn) pa len = false →
        exec (.bar2Read fn off len) s = .next ((s.readNote (s.dev.fnReq fn) pa len).hostAns .abort).settle)) ∧
    (∀ off data pa, data ≠ [] → off + data.length ≤ s.dev.bar2Size fn → s.dev.bar2At fn off data.length = some pa → s.Open (s.dev.fnReq fn) pa data.length →
      exec (.bar2Write fn off data false) s = .next ((s.endLag pa data.length).putLines (s.dev.fnReq fn) pa data
        (if bit (s.dev.reg (R.pepFncfg fn)) 30 then some (s.dev.rf (R.pepFncfg fn) 23 16) else none) 1).settle) ∧
    (∀ off len, 0 < len → off + len ≤ 0xF0000 → (s.dev.cfg 0 0x30).testBit 0 = true → s.dev.mse 0 = true →
      exec (.expansionRomRead off len) s = .next (s.hostAns (.data ((List.range len).map (fun i => s.byte (nvBase + 0x900000 + (off + i)))) false)).settle)

/-- A configuration write changes the writable bits it reaches and its effects follow; FLR begins a function's reset, which
completes when no read of it is outstanding; clearing Bus Master Enable or VF Enable acts as its row says; the link goes down
and comes up; DISABLE, SETLIMIT and ENABLE answer the oldest queue command, and the doorbells of the pond's side move the
rings. (R387, R390, R398, R402, R403, R404, R405, R414, R415, R416.) -/
def Obligations.HostFunctionsAndQueuesComplete : Prop :=
  ∀ (s : State) (fn : Nat),
    (s.dev.fnExists fn = true →
      (∀ v off m, off < 4096 → off % 4 = 0 → off ≠ 0x58 → off ≠ 0xA0 → (off ≠ 0x104 ∧ off ≠ 0x110 ∨ fn ≠ 0) → (off ≠ 0x160 ∨ s.dev.vfEnable = false) →
        m = cfgMask s.dev.pep.b2log fn off &&& (2 ^ 32 - 1) → exec (.configWrite fn off 4 v) s =
        .next ((s.onDev (fun d => d.setCfg fn off ((s.dev.cfg fn off - (s.dev.cfg fn off &&& m)) ||| (v % 2 ^ 32 &&& m)))).cfgChanged s.dev).settle) ∧
      exec (.busMasterDisable fn) s = .next ((s.onDev (fun d => d.setCfg fn 4 (d.cfg fn 4 - (d.cfg fn 4 &&& 4)))).cfgChanged s.dev).settle ∧
      exec (.flr fn) s = .next (s.onDev (fun d => d.flrBegin fn)).settle) ∧
    (fn ≠ 0 → s.dev.flrBusy fn = true → (∀ r ∈ s.dev.pep.reads, r.fn ≠ fn) →
      ∃ u : State, exec (.flrComplete fn) s = .next u.settle ∧ u.mem = s.mem ∧ u.cores = s.cores ∧ u.fuses = s.fuses) ∧
    (s.dev.vfEnable = true → exec .vfEnableClear s = .next ((s.onDev (fun d => d.setCfg 0 0x158 (d.cfg 0 0x158 - 1))).cfgChanged s.dev).settle) ∧
    exec .pcieLinkDown s = .next (s.onDev (fun d => d.setRf R.pepStatus 63 55 0)).settle ∧
    (∀ speed width, 1 ≤ speed → speed ≤ 5 → width ∈ [1, 2, 4, 8, 16] → s.dev.domState 4 = 0 → exec (.pcieLinkUp speed width) s =
      .next ((List.range 129).foldl (fun s f => s.fnRun f)
        (s.onDev (fun d => ((d.setRf R.pepStatus 63 63 1).setRf R.pepStatus 62 60 speed).setRf R.pepStatus 59 55 width))).settle) ∧
    (∀ f q l d, s.dev.nextQcmd 2 = some (f, q, l, d) → exec .disable s =
      .next ({ s with dev := (((d.setQp f q QPair.off).actShow f q).qcmdStat (d.fnPond f) f q 0).fnEvent f 4 } : State).settle) ∧
    (∀ f q l d, s.dev.nextQcmd 3 = some (f, q, l, d) → 64 < l → exec .setlimit s = .next ({ s with dev := d.qcmdStat (d.fnPond f) f q 3 } : State).settle) ∧
    (∀ f q l d, s.dev.nextQcmd 3 = some (f, q, l, d) → l ≤ 64 → (∀ k, k < 64 → l ≤ k → (d.qp f k).on = false) → exec .setlimit s =
      .next ({ s with dev := ((((List.range 64).foldl (fun d k => d.actShow f k) (d.setRf (R.pepFncfg f) 45 39 l)).qcmdStat (d.fnPond f) f q 0).fnEvent f 4) } : State).settle) ∧
    (∀ f q l d s0 pa bs, s.dev.nextQcmd 1 = some (f, q, l, d) → s0 = { s with dev := d } →
      (d.qlimit f ≤ q → exec .enable s = .next (s0.onDev (fun d => d.qcmdStat (d.fnPond f) f q 3)).settle) ∧
      (q < d.qlimit f → (d.qp f q).on = true → exec .enable s = .next (s0.onDev (fun d => d.qcmdStat (d.fnPond f) f q 0)).settle) ∧
      (q < d.qlimit f → (d.qp f q).on = false → pa = (d.reg (R.pepQctxbase f)).toNat / 64 * 64 + 64 * q → s0.Open (d.fnReq f) pa 64 →
        (∀ l ∈ linesOf pa 64, s.mem.Unpoisoned l) → bs = s.mem.bytes pa 64 →
        exec .enable s = .next (((s0.readNote (d.fnReq f) pa 64).onDev (fun x =>
          (((((x.setQp f q { QPair.off with on := true, ctx := (List.range 8).map (fun i => word (leAt bs (8 * i) 8)) }).setHf f (qCtl q) 27 16 0).setHf
            f (qCtl q) 11 0 0).actShow f q).qcmdStat (d.fnPond f) f q 0).fnEvent f 4)).sqRun f q).settle)) ∧
    (∀ f q v d, s.dev.nextQdb 0 = some (f, q, v, d) → (d.qp f q).on = true → exec .jobRingHead s =
      .next (State.sqRun { s with dev := d.setQp f q { d.qp f q with jhead := v % (d.qp f q).jrSize } } f q).settle) ∧
    (∀ f q v d, s.dev.nextQdb 1 = some (f, q, v, d) → (d.qp f q).on = true → exec .completionRingTail s =
      .next (State.cqRun { s with dev := d.setQp f q { d.qp f q with ctail := v % (d.qp f q).crSize } } f q).settle)

/-- The endpoint sends the oldest angle-critical access it may send first; one whose function may not send finishes with
ABORTED, a write leaves as memory requests, a read as read requests; a completion ends its read with the data, poisoned, or
refused; a read that times out keeps its tag until it is released; the DMA rows write their registers and carry the channel
on. (R398, R399, R400, R408, R409, R415.) -/
def Obligations.OutboundAndDmaCommandsComplete : Prop :=
  ∀ (s : State),
    (s.dev.outReady = [] → exec .outboundAccess s = .next s) ∧
    (∀ e, s.dev.outReady.find? (fun e => decide (e.qos = 0)) = some e → s.dev.outNext = some (e, s.dev)) ∧
    (∀ e d f, s.dev.outNext = some (e, d) → f = (e.pa - hostBase) / 2 ^ 36 →
      (d.mayBus f = false → exec .outboundAccess s = .next ((State.hostBad { s with dev := d } e.pa 5).onDev (fun d => d.finishHost e 5 [])).settle) ∧
      (d.mayBus f = true → e.write = true → exec .outboundAccess s = .next (State.settle { s with dev := d.sendOut f e })) ∧
      (∀ d1, d.mayBus f = true → e.write = false → d1 = (splitAt4k d.mrrs (e.size + 1) e.host e.size).foldl
          (fun d p => (d.sendRead f p.1 p.2 (.access e.agent e.pa (p.1 - e.host))).2) d →
        exec .outboundAccess s = .next (State.settle { s with dev := { d1 with ext := d1.ext.map (fun x => if x = e then
          { x with st := .sent, data := List.replicate e.size 0, status := 0 } else x) } }))) ∧
    (∀ tag r, s.dev.pep.reads.find? (fun r => decide (r.tag = tag)) = some r →
      (∀ st p data, st ≠ 0 → exec (.pcieCompletion tag st p data) s = .next (s.readDone r 3 []).settle) ∧
      (∀ data, exec (.pcieCompletion tag 0 true data) s = .next (s.readDone r 6 []).settle) ∧
      (∀ data, r.len ≤ (r.got ++ data).length → exec (.pcieCompletion tag 0 false data) s = .next (s.readDone r 0 ((r.got ++ data).take r.len)).settle) ∧
      exec (.completionTimeout tag) s = .next ((s.readDone r 7 []).onDev (fun d =>
        ({ d with pep := { d.pep with squash := d.pep.squash ++ [(tag, r.fn)] } } : Dev).aer 14)).settle) ∧
    (∀ tag x st p data, s.dev.pep.reads.find? (fun r => decide (r.tag = tag)) = none → s.dev.pep.squash.find? (fun x => decide (x.1 = tag)) = some x →
      exec (.pcieCompletion tag st p data) s = .next (s.onDev (fun d => d.satInc (R.pepOutfail x.2) 59 48)).settle) ∧
    (∀ tag, exec (.squashedTagRelease tag) s = .next (s.onDev (fun d => { d with pep := { d.pep with squash := d.pep.squash.filter (fun x => decide (x.1 ≠ tag)) } })).settle) ∧
    (∀ rq fn v, fn ≤ 128 → exec (.cpltimeoutWrite rq fn v) s = .next (s.regWrite rq (R.pepCpltimeout fn) 8 v).settle) ∧
    (∀ c, c < 64 → (∀ rq v, exec (.dmaTailWrite rq c v) s = .next ((s.regWrite rq (R.dmaTail c) 8 v).dmaNext c).settle) ∧
      (∀ rq, exec (.dmaRestart rq c) s = .next ((s.regWrite rq (R.dmaCtl c) 8 (setBit (s.dev.reg (R.dmaCtl c)) 60 true)).dmaNext c).settle) ∧
      (∀ s1, s1 = (if (s.dev.job c).isSome then s else s.dmaNext c).dmaRun c → exec (.dmaDescriptorComplete c) s =
        .next (if (s1.dev.job c).isSome then s1 else s1.dmaNext c).settle))

/-- A change at a general pin that lasts longer than its filter acts on its level, inverted by INV, and a shorter one does
nothing; an input asserted too long sets STUCK and is counted; OUTSET, OUTCLR and a register write are writes of their
register; the debug port takes its instruction, with IDCODE and SAMPLE capturing their register and the driving instructions
acting as BYPASS while the device is felted and not in reset. (R4, R514, R515, R523, R525.) -/
def Obligations.PinsAndRegistersComplete : Prop :=
  ∀ (s : State),
    (∀ n level held, n < 256 → (s.dev.pinFilter n ≤ held → exec (.gpInputChange n level held) s =
        .next (s.onDev (fun d => d.pinLevel n (level != bit (d.reg (R.pinCfg n)) 45))).settle) ∧
      (held < s.dev.pinFilter n → exec (.gpInputChange n level held) s = .next s)) ∧
    (∀ n p sec, n < 256 → pinOwner s.dev.felt.cfg n = some (p, sec, 0) → s.dev.pinIn n = true → s.dev.rf (R.pinCfg n) 31 16 ≠ 0 → bit (s.dev.reg (R.pinCfg n)) 0 = false →
      exec (.pinStuckTimeout n) s = .next (s.onDev (fun d => (d.setRf (R.pinCfg n) 0 0 1).satInc R.pinStatus 47 32))) ∧
    (∀ rq j bits, j < 4 → exec (.outset rq j bits) s = .next (s.regWrite rq (R.pinOutset j) 8 bits).settle ∧
      exec (.outclr rq j bits) s = .next (s.regWrite rq (R.pinOutclr j) 8 bits).settle) ∧
    (∀ rq off size v, exec (.registerWrite rq off size v) s = .next (s.regWrite rq off size v).settle) ∧
    exec .smbusTimeout s = .next (s.onDev (fun d => { d with pins := { d.pins with busHeld := false } })) ∧
    exec .bypass s = .next (s.onDev (fun d => d.jtag .bypass)) ∧ exec .debug s = .next (s.onDev (fun d => d.jtag .debug)) ∧
    (∃ u : State, exec .idcode s = .next u ∧ u.dev.pins.jins = .idcode ∧ u.dev.pins.dr = word (idcode s.dev.part) ∧ u.mem = s.mem ∧ u.cores = s.cores ∧ u.dev.regs = s.dev.regs) ∧
    (∀ levels, ∃ u : State, exec (.samplePreload levels) s = .next u ∧ u.dev.pins.jins = .sample ∧ u.mem = s.mem ∧ u.cores = s.cores ∧ u.dev.regs = s.dev.regs) ∧
    (∀ c i, (c = Instr.extest ∧ i = JtagIns.extest) ∨ (c = Instr.clamp ∧ i = JtagIns.clamp) ∨ (c = Instr.highz ∧ i = JtagIns.highz) →
      exec c s = .next (s.onDev (fun d => d.jtag i)) ∧
      (s.dev.felt.felted = true → s.dev.pins.resetLow = false → (s.dev.jtag i).portIns = .bypass) ∧
      (s.dev.felt.felted = false ∨ s.dev.pins.resetLow = true → (s.dev.jtag i).portIns = i))

/-- Settling leaves the queue of commands, the count of free values, the fuses and memory as they were, starts at most cores
whose context waits, and of the device changes only the registers of the interrupt controller, the sluices, the event queue
and the run. (R266, R270, R275, R276, R283.) -/
def Obligations.SettlingTouchesOnlyEvents : Prop :=
  ∀ s : State, s.settle.pending = s.pending ∧ s.settle.free = s.free ∧ s.settle.fuses = s.fuses ∧ s.settle.mem = s.mem ∧
    (∀ k, (s.settle.core k) = s.core k ∨ ((s.core k).run = .waiting ∧ s.settle.core k = { s.core k with run := .running })) ∧
    s.settle.dev.part = s.dev.part ∧ s.settle.dev.hregs = s.dev.hregs ∧ s.settle.dev.felt = s.dev.felt ∧ s.settle.dev.chans = s.dev.chans ∧
    s.settle.dev.err = s.dev.err ∧ s.settle.dev.ext = s.dev.ext ∧ s.settle.dev.pins = s.dev.pins ∧ s.settle.dev.atb = s.dev.atb ∧
    s.settle.dev.weir = s.dev.weir ∧ s.settle.dev.digest = s.dev.digest ∧ s.settle.dev.net = s.dev.net ∧ s.settle.dev.lane = s.dev.lane ∧
    s.settle.dev.pep = s.dev.pep ∧ s.settle.dev.pwr = s.dev.pwr

/-- From every state whose memory has its canonical form and that has the four key fuses and revocation fuses of the part, a
step that answers a next state gives a state of which the same holds. (R209, R438, R467.) -/
def Obligations.StepsKeepSoundness : Prop :=
  ∀ (s t : State), s.Sound → step s = .next t → t.Sound

/-- From every state in which each core has four levels of loop registers in each bank, eight stream lanes and eight segments
in each world, and no long operation in progress that would write files of another size, a step that answers a next state
gives a state of which the same holds. (R106, R142, R181.) -/
def Obligations.StepsKeepCoresShaped : Prop :=
  ∀ (s t : State), (∀ k, (s.core k).Shaped) → step s = .next t → ∀ k, (t.core k).Shaped

/-- After reset memory has its canonical form, there are four key fuses and four revocation fuses, and the register files of
every core have their sizes. (R106, R142, R181, R209, R438, R494.) -/
def Obligations.ResetMeetsTheInvariants : Prop :=
  State.reset.Sound ∧ ∀ k, (State.reset.core k).Shaped

/-- In every step, a key slot that has been programmed keeps its key and a revocation fuse that has been blown stays blown.
(R438, R439.) -/
def Obligations.FusesOnlyGrow : Prop :=
  ∀ (s t : State), step s = .next t → s.fuses.Grow t.fuses
end

