-- ==== Sys2Proof/Laws/Tab.lean ====
section
/-! SUPPORT. Sparse tables: a read after a write, and the canonical form that every write keeps. -/

namespace Sys2Proof.Machine

theorem Tab.find_ins {α : Type} (t : Tab α) (k j : Nat) (v : α) :
    Tab.find (Tab.ins t k v) j = if j = k then some v else Tab.find t j := by
  induction t with
  | nil =>
    simp only [Tab.ins, Tab.find]
    by_cases hj : j = k
    · rw [if_pos hj, if_pos hj.symm]
    · rw [if_neg hj, if_neg (fun e => hj e.symm)]
  | cons e t ih =>
    obtain ⟨k', v'⟩ := e
    simp only [Tab.ins]
    by_cases hj : j = k
    · rw [if_pos hj]
      by_cases h1 : k < k'
      · rw [if_pos h1, Tab.find, if_pos hj.symm]
      · rw [if_neg h1]
        by_cases h2 : k' = k
        · rw [if_pos h2, Tab.find, if_pos hj.symm]
        · rw [if_neg h2, Tab.find, if_neg (fun e => h2 (e.trans hj)), ih, if_pos hj]
    · rw [if_neg hj]
      by_cases h1 : k < k'
      · rw [if_pos h1, Tab.find, if_neg (fun e => hj e.symm)]
      · rw [if_neg h1]
        by_cases h2 : k' = k
        · rw [if_pos h2, Tab.find, Tab.find, if_neg (fun e => hj e.symm), if_neg (fun e => hj (e.symm.trans h2))]
        · rw [if_neg h2, Tab.find, Tab.find, ih, if_neg hj]

/-- A table whose keys rise from `lo` lists no key below `lo`. -/
theorem Tab.find_below {α : Type} (t : Tab α) (lo j : Nat) (h : Tab.rising lo t = true) (hj : j < lo) : Tab.find t j = none := by
  induction t generalizing lo with
  | nil => rfl
  | cons e t ih =>
    obtain ⟨k', v'⟩ := e
    simp only [Tab.rising, Bool.and_eq_true, decide_eq_true_eq] at h
    simp only [Tab.find]
    rw [if_neg (by omega)]
    exact ih (k' + 1) h.2 (by omega)

theorem Tab.rising_mono {α : Type} (t : Tab α) (a b : Nat) (h : Tab.rising b t = true) (hab : a ≤ b) : Tab.rising a t = true := by
  cases t with
  | nil => rfl
  | cons e t =>
    obtain ⟨k', v'⟩ := e
    simp only [Tab.rising, Bool.and_eq_true, decide_eq_true_eq] at h ⊢
    exact ⟨by omega, h.2⟩

theorem Tab.find_del {α : Type} (t : Tab α) (lo k j : Nat) (h : Tab.rising lo t = true) :
    Tab.find (Tab.del t k) j = if j = k then none else Tab.find t j := by
  induction t generalizing lo with
  | nil => simp [Tab.del, Tab.find]
  | cons e t ih =>
    obtain ⟨k', v'⟩ := e
    simp only [Tab.rising, Bool.and_eq_true, decide_eq_true_eq] at h
    simp only [Tab.del]
    by_cases h1 : k' = k
    · rw [if_pos h1]
      by_cases hj : j = k
      · rw [if_pos hj]; exact Tab.find_below t (k' + 1) j h.2 (by omega)
      · rw [if_neg hj, Tab.find, if_neg (fun e => hj (e.symm.trans h1))]
    · rw [if_neg h1]
      by_cases h2 : k < k'
      · rw [if_pos h2]
        by_cases hj : j = k
        · rw [if_pos hj, Tab.find, if_neg (fun e => h1 (e.trans hj))]
          exact Tab.find_below t (k' + 1) j h.2 (by omega)
        · rw [if_neg hj]
      · rw [if_neg h2, Tab.find, Tab.find, ih (k' + 1) h.2]
        by_cases hj : j = k
        · rw [if_pos hj, if_neg (fun e => h1 (e.trans hj)), if_pos hj]
        · rw [if_neg hj, if_neg hj]

/-- A read after a write of a canonical table. -/
theorem Tab.get_set {α : Type} [DecidableEq α] (d : Nat → α) (t : Tab α) (lo k j : Nat) (v : α) (h : Tab.rising lo t = true) :
    Tab.get d (Tab.set d t k v) j = if j = k then v else Tab.get d t j := by
  unfold Tab.get Tab.set
  split
  · rw [Tab.find_del t lo k j h]
    split <;> simp_all
  · rw [Tab.find_ins]
    split <;> simp_all

/-- A value that is not the default reads back from any table. -/
theorem Tab.get_set_of_ne {α : Type} [DecidableEq α] (d : Nat → α) (t : Tab α) (k : Nat) (v : α) (h : v ≠ d k) :
    Tab.get d (Tab.set d t k v) k = v := by
  simp [Tab.get, Tab.set, h, Tab.find_ins]

theorem Tab.rising_ins {α : Type} (t : Tab α) (lo k : Nat) (v : α) (h : Tab.rising lo t = true) (hk : lo ≤ k) :
    Tab.rising lo (Tab.ins t k v) = true := by
  induction t generalizing lo with
  | nil => simp [Tab.ins, Tab.rising, hk]
  | cons e t ih =>
    obtain ⟨k', v'⟩ := e
    simp only [Tab.rising, Bool.and_eq_true, decide_eq_true_eq] at h
    simp only [Tab.ins]
    by_cases h1 : k < k'
    · simp [h1, Tab.rising, hk, h.2] <;> omega
    · by_cases h2 : k' = k
      · simp [h2, Tab.rising, hk]; rw [← h2]; exact h.2
      · simp only [h1, h2, if_false, Tab.rising, Bool.and_eq_true, decide_eq_true_eq]
        exact ⟨h.1, ih (k' + 1) h.2 (by omega)⟩

theorem Tab.rising_del {α : Type} (t : Tab α) (lo k : Nat) (h : Tab.rising lo t = true) : Tab.rising lo (Tab.del t k) = true := by
  induction t generalizing lo with
  | nil => rfl
  | cons e t ih =>
    obtain ⟨k', v'⟩ := e
    have h' := h
    simp only [Tab.rising, Bool.and_eq_true, decide_eq_true_eq] at h
    simp only [Tab.del]
    split
    · exact Tab.rising_mono t lo (k' + 1) h.2 (by omega)
    · split
      · exact h'
      · simp only [Tab.rising, Bool.and_eq_true, decide_eq_true_eq]
        exact ⟨h.1, ih (k' + 1) h.2⟩

theorem Tab.rising_set {α : Type} [DecidableEq α] (d : Nat → α) (t : Tab α) (k : Nat) (v : α) (h : Tab.rising 0 t = true) :
    Tab.rising 0 (Tab.set d t k v) = true := by
  unfold Tab.set
  split
  · exact Tab.rising_del t 0 k h
  · exact Tab.rising_ins t 0 k v h (Nat.zero_le k)

theorem Tab.mem_del {α : Type} (t : Tab α) (k : Nat) (e : Nat × α) (h : e ∈ Tab.del t k) : e ∈ t := by
  induction t with
  | nil => exact h
  | cons x t ih =>
    obtain ⟨k', v'⟩ := x
    simp only [Tab.del] at h
    split at h
    · exact List.mem_cons_of_mem _ h
    · split at h
      · exact h
      · rcases List.mem_cons.mp h with h | h
        · exact h ▸ List.mem_cons_self
        · exact List.mem_cons_of_mem _ (ih h)

theorem Tab.mem_ins {α : Type} (t : Tab α) (k : Nat) (v : α) (e : Nat × α) (h : e ∈ Tab.ins t k v) : e = (k, v) ∨ e ∈ t := by
  induction t with
  | nil => exact Or.inl (by simpa [Tab.ins] using h)
  | cons x t ih =>
    obtain ⟨k', v'⟩ := x
    simp only [Tab.ins] at h
    split at h
    · exact List.mem_cons.mp h
    · split at h
      · rcases List.mem_cons.mp h with h | h
        · exact Or.inl h
        · exact Or.inr (List.mem_cons_of_mem _ h)
      · rcases List.mem_cons.mp h with h | h
        · exact Or.inr (h ▸ List.mem_cons_self)
        · exact (ih h).imp id (List.mem_cons_of_mem _)

/-- Every write keeps the canonical form. -/
theorem Tab.wf_set {α : Type} [DecidableEq α] (d : Nat → α) (t : Tab α) (k : Nat) (v : α) (h : Tab.wf d t = true) :
    Tab.wf d (Tab.set d t k v) = true := by
  simp only [Tab.wf, Bool.and_eq_true, List.all_eq_true, decide_eq_true_eq] at h ⊢
  refine ⟨Tab.rising_set d t k v h.1, fun e he => ?_⟩
  unfold Tab.set at he
  split at he
  · exact h.2 e (Tab.mem_del t k e he)
  · rcases Tab.mem_ins t k v e he with rfl | he
    · assumption
    · exact h.2 e he

/-- Leaving out entries keeps the canonical form. -/
theorem Tab.wf_filter {α : Type} [DecidableEq α] (d : Nat → α) (t : Tab α) (p : Nat × α → Bool) (h : Tab.wf d t = true) :
    Tab.wf d (t.filter p) = true := by
  simp only [Tab.wf, Bool.and_eq_true, List.all_eq_true, decide_eq_true_eq] at h ⊢
  refine ⟨?_, fun e he => h.2 e (List.mem_filter.mp he).1⟩
  have hr : ∀ (t : Tab α) (lo : Nat), Tab.rising lo t = true → Tab.rising lo (t.filter p) = true := by
    intro t
    induction t with
    | nil => intro _ _; rfl
    | cons e t ih =>
      intro lo hl
      obtain ⟨k', v'⟩ := e
      simp only [Tab.rising, Bool.and_eq_true, decide_eq_true_eq] at hl
      by_cases hp : p (k', v') = true
      · simp only [List.filter_cons, hp, if_true, Tab.rising, Bool.and_eq_true, decide_eq_true_eq]
        exact ⟨hl.1, ih (k' + 1) hl.2⟩
      · simp only [List.filter_cons, hp]
        exact Tab.rising_mono _ lo (k' + 1) (ih (k' + 1) hl.2) (by omega)
  exact hr t 0 h.1

end Sys2Proof.Machine
end

