-- ==== Sys2Proof/Laws/State.lean ====
section
/-! SUPPORT. What the updates of State leave in each field, and a core read after it is written. -/

namespace Sys2Proof.Machine

@[simp] theorem State.onDev_pending (s : State) (f : Dev → Dev) : (s.onDev f).pending = s.pending := rfl
@[simp] theorem State.onDev_free (s : State) (f : Dev → Dev) : (s.onDev f).free = s.free := rfl
@[simp] theorem State.onDev_fuses (s : State) (f : Dev → Dev) : (s.onDev f).fuses = s.fuses := rfl
@[simp] theorem State.onDev_mem (s : State) (f : Dev → Dev) : (s.onDev f).mem = s.mem := rfl
@[simp] theorem State.onDev_cores (s : State) (f : Dev → Dev) : (s.onDev f).cores = s.cores := rfl
@[simp] theorem State.onDev_dev (s : State) (f : Dev → Dev) : (s.onDev f).dev = f s.dev := rfl

@[simp] theorem State.onMem_pending (s : State) (f : MemSt → MemSt) : (s.onMem f).pending = s.pending := rfl
@[simp] theorem State.onMem_free (s : State) (f : MemSt → MemSt) : (s.onMem f).free = s.free := rfl
@[simp] theorem State.onMem_fuses (s : State) (f : MemSt → MemSt) : (s.onMem f).fuses = s.fuses := rfl
@[simp] theorem State.onMem_mem (s : State) (f : MemSt → MemSt) : (s.onMem f).mem = f s.mem := rfl
@[simp] theorem State.onMem_cores (s : State) (f : MemSt → MemSt) : (s.onMem f).cores = s.cores := rfl
@[simp] theorem State.onMem_dev (s : State) (f : MemSt → MemSt) : (s.onMem f).dev = s.dev := rfl

@[simp] theorem State.setCore_pending (s : State) (k : Nat) (c : Core) : (s.setCore k c).pending = s.pending := rfl
@[simp] theorem State.setCore_free (s : State) (k : Nat) (c : Core) : (s.setCore k c).free = s.free := rfl
@[simp] theorem State.setCore_fuses (s : State) (k : Nat) (c : Core) : (s.setCore k c).fuses = s.fuses := rfl
@[simp] theorem State.setCore_mem (s : State) (k : Nat) (c : Core) : (s.setCore k c).mem = s.mem := rfl
@[simp] theorem State.setCore_cores (s : State) (k : Nat) (c : Core) : (s.setCore k c).cores = Tab.set Core.off s.cores k c := rfl
@[simp] theorem State.setCore_dev (s : State) (k : Nat) (c : Core) : (s.setCore k c).dev = s.dev := rfl

@[simp] theorem State.modCore_pending (s : State) (k : Nat) (f : Core → Core) : (s.modCore k f).pending = s.pending := rfl
@[simp] theorem State.modCore_free (s : State) (k : Nat) (f : Core → Core) : (s.modCore k f).free = s.free := rfl
@[simp] theorem State.modCore_fuses (s : State) (k : Nat) (f : Core → Core) : (s.modCore k f).fuses = s.fuses := rfl
@[simp] theorem State.modCore_mem (s : State) (k : Nat) (f : Core → Core) : (s.modCore k f).mem = s.mem := rfl
@[simp] theorem State.modCore_cores (s : State) (k : Nat) (f : Core → Core) : (s.modCore k f).cores = Tab.set Core.off s.cores k (f (s.core k)) := rfl
@[simp] theorem State.modCore_dev (s : State) (k : Nat) (f : Core → Core) : (s.modCore k f).dev = s.dev := rfl

@[simp] theorem State.modBank_pending (s : State) (k : Nat) (f : Bank → Bank) : (s.modBank k f).pending = s.pending := rfl
@[simp] theorem State.modBank_free (s : State) (k : Nat) (f : Bank → Bank) : (s.modBank k f).free = s.free := rfl
@[simp] theorem State.modBank_fuses (s : State) (k : Nat) (f : Bank → Bank) : (s.modBank k f).fuses = s.fuses := rfl
@[simp] theorem State.modBank_mem (s : State) (k : Nat) (f : Bank → Bank) : (s.modBank k f).mem = s.mem := rfl
@[simp] theorem State.modBank_cores (s : State) (k : Nat) (f : Bank → Bank) : (s.modBank k f).cores = Tab.set Core.off s.cores k ((s.core k).modBank f) := rfl
@[simp] theorem State.modBank_dev (s : State) (k : Nat) (f : Bank → Bank) : (s.modBank k f).dev = s.dev := rfl

@[simp] theorem State.settle_pending (s : State) : s.settle.pending = s.pending := rfl
@[simp] theorem State.settle_free (s : State) : s.settle.free = s.free := rfl
@[simp] theorem State.settle_fuses (s : State) : s.settle.fuses = s.fuses := rfl
@[simp] theorem State.settle_mem (s : State) : s.settle.mem = s.mem := rfl
@[simp] theorem State.settle_dev (s : State) : s.settle.dev = s.dev.settle s.cores := rfl

@[simp] theorem State.core_onDev (s : State) (f : Dev → Dev) (k : Nat) : (s.onDev f).core k = s.core k := rfl
@[simp] theorem State.core_onMem (s : State) (f : MemSt → MemSt) (k : Nat) : (s.onMem f).core k = s.core k := rfl

/-- A core that does not hold the value of a core at power-up reads back as it was written. -/
theorem State.core_setCore (s : State) (k : Nat) (c : Core) (h : c ≠ Core.off k) : (s.setCore k c).core k = c := by
  simp only [State.core, State.setCore]
  exact Tab.get_set_of_ne Core.off s.cores k c h

/-- A core that is out of reset reads back as it was changed. -/
theorem State.core_modCore (s : State) (k : Nat) (f : Core → Core) (h : (f (s.core k)).run ≠ .inReset) :
    (s.modCore k f).core k = f (s.core k) :=
  State.core_setCore s k _ (fun e => h (by rw [e]; rfl))

/-- Writing a core that is out of reset leaves every other core as it was. -/
theorem State.core_setCore_ne (s : State) (k j : Nat) (c : Core) (hc : c ≠ Core.off k) (h : j ≠ k) : (s.setCore k c).core j = s.core j := by
  simp only [State.core, State.setCore, Tab.get, Tab.set, if_neg hc, Tab.find_ins, if_neg h]

theorem State.core_modCore_ne (s : State) (k j : Nat) (f : Core → Core) (hc : (f (s.core k)).run ≠ .inReset) (h : j ≠ k) :
    (s.modCore k f).core j = s.core j :=
  State.core_setCore_ne s k j _ (fun e => hc (by rw [e]; rfl)) h

/-- A change of the running bank leaves which bank runs and the rest of the core. -/
@[simp] theorem Core.modBank_run (c : Core) (f : Bank → Bank) : (c.modBank f).run = c.run := by
  unfold Core.modBank Core.setBank; split <;> rfl
@[simp] theorem Core.modBank_inB1 (c : Core) (f : Bank → Bank) : (c.modBank f).inB1 = c.inB1 := by
  unfold Core.modBank Core.setBank; split <;> rfl
@[simp] theorem Core.modBank_bank (c : Core) (f : Bank → Bank) : (c.modBank f).bank = f c.bank := by
  cases h : c.inB1 <;> simp [Core.modBank, Core.setBank, Core.bank, h]

/-- The running bank of a core that is out of reset reads back as it was changed. -/
theorem State.bank_modBank (s : State) (k : Nat) (f : Bank → Bank) (h : (s.core k).run ≠ .inReset) :
    ((s.modBank k f).core k).bank = f (s.core k).bank := by
  unfold State.modBank
  rw [State.core_modCore s k _ (by simpa using h), Core.modBank_bank]

end Sys2Proof.Machine
end

