-- ==== Sys2Proof/Laws/Dev.lean ====
section
/-! SUPPORT. What the updates of the device and of memory leave in each field. -/

namespace Sys2Proof.Machine

@[simp] theorem Dev.setReg_part (d : Dev) (off : Nat) (v : Word) : (d.setReg off v).part = d.part := rfl
@[simp] theorem Dev.setReg_regs (d : Dev) (off : Nat) (v : Word) : (d.setReg off v).regs = Tab.set regReset d.regs off v := rfl
@[simp] theorem Dev.setReg_hregs (d : Dev) (off : Nat) (v : Word) : (d.setReg off v).hregs = d.hregs := rfl
@[simp] theorem Dev.setReg_felt (d : Dev) (off : Nat) (v : Word) : (d.setReg off v).felt = d.felt := rfl
@[simp] theorem Dev.setReg_slu (d : Dev) (off : Nat) (v : Word) : (d.setReg off v).slu = d.slu := rfl
@[simp] theorem Dev.setReg_ic (d : Dev) (off : Nat) (v : Word) : (d.setReg off v).ic = d.ic := rfl
@[simp] theorem Dev.setReg_chans (d : Dev) (off : Nat) (v : Word) : (d.setReg off v).chans = d.chans := rfl
@[simp] theorem Dev.setReg_err (d : Dev) (off : Nat) (v : Word) : (d.setReg off v).err = d.err := rfl
@[simp] theorem Dev.setReg_ext (d : Dev) (off : Nat) (v : Word) : (d.setReg off v).ext = d.ext := rfl
@[simp] theorem Dev.setReg_wakes (d : Dev) (off : Nat) (v : Word) : (d.setReg off v).wakes = d.wakes := rfl
@[simp] theorem Dev.setReg_pins (d : Dev) (off : Nat) (v : Word) : (d.setReg off v).pins = d.pins := rfl
@[simp] theorem Dev.setReg_atb (d : Dev) (off : Nat) (v : Word) : (d.setReg off v).atb = d.atb := rfl
@[simp] theorem Dev.setReg_weir (d : Dev) (off : Nat) (v : Word) : (d.setReg off v).weir = d.weir := rfl
@[simp] theorem Dev.setReg_digest (d : Dev) (off : Nat) (v : Word) : (d.setReg off v).digest = d.digest := rfl
@[simp] theorem Dev.setReg_net (d : Dev) (off : Nat) (v : Word) : (d.setReg off v).net = d.net := rfl
@[simp] theorem Dev.setReg_noc (d : Dev) (off : Nat) (v : Word) : (d.setReg off v).noc = d.noc := rfl
@[simp] theorem Dev.setReg_lane (d : Dev) (off : Nat) (v : Word) : (d.setReg off v).lane = d.lane := rfl
@[simp] theorem Dev.setReg_pep (d : Dev) (off : Nat) (v : Word) : (d.setReg off v).pep = d.pep := rfl
@[simp] theorem Dev.setReg_pwr (d : Dev) (off : Nat) (v : Word) : (d.setReg off v).pwr = d.pwr := rfl

@[simp] theorem Dev.setRf_part (d : Dev) (off hi lo v : Nat) : (d.setRf off hi lo v).part = d.part := rfl
@[simp] theorem Dev.setRf_regs (d : Dev) (off hi lo v : Nat) : (d.setRf off hi lo v).regs = Tab.set regReset d.regs off (setFld (d.reg off) hi lo v) := rfl
@[simp] theorem Dev.setRf_hregs (d : Dev) (off hi lo v : Nat) : (d.setRf off hi lo v).hregs = d.hregs := rfl
@[simp] theorem Dev.setRf_felt (d : Dev) (off hi lo v : Nat) : (d.setRf off hi lo v).felt = d.felt := rfl
@[simp] theorem Dev.setRf_slu (d : Dev) (off hi lo v : Nat) : (d.setRf off hi lo v).slu = d.slu := rfl
@[simp] theorem Dev.setRf_ic (d : Dev) (off hi lo v : Nat) : (d.setRf off hi lo v).ic = d.ic := rfl
@[simp] theorem Dev.setRf_chans (d : Dev) (off hi lo v : Nat) : (d.setRf off hi lo v).chans = d.chans := rfl
@[simp] theorem Dev.setRf_err (d : Dev) (off hi lo v : Nat) : (d.setRf off hi lo v).err = d.err := rfl
@[simp] theorem Dev.setRf_ext (d : Dev) (off hi lo v : Nat) : (d.setRf off hi lo v).ext = d.ext := rfl
@[simp] theorem Dev.setRf_wakes (d : Dev) (off hi lo v : Nat) : (d.setRf off hi lo v).wakes = d.wakes := rfl
@[simp] theorem Dev.setRf_pins (d : Dev) (off hi lo v : Nat) : (d.setRf off hi lo v).pins = d.pins := rfl
@[simp] theorem Dev.setRf_atb (d : Dev) (off hi lo v : Nat) : (d.setRf off hi lo v).atb = d.atb := rfl
@[simp] theorem Dev.setRf_weir (d : Dev) (off hi lo v : Nat) : (d.setRf off hi lo v).weir = d.weir := rfl
@[simp] theorem Dev.setRf_digest (d : Dev) (off hi lo v : Nat) : (d.setRf off hi lo v).digest = d.digest := rfl
@[simp] theorem Dev.setRf_net (d : Dev) (off hi lo v : Nat) : (d.setRf off hi lo v).net = d.net := rfl
@[simp] theorem Dev.setRf_noc (d : Dev) (off hi lo v : Nat) : (d.setRf off hi lo v).noc = d.noc := rfl
@[simp] theorem Dev.setRf_lane (d : Dev) (off hi lo v : Nat) : (d.setRf off hi lo v).lane = d.lane := rfl
@[simp] theorem Dev.setRf_pep (d : Dev) (off hi lo v : Nat) : (d.setRf off hi lo v).pep = d.pep := rfl
@[simp] theorem Dev.setRf_pwr (d : Dev) (off hi lo v : Nat) : (d.setRf off hi lo v).pwr = d.pwr := rfl

@[simp] theorem Dev.setChan_part (d : Dev) (ch : Nat) (c : Chan) : (d.setChan ch c).part = d.part := rfl
@[simp] theorem Dev.setChan_regs (d : Dev) (ch : Nat) (c : Chan) : (d.setChan ch c).regs = d.regs := rfl
@[simp] theorem Dev.setChan_hregs (d : Dev) (ch : Nat) (c : Chan) : (d.setChan ch c).hregs = d.hregs := rfl
@[simp] theorem Dev.setChan_felt (d : Dev) (ch : Nat) (c : Chan) : (d.setChan ch c).felt = d.felt := rfl
@[simp] theorem Dev.setChan_slu (d : Dev) (ch : Nat) (c : Chan) : (d.setChan ch c).slu = d.slu := rfl
@[simp] theorem Dev.setChan_ic (d : Dev) (ch : Nat) (c : Chan) : (d.setChan ch c).ic = d.ic := rfl
@[simp] theorem Dev.setChan_chans (d : Dev) (ch : Nat) (c : Chan) : (d.setChan ch c).chans = Tab.set (fun _ => Chan.off) d.chans ch c := rfl
@[simp] theorem Dev.setChan_err (d : Dev) (ch : Nat) (c : Chan) : (d.setChan ch c).err = d.err := rfl
@[simp] theorem Dev.setChan_ext (d : Dev) (ch : Nat) (c : Chan) : (d.setChan ch c).ext = d.ext := rfl
@[simp] theorem Dev.setChan_wakes (d : Dev) (ch : Nat) (c : Chan) : (d.setChan ch c).wakes = d.wakes := rfl
@[simp] theorem Dev.setChan_pins (d : Dev) (ch : Nat) (c : Chan) : (d.setChan ch c).pins = d.pins := rfl
@[simp] theorem Dev.setChan_atb (d : Dev) (ch : Nat) (c : Chan) : (d.setChan ch c).atb = d.atb := rfl
@[simp] theorem Dev.setChan_weir (d : Dev) (ch : Nat) (c : Chan) : (d.setChan ch c).weir = d.weir := rfl
@[simp] theorem Dev.setChan_digest (d : Dev) (ch : Nat) (c : Chan) : (d.setChan ch c).digest = d.digest := rfl
@[simp] theorem Dev.setChan_net (d : Dev) (ch : Nat) (c : Chan) : (d.setChan ch c).net = d.net := rfl
@[simp] theorem Dev.setChan_noc (d : Dev) (ch : Nat) (c : Chan) : (d.setChan ch c).noc = d.noc := rfl
@[simp] theorem Dev.setChan_lane (d : Dev) (ch : Nat) (c : Chan) : (d.setChan ch c).lane = d.lane := rfl
@[simp] theorem Dev.setChan_pep (d : Dev) (ch : Nat) (c : Chan) : (d.setChan ch c).pep = d.pep := rfl
@[simp] theorem Dev.setChan_pwr (d : Dev) (ch : Nat) (c : Chan) : (d.setChan ch c).pwr = d.pwr := rfl

@[simp] theorem Dev.modChan_part (d : Dev) (ch : Nat) (f : Chan → Chan) : (d.modChan ch f).part = d.part := rfl
@[simp] theorem Dev.modChan_regs (d : Dev) (ch : Nat) (f : Chan → Chan) : (d.modChan ch f).regs = d.regs := rfl
@[simp] theorem Dev.modChan_hregs (d : Dev) (ch : Nat) (f : Chan → Chan) : (d.modChan ch f).hregs = d.hregs := rfl
@[simp] theorem Dev.modChan_felt (d : Dev) (ch : Nat) (f : Chan → Chan) : (d.modChan ch f).felt = d.felt := rfl
@[simp] theorem Dev.modChan_slu (d : Dev) (ch : Nat) (f : Chan → Chan) : (d.modChan ch f).slu = d.slu := rfl
@[simp] theorem Dev.modChan_ic (d : Dev) (ch : Nat) (f : Chan → Chan) : (d.modChan ch f).ic = d.ic := rfl
@[simp] theorem Dev.modChan_chans (d : Dev) (ch : Nat) (f : Chan → Chan) : (d.modChan ch f).chans = Tab.set (fun _ => Chan.off) d.chans ch (f (d.chan ch)) := rfl
@[simp] theorem Dev.modChan_err (d : Dev) (ch : Nat) (f : Chan → Chan) : (d.modChan ch f).err = d.err := rfl
@[simp] theorem Dev.modChan_ext (d : Dev) (ch : Nat) (f : Chan → Chan) : (d.modChan ch f).ext = d.ext := rfl
@[simp] theorem Dev.modChan_wakes (d : Dev) (ch : Nat) (f : Chan → Chan) : (d.modChan ch f).wakes = d.wakes := rfl
@[simp] theorem Dev.modChan_pins (d : Dev) (ch : Nat) (f : Chan → Chan) : (d.modChan ch f).pins = d.pins := rfl
@[simp] theorem Dev.modChan_atb (d : Dev) (ch : Nat) (f : Chan → Chan) : (d.modChan ch f).atb = d.atb := rfl
@[simp] theorem Dev.modChan_weir (d : Dev) (ch : Nat) (f : Chan → Chan) : (d.modChan ch f).weir = d.weir := rfl
@[simp] theorem Dev.modChan_digest (d : Dev) (ch : Nat) (f : Chan → Chan) : (d.modChan ch f).digest = d.digest := rfl
@[simp] theorem Dev.modChan_net (d : Dev) (ch : Nat) (f : Chan → Chan) : (d.modChan ch f).net = d.net := rfl
@[simp] theorem Dev.modChan_noc (d : Dev) (ch : Nat) (f : Chan → Chan) : (d.modChan ch f).noc = d.noc := rfl
@[simp] theorem Dev.modChan_lane (d : Dev) (ch : Nat) (f : Chan → Chan) : (d.modChan ch f).lane = d.lane := rfl
@[simp] theorem Dev.modChan_pep (d : Dev) (ch : Nat) (f : Chan → Chan) : (d.modChan ch f).pep = d.pep := rfl
@[simp] theorem Dev.modChan_pwr (d : Dev) (ch : Nat) (f : Chan → Chan) : (d.modChan ch f).pwr = d.pwr := rfl

@[simp] theorem Dev.setCtx_part (d : Dev) (k : Nat) (x : Ctx) : (d.setCtx k x).part = d.part := rfl
@[simp] theorem Dev.setCtx_regs (d : Dev) (k : Nat) (x : Ctx) : (d.setCtx k x).regs = d.regs := rfl
@[simp] theorem Dev.setCtx_hregs (d : Dev) (k : Nat) (x : Ctx) : (d.setCtx k x).hregs = d.hregs := rfl
@[simp] theorem Dev.setCtx_felt (d : Dev) (k : Nat) (x : Ctx) : (d.setCtx k x).felt = d.felt := rfl
@[simp] theorem Dev.setCtx_slu (d : Dev) (k : Nat) (x : Ctx) : (d.setCtx k x).slu = { d.slu with ctxs := Tab.set Ctx.free d.slu.ctxs k x } := rfl
@[simp] theorem Dev.setCtx_ic (d : Dev) (k : Nat) (x : Ctx) : (d.setCtx k x).ic = d.ic := rfl
@[simp] theorem Dev.setCtx_chans (d : Dev) (k : Nat) (x : Ctx) : (d.setCtx k x).chans = d.chans := rfl
@[simp] theorem Dev.setCtx_err (d : Dev) (k : Nat) (x : Ctx) : (d.setCtx k x).err = d.err := rfl
@[simp] theorem Dev.setCtx_ext (d : Dev) (k : Nat) (x : Ctx) : (d.setCtx k x).ext = d.ext := rfl
@[simp] theorem Dev.setCtx_wakes (d : Dev) (k : Nat) (x : Ctx) : (d.setCtx k x).wakes = d.wakes := rfl
@[simp] theorem Dev.setCtx_pins (d : Dev) (k : Nat) (x : Ctx) : (d.setCtx k x).pins = d.pins := rfl
@[simp] theorem Dev.setCtx_atb (d : Dev) (k : Nat) (x : Ctx) : (d.setCtx k x).atb = d.atb := rfl
@[simp] theorem Dev.setCtx_weir (d : Dev) (k : Nat) (x : Ctx) : (d.setCtx k x).weir = d.weir := rfl
@[simp] theorem Dev.setCtx_digest (d : Dev) (k : Nat) (x : Ctx) : (d.setCtx k x).digest = d.digest := rfl
@[simp] theorem Dev.setCtx_net (d : Dev) (k : Nat) (x : Ctx) : (d.setCtx k x).net = d.net := rfl
@[simp] theorem Dev.setCtx_noc (d : Dev) (k : Nat) (x : Ctx) : (d.setCtx k x).noc = d.noc := rfl
@[simp] theorem Dev.setCtx_lane (d : Dev) (k : Nat) (x : Ctx) : (d.setCtx k x).lane = d.lane := rfl
@[simp] theorem Dev.setCtx_pep (d : Dev) (k : Nat) (x : Ctx) : (d.setCtx k x).pep = d.pep := rfl
@[simp] theorem Dev.setCtx_pwr (d : Dev) (k : Nat) (x : Ctx) : (d.setCtx k x).pwr = d.pwr := rfl

@[simp] theorem Dev.setCslu_part (d : Dev) (k : Nat) (x : CoreSlu) : (d.setCslu k x).part = d.part := rfl
@[simp] theorem Dev.setCslu_regs (d : Dev) (k : Nat) (x : CoreSlu) : (d.setCslu k x).regs = d.regs := rfl
@[simp] theorem Dev.setCslu_hregs (d : Dev) (k : Nat) (x : CoreSlu) : (d.setCslu k x).hregs = d.hregs := rfl
@[simp] theorem Dev.setCslu_felt (d : Dev) (k : Nat) (x : CoreSlu) : (d.setCslu k x).felt = d.felt := rfl
@[simp] theorem Dev.setCslu_ic (d : Dev) (k : Nat) (x : CoreSlu) : (d.setCslu k x).ic = d.ic := rfl
@[simp] theorem Dev.setCslu_chans (d : Dev) (k : Nat) (x : CoreSlu) : (d.setCslu k x).chans = d.chans := rfl
@[simp] theorem Dev.setCslu_err (d : Dev) (k : Nat) (x : CoreSlu) : (d.setCslu k x).err = d.err := rfl
@[simp] theorem Dev.setCslu_ext (d : Dev) (k : Nat) (x : CoreSlu) : (d.setCslu k x).ext = d.ext := rfl
@[simp] theorem Dev.setCslu_wakes (d : Dev) (k : Nat) (x : CoreSlu) : (d.setCslu k x).wakes = d.wakes := rfl
@[simp] theorem Dev.setCslu_pins (d : Dev) (k : Nat) (x : CoreSlu) : (d.setCslu k x).pins = d.pins := rfl
@[simp] theorem Dev.setCslu_atb (d : Dev) (k : Nat) (x : CoreSlu) : (d.setCslu k x).atb = d.atb := rfl
@[simp] theorem Dev.setCslu_weir (d : Dev) (k : Nat) (x : CoreSlu) : (d.setCslu k x).weir = d.weir := rfl
@[simp] theorem Dev.setCslu_digest (d : Dev) (k : Nat) (x : CoreSlu) : (d.setCslu k x).digest = d.digest := rfl
@[simp] theorem Dev.setCslu_net (d : Dev) (k : Nat) (x : CoreSlu) : (d.setCslu k x).net = d.net := rfl
@[simp] theorem Dev.setCslu_noc (d : Dev) (k : Nat) (x : CoreSlu) : (d.setCslu k x).noc = d.noc := rfl
@[simp] theorem Dev.setCslu_lane (d : Dev) (k : Nat) (x : CoreSlu) : (d.setCslu k x).lane = d.lane := rfl
@[simp] theorem Dev.setCslu_pep (d : Dev) (k : Nat) (x : CoreSlu) : (d.setCslu k x).pep = d.pep := rfl
@[simp] theorem Dev.setCslu_pwr (d : Dev) (k : Nat) (x : CoreSlu) : (d.setCslu k x).pwr = d.pwr := rfl

@[simp] theorem Dev.setReady_part (d : Dev) (c : Nat) (l : List (Nat × Nat)) : (d.setReady c l).part = d.part := rfl
@[simp] theorem Dev.setReady_regs (d : Dev) (c : Nat) (l : List (Nat × Nat)) : (d.setReady c l).regs = d.regs := rfl
@[simp] theorem Dev.setReady_hregs (d : Dev) (c : Nat) (l : List (Nat × Nat)) : (d.setReady c l).hregs = d.hregs := rfl
@[simp] theorem Dev.setReady_felt (d : Dev) (c : Nat) (l : List (Nat × Nat)) : (d.setReady c l).felt = d.felt := rfl
@[simp] theorem Dev.setReady_ic (d : Dev) (c : Nat) (l : List (Nat × Nat)) : (d.setReady c l).ic = d.ic := rfl
@[simp] theorem Dev.setReady_chans (d : Dev) (c : Nat) (l : List (Nat × Nat)) : (d.setReady c l).chans = d.chans := rfl
@[simp] theorem Dev.setReady_err (d : Dev) (c : Nat) (l : List (Nat × Nat)) : (d.setReady c l).err = d.err := rfl
@[simp] theorem Dev.setReady_ext (d : Dev) (c : Nat) (l : List (Nat × Nat)) : (d.setReady c l).ext = d.ext := rfl
@[simp] theorem Dev.setReady_wakes (d : Dev) (c : Nat) (l : List (Nat × Nat)) : (d.setReady c l).wakes = d.wakes := rfl
@[simp] theorem Dev.setReady_pins (d : Dev) (c : Nat) (l : List (Nat × Nat)) : (d.setReady c l).pins = d.pins := rfl
@[simp] theorem Dev.setReady_atb (d : Dev) (c : Nat) (l : List (Nat × Nat)) : (d.setReady c l).atb = d.atb := rfl
@[simp] theorem Dev.setReady_weir (d : Dev) (c : Nat) (l : List (Nat × Nat)) : (d.setReady c l).weir = d.weir := rfl
@[simp] theorem Dev.setReady_digest (d : Dev) (c : Nat) (l : List (Nat × Nat)) : (d.setReady c l).digest = d.digest := rfl
@[simp] theorem Dev.setReady_net (d : Dev) (c : Nat) (l : List (Nat × Nat)) : (d.setReady c l).net = d.net := rfl
@[simp] theorem Dev.setReady_noc (d : Dev) (c : Nat) (l : List (Nat × Nat)) : (d.setReady c l).noc = d.noc := rfl
@[simp] theorem Dev.setReady_lane (d : Dev) (c : Nat) (l : List (Nat × Nat)) : (d.setReady c l).lane = d.lane := rfl
@[simp] theorem Dev.setReady_pep (d : Dev) (c : Nat) (l : List (Nat × Nat)) : (d.setReady c l).pep = d.pep := rfl
@[simp] theorem Dev.setReady_pwr (d : Dev) (c : Nat) (l : List (Nat × Nat)) : (d.setReady c l).pwr = d.pwr := rfl

@[simp] theorem Dev.setJob_part (d : Dev) (c : Nat) (j : Option DmaJob) : (d.setJob c j).part = d.part := rfl
@[simp] theorem Dev.setJob_regs (d : Dev) (c : Nat) (j : Option DmaJob) : (d.setJob c j).regs = d.regs := rfl
@[simp] theorem Dev.setJob_hregs (d : Dev) (c : Nat) (j : Option DmaJob) : (d.setJob c j).hregs = d.hregs := rfl
@[simp] theorem Dev.setJob_felt (d : Dev) (c : Nat) (j : Option DmaJob) : (d.setJob c j).felt = d.felt := rfl
@[simp] theorem Dev.setJob_slu (d : Dev) (c : Nat) (j : Option DmaJob) : (d.setJob c j).slu = d.slu := rfl
@[simp] theorem Dev.setJob_ic (d : Dev) (c : Nat) (j : Option DmaJob) : (d.setJob c j).ic = d.ic := rfl
@[simp] theorem Dev.setJob_chans (d : Dev) (c : Nat) (j : Option DmaJob) : (d.setJob c j).chans = d.chans := rfl
@[simp] theorem Dev.setJob_err (d : Dev) (c : Nat) (j : Option DmaJob) : (d.setJob c j).err = d.err := rfl
@[simp] theorem Dev.setJob_ext (d : Dev) (c : Nat) (j : Option DmaJob) : (d.setJob c j).ext = d.ext := rfl
@[simp] theorem Dev.setJob_wakes (d : Dev) (c : Nat) (j : Option DmaJob) : (d.setJob c j).wakes = d.wakes := rfl
@[simp] theorem Dev.setJob_pins (d : Dev) (c : Nat) (j : Option DmaJob) : (d.setJob c j).pins = d.pins := rfl
@[simp] theorem Dev.setJob_atb (d : Dev) (c : Nat) (j : Option DmaJob) : (d.setJob c j).atb = d.atb := rfl
@[simp] theorem Dev.setJob_weir (d : Dev) (c : Nat) (j : Option DmaJob) : (d.setJob c j).weir = d.weir := rfl
@[simp] theorem Dev.setJob_digest (d : Dev) (c : Nat) (j : Option DmaJob) : (d.setJob c j).digest = d.digest := rfl
@[simp] theorem Dev.setJob_net (d : Dev) (c : Nat) (j : Option DmaJob) : (d.setJob c j).net = d.net := rfl
@[simp] theorem Dev.setJob_noc (d : Dev) (c : Nat) (j : Option DmaJob) : (d.setJob c j).noc = d.noc := rfl
@[simp] theorem Dev.setJob_lane (d : Dev) (c : Nat) (j : Option DmaJob) : (d.setJob c j).lane = d.lane := rfl
@[simp] theorem Dev.setJob_pwr (d : Dev) (c : Nat) (j : Option DmaJob) : (d.setJob c j).pwr = d.pwr := rfl

@[simp] theorem Dev.setQp_part (d : Dev) (f q : Nat) (x : QPair) : (d.setQp f q x).part = d.part := rfl
@[simp] theorem Dev.setQp_regs (d : Dev) (f q : Nat) (x : QPair) : (d.setQp f q x).regs = d.regs := rfl
@[simp] theorem Dev.setQp_hregs (d : Dev) (f q : Nat) (x : QPair) : (d.setQp f q x).hregs = d.hregs := rfl
@[simp] theorem Dev.setQp_felt (d : Dev) (f q : Nat) (x : QPair) : (d.setQp f q x).felt = d.felt := rfl
@[simp] theorem Dev.setQp_slu (d : Dev) (f q : Nat) (x : QPair) : (d.setQp f q x).slu = d.slu := rfl
@[simp] theorem Dev.setQp_ic (d : Dev) (f q : Nat) (x : QPair) : (d.setQp f q x).ic = d.ic := rfl
@[simp] theorem Dev.setQp_chans (d : Dev) (f q : Nat) (x : QPair) : (d.setQp f q x).chans = d.chans := rfl
@[simp] theorem Dev.setQp_err (d : Dev) (f q : Nat) (x : QPair) : (d.setQp f q x).err = d.err := rfl
@[simp] theorem Dev.setQp_ext (d : Dev) (f q : Nat) (x : QPair) : (d.setQp f q x).ext = d.ext := rfl
@[simp] theorem Dev.setQp_wakes (d : Dev) (f q : Nat) (x : QPair) : (d.setQp f q x).wakes = d.wakes := rfl
@[simp] theorem Dev.setQp_pins (d : Dev) (f q : Nat) (x : QPair) : (d.setQp f q x).pins = d.pins := rfl
@[simp] theorem Dev.setQp_atb (d : Dev) (f q : Nat) (x : QPair) : (d.setQp f q x).atb = d.atb := rfl
@[simp] theorem Dev.setQp_weir (d : Dev) (f q : Nat) (x : QPair) : (d.setQp f q x).weir = d.weir := rfl
@[simp] theorem Dev.setQp_digest (d : Dev) (f q : Nat) (x : QPair) : (d.setQp f q x).digest = d.digest := rfl
@[simp] theorem Dev.setQp_net (d : Dev) (f q : Nat) (x : QPair) : (d.setQp f q x).net = d.net := rfl
@[simp] theorem Dev.setQp_noc (d : Dev) (f q : Nat) (x : QPair) : (d.setQp f q x).noc = d.noc := rfl
@[simp] theorem Dev.setQp_lane (d : Dev) (f q : Nat) (x : QPair) : (d.setQp f q x).lane = d.lane := rfl
@[simp] theorem Dev.setQp_pwr (d : Dev) (f q : Nat) (x : QPair) : (d.setQp f q x).pwr = d.pwr := rfl

@[simp] theorem Dev.setCfg_part (d : Dev) (f o v : Nat) : (d.setCfg f o v).part = d.part := rfl
@[simp] theorem Dev.setCfg_regs (d : Dev) (f o v : Nat) : (d.setCfg f o v).regs = d.regs := rfl
@[simp] theorem Dev.setCfg_hregs (d : Dev) (f o v : Nat) : (d.setCfg f o v).hregs = d.hregs := rfl
@[simp] theorem Dev.setCfg_felt (d : Dev) (f o v : Nat) : (d.setCfg f o v).felt = d.felt := rfl
@[simp] theorem Dev.setCfg_slu (d : Dev) (f o v : Nat) : (d.setCfg f o v).slu = d.slu := rfl
@[simp] theorem Dev.setCfg_ic (d : Dev) (f o v : Nat) : (d.setCfg f o v).ic = d.ic := rfl
@[simp] theorem Dev.setCfg_chans (d : Dev) (f o v : Nat) : (d.setCfg f o v).chans = d.chans := rfl
@[simp] theorem Dev.setCfg_err (d : Dev) (f o v : Nat) : (d.setCfg f o v).err = d.err := rfl
@[simp] theorem Dev.setCfg_ext (d : Dev) (f o v : Nat) : (d.setCfg f o v).ext = d.ext := rfl
@[simp] theorem Dev.setCfg_wakes (d : Dev) (f o v : Nat) : (d.setCfg f o v).wakes = d.wakes := rfl
@[simp] theorem Dev.setCfg_pins (d : Dev) (f o v : Nat) : (d.setCfg f o v).pins = d.pins := rfl
@[simp] theorem Dev.setCfg_atb (d : Dev) (f o v : Nat) : (d.setCfg f o v).atb = d.atb := rfl
@[simp] theorem Dev.setCfg_weir (d : Dev) (f o v : Nat) : (d.setCfg f o v).weir = d.weir := rfl
@[simp] theorem Dev.setCfg_digest (d : Dev) (f o v : Nat) : (d.setCfg f o v).digest = d.digest := rfl
@[simp] theorem Dev.setCfg_net (d : Dev) (f o v : Nat) : (d.setCfg f o v).net = d.net := rfl
@[simp] theorem Dev.setCfg_noc (d : Dev) (f o v : Nat) : (d.setCfg f o v).noc = d.noc := rfl
@[simp] theorem Dev.setCfg_lane (d : Dev) (f o v : Nat) : (d.setCfg f o v).lane = d.lane := rfl
@[simp] theorem Dev.setCfg_pwr (d : Dev) (f o v : Nat) : (d.setCfg f o v).pwr = d.pwr := rfl

@[simp] theorem Dev.setInq_part (d : Dev) (g : Nat) (q : List InReq) : (d.setInq g q).part = d.part := rfl
@[simp] theorem Dev.setInq_regs (d : Dev) (g : Nat) (q : List InReq) : (d.setInq g q).regs = d.regs := rfl
@[simp] theorem Dev.setInq_hregs (d : Dev) (g : Nat) (q : List InReq) : (d.setInq g q).hregs = d.hregs := rfl
@[simp] theorem Dev.setInq_felt (d : Dev) (g : Nat) (q : List InReq) : (d.setInq g q).felt = d.felt := rfl
@[simp] theorem Dev.setInq_slu (d : Dev) (g : Nat) (q : List InReq) : (d.setInq g q).slu = d.slu := rfl
@[simp] theorem Dev.setInq_ic (d : Dev) (g : Nat) (q : List InReq) : (d.setInq g q).ic = d.ic := rfl
@[simp] theorem Dev.setInq_chans (d : Dev) (g : Nat) (q : List InReq) : (d.setInq g q).chans = d.chans := rfl
@[simp] theorem Dev.setInq_err (d : Dev) (g : Nat) (q : List InReq) : (d.setInq g q).err = d.err := rfl
@[simp] theorem Dev.setInq_ext (d : Dev) (g : Nat) (q : List InReq) : (d.setInq g q).ext = d.ext := rfl
@[simp] theorem Dev.setInq_wakes (d : Dev) (g : Nat) (q : List InReq) : (d.setInq g q).wakes = d.wakes := rfl
@[simp] theorem Dev.setInq_pins (d : Dev) (g : Nat) (q : List InReq) : (d.setInq g q).pins = d.pins := rfl
@[simp] theorem Dev.setInq_atb (d : Dev) (g : Nat) (q : List InReq) : (d.setInq g q).atb = d.atb := rfl
@[simp] theorem Dev.setInq_digest (d : Dev) (g : Nat) (q : List InReq) : (d.setInq g q).digest = d.digest := rfl
@[simp] theorem Dev.setInq_net (d : Dev) (g : Nat) (q : List InReq) : (d.setInq g q).net = d.net := rfl
@[simp] theorem Dev.setInq_noc (d : Dev) (g : Nat) (q : List InReq) : (d.setInq g q).noc = d.noc := rfl
@[simp] theorem Dev.setInq_lane (d : Dev) (g : Nat) (q : List InReq) : (d.setInq g q).lane = d.lane := rfl
@[simp] theorem Dev.setInq_pep (d : Dev) (g : Nat) (q : List InReq) : (d.setInq g q).pep = d.pep := rfl
@[simp] theorem Dev.setInq_pwr (d : Dev) (g : Nat) (q : List InReq) : (d.setInq g q).pwr = d.pwr := rfl

@[simp] theorem Dev.modLink_part (d : Dev) (p : Nat) (f : Link → Link) : (d.modLink p f).part = d.part := rfl
@[simp] theorem Dev.modLink_regs (d : Dev) (p : Nat) (f : Link → Link) : (d.modLink p f).regs = d.regs := rfl
@[simp] theorem Dev.modLink_hregs (d : Dev) (p : Nat) (f : Link → Link) : (d.modLink p f).hregs = d.hregs := rfl
@[simp] theorem Dev.modLink_felt (d : Dev) (p : Nat) (f : Link → Link) : (d.modLink p f).felt = d.felt := rfl
@[simp] theorem Dev.modLink_slu (d : Dev) (p : Nat) (f : Link → Link) : (d.modLink p f).slu = d.slu := rfl
@[simp] theorem Dev.modLink_ic (d : Dev) (p : Nat) (f : Link → Link) : (d.modLink p f).ic = d.ic := rfl
@[simp] theorem Dev.modLink_chans (d : Dev) (p : Nat) (f : Link → Link) : (d.modLink p f).chans = d.chans := rfl
@[simp] theorem Dev.modLink_err (d : Dev) (p : Nat) (f : Link → Link) : (d.modLink p f).err = d.err := rfl
@[simp] theorem Dev.modLink_ext (d : Dev) (p : Nat) (f : Link → Link) : (d.modLink p f).ext = d.ext := rfl
@[simp] theorem Dev.modLink_wakes (d : Dev) (p : Nat) (f : Link → Link) : (d.modLink p f).wakes = d.wakes := rfl
@[simp] theorem Dev.modLink_pins (d : Dev) (p : Nat) (f : Link → Link) : (d.modLink p f).pins = d.pins := rfl
@[simp] theorem Dev.modLink_atb (d : Dev) (p : Nat) (f : Link → Link) : (d.modLink p f).atb = d.atb := rfl
@[simp] theorem Dev.modLink_digest (d : Dev) (p : Nat) (f : Link → Link) : (d.modLink p f).digest = d.digest := rfl
@[simp] theorem Dev.modLink_net (d : Dev) (p : Nat) (f : Link → Link) : (d.modLink p f).net = d.net := rfl
@[simp] theorem Dev.modLink_noc (d : Dev) (p : Nat) (f : Link → Link) : (d.modLink p f).noc = d.noc := rfl
@[simp] theorem Dev.modLink_lane (d : Dev) (p : Nat) (f : Link → Link) : (d.modLink p f).lane = d.lane := rfl
@[simp] theorem Dev.modLink_pep (d : Dev) (p : Nat) (f : Link → Link) : (d.modLink p f).pep = d.pep := rfl
@[simp] theorem Dev.modLink_pwr (d : Dev) (p : Nat) (f : Link → Link) : (d.modLink p f).pwr = d.pwr := rfl

@[simp] theorem Dev.setPtp_part (d : Dev) (port : Nat) (x : PtpSt) : (d.setPtp port x).part = d.part := rfl
@[simp] theorem Dev.setPtp_regs (d : Dev) (port : Nat) (x : PtpSt) : (d.setPtp port x).regs = d.regs := rfl
@[simp] theorem Dev.setPtp_hregs (d : Dev) (port : Nat) (x : PtpSt) : (d.setPtp port x).hregs = d.hregs := rfl
@[simp] theorem Dev.setPtp_felt (d : Dev) (port : Nat) (x : PtpSt) : (d.setPtp port x).felt = d.felt := rfl
@[simp] theorem Dev.setPtp_slu (d : Dev) (port : Nat) (x : PtpSt) : (d.setPtp port x).slu = d.slu := rfl
@[simp] theorem Dev.setPtp_ic (d : Dev) (port : Nat) (x : PtpSt) : (d.setPtp port x).ic = d.ic := rfl
@[simp] theorem Dev.setPtp_chans (d : Dev) (port : Nat) (x : PtpSt) : (d.setPtp port x).chans = d.chans := rfl
@[simp] theorem Dev.setPtp_err (d : Dev) (port : Nat) (x : PtpSt) : (d.setPtp port x).err = d.err := rfl
@[simp] theorem Dev.setPtp_ext (d : Dev) (port : Nat) (x : PtpSt) : (d.setPtp port x).ext = d.ext := rfl
@[simp] theorem Dev.setPtp_wakes (d : Dev) (port : Nat) (x : PtpSt) : (d.setPtp port x).wakes = d.wakes := rfl
@[simp] theorem Dev.setPtp_pins (d : Dev) (port : Nat) (x : PtpSt) : (d.setPtp port x).pins = d.pins := rfl
@[simp] theorem Dev.setPtp_atb (d : Dev) (port : Nat) (x : PtpSt) : (d.setPtp port x).atb = d.atb := rfl
@[simp] theorem Dev.setPtp_weir (d : Dev) (port : Nat) (x : PtpSt) : (d.setPtp port x).weir = d.weir := rfl
@[simp] theorem Dev.setPtp_digest (d : Dev) (port : Nat) (x : PtpSt) : (d.setPtp port x).digest = d.digest := rfl
@[simp] theorem Dev.setPtp_net (d : Dev) (port : Nat) (x : PtpSt) : (d.setPtp port x).net = d.net := rfl
@[simp] theorem Dev.setPtp_noc (d : Dev) (port : Nat) (x : PtpSt) : (d.setPtp port x).noc = d.noc := rfl
@[simp] theorem Dev.setPtp_pep (d : Dev) (port : Nat) (x : PtpSt) : (d.setPtp port x).pep = d.pep := rfl
@[simp] theorem Dev.setPtp_pwr (d : Dev) (port : Nat) (x : PtpSt) : (d.setPtp port x).pwr = d.pwr := rfl

@[simp] theorem Dev.setPtpQueue_part (d : Dev) (port : Nat) (q : List (List Byte)) : (d.setPtpQueue port q).part = d.part := rfl
@[simp] theorem Dev.setPtpQueue_regs (d : Dev) (port : Nat) (q : List (List Byte)) : (d.setPtpQueue port q).regs = d.regs := rfl
@[simp] theorem Dev.setPtpQueue_hregs (d : Dev) (port : Nat) (q : List (List Byte)) : (d.setPtpQueue port q).hregs = d.hregs := rfl
@[simp] theorem Dev.setPtpQueue_felt (d : Dev) (port : Nat) (q : List (List Byte)) : (d.setPtpQueue port q).felt = d.felt := rfl
@[simp] theorem Dev.setPtpQueue_slu (d : Dev) (port : Nat) (q : List (List Byte)) : (d.setPtpQueue port q).slu = d.slu := rfl
@[simp] theorem Dev.setPtpQueue_ic (d : Dev) (port : Nat) (q : List (List Byte)) : (d.setPtpQueue port q).ic = d.ic := rfl
@[simp] theorem Dev.setPtpQueue_chans (d : Dev) (port : Nat) (q : List (List Byte)) : (d.setPtpQueue port q).chans = d.chans := rfl
@[simp] theorem Dev.setPtpQueue_err (d : Dev) (port : Nat) (q : List (List Byte)) : (d.setPtpQueue port q).err = d.err := rfl
@[simp] theorem Dev.setPtpQueue_ext (d : Dev) (port : Nat) (q : List (List Byte)) : (d.setPtpQueue port q).ext = d.ext := rfl
@[simp] theorem Dev.setPtpQueue_wakes (d : Dev) (port : Nat) (q : List (List Byte)) : (d.setPtpQueue port q).wakes = d.wakes := rfl
@[simp] theorem Dev.setPtpQueue_pins (d : Dev) (port : Nat) (q : List (List Byte)) : (d.setPtpQueue port q).pins = d.pins := rfl
@[simp] theorem Dev.setPtpQueue_atb (d : Dev) (port : Nat) (q : List (List Byte)) : (d.setPtpQueue port q).atb = d.atb := rfl
@[simp] theorem Dev.setPtpQueue_weir (d : Dev) (port : Nat) (q : List (List Byte)) : (d.setPtpQueue port q).weir = d.weir := rfl
@[simp] theorem Dev.setPtpQueue_digest (d : Dev) (port : Nat) (q : List (List Byte)) : (d.setPtpQueue port q).digest = d.digest := rfl
@[simp] theorem Dev.setPtpQueue_net (d : Dev) (port : Nat) (q : List (List Byte)) : (d.setPtpQueue port q).net = d.net := rfl
@[simp] theorem Dev.setPtpQueue_noc (d : Dev) (port : Nat) (q : List (List Byte)) : (d.setPtpQueue port q).noc = d.noc := rfl
@[simp] theorem Dev.setPtpQueue_pep (d : Dev) (port : Nat) (q : List (List Byte)) : (d.setPtpQueue port q).pep = d.pep := rfl
@[simp] theorem Dev.setPtpQueue_pwr (d : Dev) (port : Nat) (q : List (List Byte)) : (d.setPtpQueue port q).pwr = d.pwr := rfl

@[simp] theorem Dev.setSpare_part (d : Dev) (g : Nat) (x : SpareSt) : (d.setSpare g x).part = d.part := rfl
@[simp] theorem Dev.setSpare_regs (d : Dev) (g : Nat) (x : SpareSt) : (d.setSpare g x).regs = d.regs := rfl
@[simp] theorem Dev.setSpare_hregs (d : Dev) (g : Nat) (x : SpareSt) : (d.setSpare g x).hregs = d.hregs := rfl
@[simp] theorem Dev.setSpare_felt (d : Dev) (g : Nat) (x : SpareSt) : (d.setSpare g x).felt = d.felt := rfl
@[simp] theorem Dev.setSpare_slu (d : Dev) (g : Nat) (x : SpareSt) : (d.setSpare g x).slu = d.slu := rfl
@[simp] theorem Dev.setSpare_ic (d : Dev) (g : Nat) (x : SpareSt) : (d.setSpare g x).ic = d.ic := rfl
@[simp] theorem Dev.setSpare_chans (d : Dev) (g : Nat) (x : SpareSt) : (d.setSpare g x).chans = d.chans := rfl
@[simp] theorem Dev.setSpare_err (d : Dev) (g : Nat) (x : SpareSt) : (d.setSpare g x).err = d.err := rfl
@[simp] theorem Dev.setSpare_ext (d : Dev) (g : Nat) (x : SpareSt) : (d.setSpare g x).ext = d.ext := rfl
@[simp] theorem Dev.setSpare_wakes (d : Dev) (g : Nat) (x : SpareSt) : (d.setSpare g x).wakes = d.wakes := rfl
@[simp] theorem Dev.setSpare_pins (d : Dev) (g : Nat) (x : SpareSt) : (d.setSpare g x).pins = d.pins := rfl
@[simp] theorem Dev.setSpare_atb (d : Dev) (g : Nat) (x : SpareSt) : (d.setSpare g x).atb = d.atb := rfl
@[simp] theorem Dev.setSpare_weir (d : Dev) (g : Nat) (x : SpareSt) : (d.setSpare g x).weir = d.weir := rfl
@[simp] theorem Dev.setSpare_digest (d : Dev) (g : Nat) (x : SpareSt) : (d.setSpare g x).digest = d.digest := rfl
@[simp] theorem Dev.setSpare_net (d : Dev) (g : Nat) (x : SpareSt) : (d.setSpare g x).net = d.net := rfl
@[simp] theorem Dev.setSpare_noc (d : Dev) (g : Nat) (x : SpareSt) : (d.setSpare g x).noc = d.noc := rfl
@[simp] theorem Dev.setSpare_pep (d : Dev) (g : Nat) (x : SpareSt) : (d.setSpare g x).pep = d.pep := rfl
@[simp] theorem Dev.setSpare_pwr (d : Dev) (g : Nat) (x : SpareSt) : (d.setSpare g x).pwr = d.pwr := rfl

@[simp] theorem Dev.setSrc_part (d : Dev) (p : Nat) (x : SrcSt) : (d.setSrc p x).part = d.part := rfl
@[simp] theorem Dev.setSrc_regs (d : Dev) (p : Nat) (x : SrcSt) : (d.setSrc p x).regs = d.regs := rfl
@[simp] theorem Dev.setSrc_hregs (d : Dev) (p : Nat) (x : SrcSt) : (d.setSrc p x).hregs = d.hregs := rfl
@[simp] theorem Dev.setSrc_felt (d : Dev) (p : Nat) (x : SrcSt) : (d.setSrc p x).felt = d.felt := rfl
@[simp] theorem Dev.setSrc_slu (d : Dev) (p : Nat) (x : SrcSt) : (d.setSrc p x).slu = d.slu := rfl
@[simp] theorem Dev.setSrc_ic (d : Dev) (p : Nat) (x : SrcSt) : (d.setSrc p x).ic = d.ic := rfl
@[simp] theorem Dev.setSrc_chans (d : Dev) (p : Nat) (x : SrcSt) : (d.setSrc p x).chans = d.chans := rfl
@[simp] theorem Dev.setSrc_err (d : Dev) (p : Nat) (x : SrcSt) : (d.setSrc p x).err = d.err := rfl
@[simp] theorem Dev.setSrc_ext (d : Dev) (p : Nat) (x : SrcSt) : (d.setSrc p x).ext = d.ext := rfl
@[simp] theorem Dev.setSrc_wakes (d : Dev) (p : Nat) (x : SrcSt) : (d.setSrc p x).wakes = d.wakes := rfl
@[simp] theorem Dev.setSrc_pins (d : Dev) (p : Nat) (x : SrcSt) : (d.setSrc p x).pins = d.pins := rfl
@[simp] theorem Dev.setSrc_weir (d : Dev) (p : Nat) (x : SrcSt) : (d.setSrc p x).weir = d.weir := rfl
@[simp] theorem Dev.setSrc_digest (d : Dev) (p : Nat) (x : SrcSt) : (d.setSrc p x).digest = d.digest := rfl
@[simp] theorem Dev.setSrc_net (d : Dev) (p : Nat) (x : SrcSt) : (d.setSrc p x).net = d.net := rfl
@[simp] theorem Dev.setSrc_noc (d : Dev) (p : Nat) (x : SrcSt) : (d.setSrc p x).noc = d.noc := rfl
@[simp] theorem Dev.setSrc_lane (d : Dev) (p : Nat) (x : SrcSt) : (d.setSrc p x).lane = d.lane := rfl
@[simp] theorem Dev.setSrc_pep (d : Dev) (p : Nat) (x : SrcSt) : (d.setSrc p x).pep = d.pep := rfl
@[simp] theorem Dev.setSrc_pwr (d : Dev) (p : Nat) (x : SrcSt) : (d.setSrc p x).pwr = d.pwr := rfl

@[simp] theorem MemSt.setPoison_img (m : MemSt) (line : Nat) (b : Bool) : (m.setPoison line b).img = m.img := rfl
@[simp] theorem MemSt.setPoison_dramOld (m : MemSt) (line : Nat) (b : Bool) : (m.setPoison line b).dramOld = m.dramOld := rfl
@[simp] theorem MemSt.setPoison_dir (m : MemSt) (line : Nat) (b : Bool) : (m.setPoison line b).dir = m.dir := rfl
@[simp] theorem MemSt.setPoison_l2 (m : MemSt) (line : Nat) (b : Bool) : (m.setPoison line b).l2 = m.l2 := rfl
@[simp] theorem MemSt.setPoison_wb (m : MemSt) (line : Nat) (b : Bool) : (m.setPoison line b).wb = m.wb := rfl
@[simp] theorem MemSt.setPoison_llcOld (m : MemSt) (line : Nat) (b : Bool) : (m.setPoison line b).llcOld = m.llcOld := rfl
@[simp] theorem MemSt.setPoison_pois (m : MemSt) (line : Nat) (b : Bool) : (m.setPoison line b).pois = m.pois := rfl
@[simp] theorem MemSt.setPoison_l1i (m : MemSt) (line : Nat) (b : Bool) : (m.setPoison line b).l1i = m.l1i := rfl
@[simp] theorem MemSt.setPoison_l1d (m : MemSt) (line : Nat) (b : Bool) : (m.setPoison line b).l1d = m.l1d := rfl
@[simp] theorem MemSt.setPoison_evq (m : MemSt) (line : Nat) (b : Bool) : (m.setPoison line b).evq = m.evq := rfl
@[simp] theorem MemSt.setPoison_inq (m : MemSt) (line : Nat) (b : Bool) : (m.setPoison line b).inq = m.inq := rfl
@[simp] theorem MemSt.setPoison_allocs (m : MemSt) (line : Nat) (b : Bool) : (m.setPoison line b).allocs = m.allocs := rfl
@[simp] theorem MemSt.setPoison_txid (m : MemSt) (line : Nat) (b : Bool) : (m.setPoison line b).txid = m.txid := rfl

@[simp] theorem MemSt.setDir_img (m : MemSt) (line : Nat) (e : DirEnt) : (m.setDir line e).img = m.img := rfl
@[simp] theorem MemSt.setDir_poison (m : MemSt) (line : Nat) (e : DirEnt) : (m.setDir line e).poison = m.poison := rfl
@[simp] theorem MemSt.setDir_dramOld (m : MemSt) (line : Nat) (e : DirEnt) : (m.setDir line e).dramOld = m.dramOld := rfl
@[simp] theorem MemSt.setDir_l2 (m : MemSt) (line : Nat) (e : DirEnt) : (m.setDir line e).l2 = m.l2 := rfl
@[simp] theorem MemSt.setDir_wb (m : MemSt) (line : Nat) (e : DirEnt) : (m.setDir line e).wb = m.wb := rfl
@[simp] theorem MemSt.setDir_llcOld (m : MemSt) (line : Nat) (e : DirEnt) : (m.setDir line e).llcOld = m.llcOld := rfl
@[simp] theorem MemSt.setDir_pois (m : MemSt) (line : Nat) (e : DirEnt) : (m.setDir line e).pois = m.pois := rfl
@[simp] theorem MemSt.setDir_l1i (m : MemSt) (line : Nat) (e : DirEnt) : (m.setDir line e).l1i = m.l1i := rfl
@[simp] theorem MemSt.setDir_l1d (m : MemSt) (line : Nat) (e : DirEnt) : (m.setDir line e).l1d = m.l1d := rfl
@[simp] theorem MemSt.setDir_evq (m : MemSt) (line : Nat) (e : DirEnt) : (m.setDir line e).evq = m.evq := rfl
@[simp] theorem MemSt.setDir_inq (m : MemSt) (line : Nat) (e : DirEnt) : (m.setDir line e).inq = m.inq := rfl
@[simp] theorem MemSt.setDir_allocs (m : MemSt) (line : Nat) (e : DirEnt) : (m.setDir line e).allocs = m.allocs := rfl
@[simp] theorem MemSt.setDir_txid (m : MemSt) (line : Nat) (e : DirEnt) : (m.setDir line e).txid = m.txid := rfl

@[simp] theorem MemSt.setL2_img (m : MemSt) (agent line : Nat) (x : LineSt) : (m.setL2 agent line x).img = m.img := rfl
@[simp] theorem MemSt.setL2_poison (m : MemSt) (agent line : Nat) (x : LineSt) : (m.setL2 agent line x).poison = m.poison := rfl
@[simp] theorem MemSt.setL2_dramOld (m : MemSt) (agent line : Nat) (x : LineSt) : (m.setL2 agent line x).dramOld = m.dramOld := rfl
@[simp] theorem MemSt.setL2_dir (m : MemSt) (agent line : Nat) (x : LineSt) : (m.setL2 agent line x).dir = m.dir := rfl
@[simp] theorem MemSt.setL2_wb (m : MemSt) (agent line : Nat) (x : LineSt) : (m.setL2 agent line x).wb = m.wb := rfl
@[simp] theorem MemSt.setL2_llcOld (m : MemSt) (agent line : Nat) (x : LineSt) : (m.setL2 agent line x).llcOld = m.llcOld := rfl
@[simp] theorem MemSt.setL2_pois (m : MemSt) (agent line : Nat) (x : LineSt) : (m.setL2 agent line x).pois = m.pois := rfl
@[simp] theorem MemSt.setL2_l1i (m : MemSt) (agent line : Nat) (x : LineSt) : (m.setL2 agent line x).l1i = m.l1i := rfl
@[simp] theorem MemSt.setL2_l1d (m : MemSt) (agent line : Nat) (x : LineSt) : (m.setL2 agent line x).l1d = m.l1d := rfl
@[simp] theorem MemSt.setL2_evq (m : MemSt) (agent line : Nat) (x : LineSt) : (m.setL2 agent line x).evq = m.evq := rfl
@[simp] theorem MemSt.setL2_inq (m : MemSt) (agent line : Nat) (x : LineSt) : (m.setL2 agent line x).inq = m.inq := rfl
@[simp] theorem MemSt.setL2_allocs (m : MemSt) (agent line : Nat) (x : LineSt) : (m.setL2 agent line x).allocs = m.allocs := rfl
@[simp] theorem MemSt.setL2_txid (m : MemSt) (agent line : Nat) (x : LineSt) : (m.setL2 agent line x).txid = m.txid := rfl

@[simp] theorem MemSt.setPois_img (m : MemSt) (agent line : Nat) (b : Bool) : (m.setPois agent line b).img = m.img := rfl
@[simp] theorem MemSt.setPois_poison (m : MemSt) (agent line : Nat) (b : Bool) : (m.setPois agent line b).poison = m.poison := rfl
@[simp] theorem MemSt.setPois_dramOld (m : MemSt) (agent line : Nat) (b : Bool) : (m.setPois agent line b).dramOld = m.dramOld := rfl
@[simp] theorem MemSt.setPois_dir (m : MemSt) (agent line : Nat) (b : Bool) : (m.setPois agent line b).dir = m.dir := rfl
@[simp] theorem MemSt.setPois_l2 (m : MemSt) (agent line : Nat) (b : Bool) : (m.setPois agent line b).l2 = m.l2 := rfl
@[simp] theorem MemSt.setPois_wb (m : MemSt) (agent line : Nat) (b : Bool) : (m.setPois agent line b).wb = m.wb := rfl
@[simp] theorem MemSt.setPois_llcOld (m : MemSt) (agent line : Nat) (b : Bool) : (m.setPois agent line b).llcOld = m.llcOld := rfl
@[simp] theorem MemSt.setPois_l1i (m : MemSt) (agent line : Nat) (b : Bool) : (m.setPois agent line b).l1i = m.l1i := rfl
@[simp] theorem MemSt.setPois_l1d (m : MemSt) (agent line : Nat) (b : Bool) : (m.setPois agent line b).l1d = m.l1d := rfl
@[simp] theorem MemSt.setPois_evq (m : MemSt) (agent line : Nat) (b : Bool) : (m.setPois agent line b).evq = m.evq := rfl
@[simp] theorem MemSt.setPois_inq (m : MemSt) (agent line : Nat) (b : Bool) : (m.setPois agent line b).inq = m.inq := rfl
@[simp] theorem MemSt.setPois_allocs (m : MemSt) (agent line : Nat) (b : Bool) : (m.setPois agent line b).allocs = m.allocs := rfl
@[simp] theorem MemSt.setPois_txid (m : MemSt) (agent line : Nat) (b : Bool) : (m.setPois agent line b).txid = m.txid := rfl

@[simp] theorem MemSt.setLlcVal_img (m : MemSt) (line : Nat) (bs : List Byte) : (m.setLlcVal line bs).img = m.img := rfl
@[simp] theorem MemSt.setLlcVal_poison (m : MemSt) (line : Nat) (bs : List Byte) : (m.setLlcVal line bs).poison = m.poison := rfl
@[simp] theorem MemSt.setLlcVal_dramOld (m : MemSt) (line : Nat) (bs : List Byte) : (m.setLlcVal line bs).dramOld = m.dramOld := rfl
@[simp] theorem MemSt.setLlcVal_dir (m : MemSt) (line : Nat) (bs : List Byte) : (m.setLlcVal line bs).dir = m.dir := rfl
@[simp] theorem MemSt.setLlcVal_l2 (m : MemSt) (line : Nat) (bs : List Byte) : (m.setLlcVal line bs).l2 = m.l2 := rfl
@[simp] theorem MemSt.setLlcVal_wb (m : MemSt) (line : Nat) (bs : List Byte) : (m.setLlcVal line bs).wb = m.wb := rfl
@[simp] theorem MemSt.setLlcVal_pois (m : MemSt) (line : Nat) (bs : List Byte) : (m.setLlcVal line bs).pois = m.pois := rfl
@[simp] theorem MemSt.setLlcVal_l1i (m : MemSt) (line : Nat) (bs : List Byte) : (m.setLlcVal line bs).l1i = m.l1i := rfl
@[simp] theorem MemSt.setLlcVal_l1d (m : MemSt) (line : Nat) (bs : List Byte) : (m.setLlcVal line bs).l1d = m.l1d := rfl
@[simp] theorem MemSt.setLlcVal_evq (m : MemSt) (line : Nat) (bs : List Byte) : (m.setLlcVal line bs).evq = m.evq := rfl
@[simp] theorem MemSt.setLlcVal_inq (m : MemSt) (line : Nat) (bs : List Byte) : (m.setLlcVal line bs).inq = m.inq := rfl
@[simp] theorem MemSt.setLlcVal_allocs (m : MemSt) (line : Nat) (bs : List Byte) : (m.setLlcVal line bs).allocs = m.allocs := rfl
@[simp] theorem MemSt.setLlcVal_txid (m : MemSt) (line : Nat) (bs : List Byte) : (m.setLlcVal line bs).txid = m.txid := rfl

@[simp] theorem MemSt.freeWb_img (m : MemSt) (agent line : Nat) : (m.freeWb agent line).img = m.img := rfl
@[simp] theorem MemSt.freeWb_poison (m : MemSt) (agent line : Nat) : (m.freeWb agent line).poison = m.poison := rfl
@[simp] theorem MemSt.freeWb_dramOld (m : MemSt) (agent line : Nat) : (m.freeWb agent line).dramOld = m.dramOld := rfl
@[simp] theorem MemSt.freeWb_dir (m : MemSt) (agent line : Nat) : (m.freeWb agent line).dir = m.dir := rfl
@[simp] theorem MemSt.freeWb_l2 (m : MemSt) (agent line : Nat) : (m.freeWb agent line).l2 = m.l2 := rfl
@[simp] theorem MemSt.freeWb_llcOld (m : MemSt) (agent line : Nat) : (m.freeWb agent line).llcOld = m.llcOld := rfl
@[simp] theorem MemSt.freeWb_pois (m : MemSt) (agent line : Nat) : (m.freeWb agent line).pois = m.pois := rfl
@[simp] theorem MemSt.freeWb_l1i (m : MemSt) (agent line : Nat) : (m.freeWb agent line).l1i = m.l1i := rfl
@[simp] theorem MemSt.freeWb_l1d (m : MemSt) (agent line : Nat) : (m.freeWb agent line).l1d = m.l1d := rfl
@[simp] theorem MemSt.freeWb_evq (m : MemSt) (agent line : Nat) : (m.freeWb agent line).evq = m.evq := rfl
@[simp] theorem MemSt.freeWb_inq (m : MemSt) (agent line : Nat) : (m.freeWb agent line).inq = m.inq := rfl
@[simp] theorem MemSt.freeWb_allocs (m : MemSt) (agent line : Nat) : (m.freeWb agent line).allocs = m.allocs := rfl
@[simp] theorem MemSt.freeWb_txid (m : MemSt) (agent line : Nat) : (m.freeWb agent line).txid = m.txid := rfl

@[simp] theorem MemSt.setInput_img (m : MemSt) (slice : Nat) (q : List (Nat × Txn)) : (m.setInput slice q).img = m.img := rfl
@[simp] theorem MemSt.setInput_poison (m : MemSt) (slice : Nat) (q : List (Nat × Txn)) : (m.setInput slice q).poison = m.poison := rfl
@[simp] theorem MemSt.setInput_dramOld (m : MemSt) (slice : Nat) (q : List (Nat × Txn)) : (m.setInput slice q).dramOld = m.dramOld := rfl
@[simp] theorem MemSt.setInput_dir (m : MemSt) (slice : Nat) (q : List (Nat × Txn)) : (m.setInput slice q).dir = m.dir := rfl
@[simp] theorem MemSt.setInput_l2 (m : MemSt) (slice : Nat) (q : List (Nat × Txn)) : (m.setInput slice q).l2 = m.l2 := rfl
@[simp] theorem MemSt.setInput_wb (m : MemSt) (slice : Nat) (q : List (Nat × Txn)) : (m.setInput slice q).wb = m.wb := rfl
@[simp] theorem MemSt.setInput_llcOld (m : MemSt) (slice : Nat) (q : List (Nat × Txn)) : (m.setInput slice q).llcOld = m.llcOld := rfl
@[simp] theorem MemSt.setInput_pois (m : MemSt) (slice : Nat) (q : List (Nat × Txn)) : (m.setInput slice q).pois = m.pois := rfl
@[simp] theorem MemSt.setInput_l1i (m : MemSt) (slice : Nat) (q : List (Nat × Txn)) : (m.setInput slice q).l1i = m.l1i := rfl
@[simp] theorem MemSt.setInput_l1d (m : MemSt) (slice : Nat) (q : List (Nat × Txn)) : (m.setInput slice q).l1d = m.l1d := rfl
@[simp] theorem MemSt.setInput_evq (m : MemSt) (slice : Nat) (q : List (Nat × Txn)) : (m.setInput slice q).evq = m.evq := rfl
@[simp] theorem MemSt.setInput_allocs (m : MemSt) (slice : Nat) (q : List (Nat × Txn)) : (m.setInput slice q).allocs = m.allocs := rfl
@[simp] theorem MemSt.setInput_txid (m : MemSt) (slice : Nat) (q : List (Nat × Txn)) : (m.setInput slice q).txid = m.txid := rfl

end Sys2Proof.Machine
end

