-- ==== Sys2Proof/Laws/Insn.lean ====
section
/-! SUPPORT. How an instruction runs on a core that executes it: its wrapper comes down to its body, in the state its fetch leaves. -/

namespace Sys2Proof.Machine

/-- An allocated instruction whose privilege admits the core runs its body in the state that its fetch leaves. -/
theorem runIns_fetched {s0 s s1 : State} {h : Sys2Proof.Hd} {i : Info} {body : State → M Out} {abs : Bool} (e : s = s0.shed h)
    (hr : s.Executes h abs) (hf : s.Fetches h s1) (hc : condHolds h.cond (s1.core h.core).bank.fl = true)
    (ha : abs = true → i.abs = true) (hl : i.legal = true) (hp : i.priv (s.core h.core) = none) :
    s0.runIns h i body = s1.runBody h.core (s.start h) h.len i body := by
  subst e
  have hpc : ((s0.shed h).core h.core).bank.pc = (s0.shed h).pc h := rfl
  have h4 : (((s0.shed h).core h.core).pfx.isSome && !i.abs) = false := by
    rcases hr.pfx with h | h
    · simp [h]
    · simp [ha h]
  have hf' : (s0.shed h).fetch h.core ((s0.shed h).pc h) h.len = .ok () s1 := hf
  simp [State.runIns, hr.runs, hr.lost, hr.brk, hr.width, hr.spelt, hr.lops, h4, hpc, hf', hc, hl, hp, State.start]

/-- An instruction whose body completes: its answer. -/
theorem runIns_done {s0 s s1 u : State} {h : Sys2Proof.Hd} {i : Info} {body : State → M Out} {abs : Bool} {out : Out} (e : s = s0.shed h)
    (hr : s.Executes h abs) (hf : s.Fetches h s1) (hc : condHolds h.cond (s1.core h.core).bank.fl = true)
    (ha : abs = true → i.abs = true) (hl : i.legal = true) (hp : i.priv (s.core h.core) = none)
    (hb : body s1 = .ok out u) (hw : (u.core h.core).wpHit = none) : s0.runIns h i body = insnDone i.ev (s.retired s1 h u out) := by
  rw [runIns_fetched e hr hf hc ha hl hp]
  simp [State.runBody, hb, State.bodyEnd, hw, State.retired]

/-- A register instruction. -/
theorem regIns_done {s0 s s1 : State} {h : Sys2Proof.Hd} {legal : Bool} {t : Nat} {f : Bank → Bank} (e : s = s0.shed h)
    (hr : s.Executes h false) (hf : s.Fetches h s1) (hc : condHolds h.cond (s1.core h.core).bank.fl = true) (hl : legal = true)
    (hw : ((s1.modBank h.core f).core h.core).wpHit = none) : regIns h legal t f s0 = .next (s.bankDone s1 h f) := by
  unfold regIns
  exact runIns_done e hr hf hc (by simp) (by simpa [Info.reg] using hl) rfl rfl hw

end Sys2Proof.Machine
end

