-- ==== Sys2Proof/Laws/Memory.lean ====
section
/-! SUPPORT. What the shared operations keep: no fuse changes, and memory in its canonical form stays so. `Kept` says it of two
states, and of each kind of answer that holds a state. -/

namespace Sys2Proof.Machine

/-- From one state to another no fuse changes, and memory in its canonical form stays so. -/
def State.Kept (s t : State) : Prop := t.fuses = s.fuses ∧ (s.mem.wf = true → t.mem.wf = true)

/-- The same of every state that an answer holds. -/
def M.Kept {α : Type} (s : State) : M α → Prop
  | .ok _ t => s.Kept t
  | .trap _ t => s.Kept t
  | .wait t => s.Kept t
  | .stop t => s.Kept t
  | .drain => True

def OpRes.Kept (s : State) : OpRes → Prop
  | .done t => s.Kept t
  | .failed _ t => s.Kept t
  | .wait t => s.Kept t

def DrainRes.Kept (s : State) : DrainRes → Prop
  | .clear t => s.Kept t
  | .taken t => s.Kept t
  | .wait t => s.Kept t

def RawDrain.Kept (s : State) : RawDrain → Prop
  | .clear t => s.Kept t
  | .failed t _ _ => s.Kept t
  | .wait t => s.Kept t

def AreaRes.Kept (s : State) : AreaRes → Prop
  | .ok _ t => s.Kept t
  | .bad _ => True

def SaveRes.Kept (s : State) : SaveRes → Prop
  | .saved _ _ t => s.Kept t
  | .exhausted => True
  | .failed _ => True

theorem State.Kept.refl (s : State) : s.Kept s := ⟨rfl, id⟩
theorem State.Kept.trans {s t u : State} (h : s.Kept t) (g : t.Kept u) : s.Kept u := ⟨g.1.trans h.1, fun w => g.2 (h.2 w)⟩

theorem State.Kept.both {s t : State} (h : s.Kept t) : t.fuses = s.fuses ∧ (s.mem.wf = true → t.mem.wf = true) := h

/-- A state written out. -/
theorem State.kept_mk (s : State) (p : List Instr) (n : Nat) (f : Fuses) (m : MemSt) (c : Tab Core) (d : Dev) :
    s.Kept ⟨p, n, f, m, c, d⟩ ↔ f = s.fuses ∧ (s.mem.wf = true → m.wf = true) := Iff.rfl

/-- A state that differs in neither memory nor the fuses. -/
theorem State.Kept.same {s t : State} (hf : t.fuses = s.fuses) (hm : t.mem = s.mem) : s.Kept t := ⟨hf, fun w => by rw [hm]; exact w⟩

theorem State.Kept.fst {β : Type} {s t : State} {b : β} {p : State × β} (h : s.Kept p.1) (e : p = (t, b)) : s.Kept t := by subst e; exact h
theorem State.Kept.snd {β : Type} {s t : State} {b : β} {p : β × State} (h : s.Kept p.2) (e : p = (b, t)) : s.Kept t := by subst e; exact h
theorem State.Kept.third {β γ : Type} {s t : State} {b : β} {c : γ} {p : β × γ × State} (h : s.Kept p.2.2) (e : p = (b, c, t)) : s.Kept t := by
  subst e; exact h

theorem State.Kept.foldl {α : Type} {s : State} {f : State → α → State} (hf : ∀ (u : State) a, u.Kept (f u a)) (l : List α) : s.Kept (l.foldl f s) := by
  induction l generalizing s with
  | nil => exact State.Kept.refl s
  | cons a l ih => exact (hf s a).trans ih

theorem M.Kept.trans {α : Type} {s t : State} {m : M α} (h : s.Kept t) (g : M.Kept t m) : M.Kept s m := by
  cases m <;> first | exact State.Kept.trans h g | trivial

theorem M.Kept.bind {α β : Type} {s : State} {m : M α} {f : α → State → M β} (hm : M.Kept s m) (hf : ∀ a t, M.Kept t (f a t)) :
    M.Kept s (m.bind f) := by
  cases m with
  | ok a t => exact M.Kept.trans hm (hf a t)
  | trap _ _ => exact hm
  | wait _ => exact hm
  | stop _ => exact hm
  | drain => trivial

theorem M.Kept.ok {α : Type} {s t : State} {a : α} {m : M α} (h : M.Kept s m) (e : m = .ok a t) : s.Kept t := by subst e; exact h
theorem M.Kept.trap {α : Type} {s t : State} {x : Trap} {m : M α} (h : M.Kept s m) (e : m = .trap x t) : s.Kept t := by subst e; exact h
theorem M.Kept.wait {α : Type} {s t : State} {m : M α} (h : M.Kept s m) (e : m = .wait t) : s.Kept t := by subst e; exact h
theorem M.Kept.stop {α : Type} {s t : State} {m : M α} (h : M.Kept s m) (e : m = .stop t) : s.Kept t := by subst e; exact h

theorem OpRes.Kept.trans {s t : State} {m : OpRes} (h : s.Kept t) (g : OpRes.Kept t m) : OpRes.Kept s m := by cases m <;> exact State.Kept.trans h g
theorem OpRes.Kept.done {s t : State} {m : OpRes} (h : OpRes.Kept s m) (e : m = .done t) : s.Kept t := by subst e; exact h
theorem OpRes.Kept.failed {s t : State} {x : LopFail} {m : OpRes} (h : OpRes.Kept s m) (e : m = .failed x t) : s.Kept t := by subst e; exact h
theorem OpRes.Kept.wait {s t : State} {m : OpRes} (h : OpRes.Kept s m) (e : m = .wait t) : s.Kept t := by subst e; exact h

theorem DrainRes.Kept.trans {s t : State} {m : DrainRes} (h : s.Kept t) (g : DrainRes.Kept t m) : DrainRes.Kept s m := by
  cases m <;> exact State.Kept.trans h g
theorem DrainRes.Kept.clear {s t : State} {m : DrainRes} (h : DrainRes.Kept s m) (e : m = .clear t) : s.Kept t := by subst e; exact h
theorem DrainRes.Kept.taken {s t : State} {m : DrainRes} (h : DrainRes.Kept s m) (e : m = .taken t) : s.Kept t := by subst e; exact h
theorem DrainRes.Kept.wait {s t : State} {m : DrainRes} (h : DrainRes.Kept s m) (e : m = .wait t) : s.Kept t := by subst e; exact h

theorem RawDrain.Kept.trans {s t : State} {m : RawDrain} (h : s.Kept t) (g : RawDrain.Kept t m) : RawDrain.Kept s m := by
  cases m <;> exact State.Kept.trans h g
theorem RawDrain.Kept.clear {s t : State} {m : RawDrain} (h : RawDrain.Kept s m) (e : m = .clear t) : s.Kept t := by subst e; exact h
theorem RawDrain.Kept.failed {s t : State} {x : Trap} {p : Word} {m : RawDrain} (h : RawDrain.Kept s m) (e : m = .failed t x p) : s.Kept t := by
  subst e; exact h
theorem RawDrain.Kept.wait {s t : State} {m : RawDrain} (h : RawDrain.Kept s m) (e : m = .wait t) : s.Kept t := by subst e; exact h

theorem AreaRes.Kept.trans {s t : State} {m : AreaRes} (h : s.Kept t) (g : AreaRes.Kept t m) : AreaRes.Kept s m := by
  cases m <;> first | exact State.Kept.trans h g | trivial
theorem AreaRes.Kept.ok {s t : State} {b : List Byte} {m : AreaRes} (h : AreaRes.Kept s m) (e : m = .ok b t) : s.Kept t := by subst e; exact h
theorem SaveRes.Kept.trans {s t : State} {m : SaveRes} (h : s.Kept t) (g : SaveRes.Kept t m) : SaveRes.Kept s m := by
  cases m <;> first | exact State.Kept.trans h g | trivial
theorem SaveRes.Kept.saved {s t : State} {a l : Nat} {m : SaveRes} (h : SaveRes.Kept s m) (e : m = .saved a l t) : s.Kept t := by subst e; exact h

theorem M.Kept.mkOk {α : Type} {s t : State} {a : α} (h : s.Kept t) : M.Kept s (.ok a t) := h
theorem M.Kept.mkTrap {α : Type} {s t : State} {x : Trap} (h : s.Kept t) : M.Kept s (.trap x t : M α) := h
theorem M.Kept.mkWait {α : Type} {s t : State} (h : s.Kept t) : M.Kept s (.wait t : M α) := h
theorem M.Kept.mkStop {α : Type} {s t : State} (h : s.Kept t) : M.Kept s (.stop t : M α) := h
theorem OpRes.Kept.mkDone {s t : State} (h : s.Kept t) : OpRes.Kept s (.done t) := h
theorem OpRes.Kept.mkFailed {s t : State} {x : LopFail} (h : s.Kept t) : OpRes.Kept s (.failed x t) := h
theorem OpRes.Kept.mkWait {s t : State} (h : s.Kept t) : OpRes.Kept s (.wait t) := h
theorem DrainRes.Kept.mkClear {s t : State} (h : s.Kept t) : DrainRes.Kept s (.clear t) := h
theorem DrainRes.Kept.mkTaken {s t : State} (h : s.Kept t) : DrainRes.Kept s (.taken t) := h
theorem DrainRes.Kept.mkWait {s t : State} (h : s.Kept t) : DrainRes.Kept s (.wait t) := h
theorem RawDrain.Kept.mkClear {s t : State} (h : s.Kept t) : RawDrain.Kept s (.clear t) := h
theorem RawDrain.Kept.mkFailed {s t : State} {x : Trap} {p : Word} (h : s.Kept t) : RawDrain.Kept s (.failed t x p) := h
theorem RawDrain.Kept.mkWait {s t : State} (h : s.Kept t) : RawDrain.Kept s (.wait t) := h
theorem AreaRes.Kept.mkOk {s t : State} {b : List Byte} (h : s.Kept t) : AreaRes.Kept s (.ok b t) := h
theorem SaveRes.Kept.mkSaved {s t : State} {a : Nat} {l : Nat} (h : s.Kept t) : SaveRes.Kept s (.saved a l t) := h

theorem State.Kept.ite {s a b : State} {c : Prop} [Decidable c] (h : c → s.Kept a) (g : ¬c → s.Kept b) : s.Kept (if c then a else b) := by
  split <;> first | exact h ‹_› | exact g ‹_›
theorem State.Kept.of_ite_some {u t : State} {o : Option State} {c : Prop} [Decidable c] (h : (if c then o else some u) = some t)
    (g : ∀ v, o = some v → u.Kept v) : u.Kept t := by
  split at h
  · exact g t h
  · exact Option.some.inj h ▸ State.Kept.refl u
theorem State.Kept.ite1 {β : Type} {s : State} {a b : State × β} {c : Prop} [Decidable c] (h : c → s.Kept a.1) (g : ¬c → s.Kept b.1) :
    s.Kept (if c then a else b).1 := by
  split <;> first | exact h ‹_› | exact g ‹_›
theorem State.Kept.ite2 {β : Type} {s : State} {a b : β × State} {c : Prop} [Decidable c] (h : c → s.Kept a.2) (g : ¬c → s.Kept b.2) :
    s.Kept (if c then a else b).2 := by
  split <;> first | exact h ‹_› | exact g ‹_›
theorem State.Kept.ite3 {β γ : Type} {s : State} {a b : β × γ × State} {c : Prop} [Decidable c] (h : c → s.Kept a.2.2) (g : ¬c → s.Kept b.2.2) :
    s.Kept (if c then a else b).2.2 := by
  split <;> first | exact h ‹_› | exact g ‹_›
theorem M.Kept.ite {α : Type} {s : State} {a b : M α} {c : Prop} [Decidable c] (h : c → M.Kept s a) (g : ¬c → M.Kept s b) :
    M.Kept s (if c then a else b) := by
  split <;> first | exact h ‹_› | exact g ‹_›
theorem OpRes.Kept.ite {s : State} {a b : OpRes} {c : Prop} [Decidable c] (h : c → OpRes.Kept s a) (g : ¬c → OpRes.Kept s b) : OpRes.Kept s (if c then a else b) := by
  split <;> first | exact h ‹_› | exact g ‹_›
theorem DrainRes.Kept.ite {s : State} {a b : DrainRes} {c : Prop} [Decidable c] (h : c → DrainRes.Kept s a) (g : ¬c → DrainRes.Kept s b) : DrainRes.Kept s (if c then a else b) := by
  split <;> first | exact h ‹_› | exact g ‹_›
theorem RawDrain.Kept.ite {s : State} {a b : RawDrain} {c : Prop} [Decidable c] (h : c → RawDrain.Kept s a) (g : ¬c → RawDrain.Kept s b) : RawDrain.Kept s (if c then a else b) := by
  split <;> first | exact h ‹_› | exact g ‹_›
theorem AreaRes.Kept.ite {s : State} {a b : AreaRes} {c : Prop} [Decidable c] (h : c → AreaRes.Kept s a) (g : ¬c → AreaRes.Kept s b) : AreaRes.Kept s (if c then a else b) := by
  split <;> first | exact h ‹_› | exact g ‹_›
theorem SaveRes.Kept.ite {s : State} {a b : SaveRes} {c : Prop} [Decidable c] (h : c → SaveRes.Kept s a) (g : ¬c → SaveRes.Kept s b) : SaveRes.Kept s (if c then a else b) := by
  split <;> first | exact h ‹_› | exact g ‹_›

/-! ### Memory -/

/-- Writing bytes keeps the canonical form. -/
theorem MemSt.wf_put (m : MemSt) (pa : Nat) (bs : List Byte) (h : m.wf = true) : (m.put pa bs).wf = true := by
  simp only [MemSt.wf, MemSt.put] at h ⊢
  generalize bs.zip (List.range bs.length) = l
  generalize m.img = t at h
  induction l generalizing t with
  | nil => exact h
  | cons e l ih => exact ih _ (Tab.wf_set memDefault t _ _ h)

/-- Memory written out. -/
theorem MemSt.wf_mk (i : Tab Byte) (p : Tab Bool) (o : Tab (List Byte)) (d : Tab DirEnt) (l : Tab LineSt) (w : List WbEnt)
    (v : Tab (List Byte)) (q a b : Tab Bool) (e : List (Nat × Nat)) (n : Tab (List (Nat × Txn))) (c : Nat) (x : Tab Nat) :
    MemSt.wf ⟨i, p, o, d, l, w, v, q, a, b, e, n, c, x⟩ = Tab.wf memDefault i := rfl
theorem MemSt.wf_img {m : MemSt} (h : m.wf = true) : Tab.wf memDefault m.img = true := h

theorem MemSt.wf_setPoison (m : MemSt) (line : Nat) (b : Bool) : (m.setPoison line b).wf = m.wf := rfl
theorem MemSt.wf_setDir (m : MemSt) (line : Nat) (e : DirEnt) : (m.setDir line e).wf = m.wf := rfl
theorem MemSt.wf_setL2 (m : MemSt) (agent line : Nat) (x : LineSt) : (m.setL2 agent line x).wf = m.wf := rfl
theorem MemSt.wf_setPois (m : MemSt) (agent line : Nat) (b : Bool) : (m.setPois agent line b).wf = m.wf := rfl
theorem MemSt.wf_dropL2 (m : MemSt) (agent line : Nat) : (m.dropL2 agent line).wf = m.wf := rfl
theorem MemSt.wf_setLlcVal (m : MemSt) (line : Nat) (bs : List Byte) : (m.setLlcVal line bs).wf = m.wf := rfl
theorem MemSt.wf_freeWb (m : MemSt) (agent line : Nat) : (m.freeWb agent line).wf = m.wf := rfl
theorem MemSt.wf_setInput (m : MemSt) (slice : Nat) (q : List (Nat × Txn)) : (m.setInput slice q).wf = m.wf := rfl
theorem MemSt.wf_llcDrop (m : MemSt) (line : Nat) : (m.llcDrop line).wf = m.wf := by
  unfold MemSt.llcDrop; dsimp only; repeat' split
  all_goals rfl
theorem MemSt.wf_poisonNewest (m : MemSt) (line : Nat) : (m.poisonNewest line).wf = m.wf := by
  unfold MemSt.poisonNewest; dsimp only; repeat' split
  all_goals rfl
theorem MemSt.wf_keepLlc (m : MemSt) (line : Nat) : (m.keepLlc line).wf = m.wf := by unfold MemSt.keepLlc; split <;> rfl
theorem MemSt.wf_poisonIn (m : MemSt) (unit inst array line : Nat) : (m.poisonIn unit inst array line).wf = m.wf := by
  unfold MemSt.poisonIn; dsimp only; repeat' split
  all_goals first | rfl | exact MemSt.wf_poisonNewest ..
theorem MemSt.wf_clean (m : MemSt) (line : Nat) : (m.clean line).wf = m.wf := rfl
theorem MemSt.wf_markDirty (m : MemSt) (line : Nat) : (m.markDirty line).wf = m.wf := by unfold MemSt.markDirty; split <;> rfl

theorem MemSt.wf_discard (m : MemSt) (line : Nat) (h : m.wf = true) : (m.discard line).wf = true := by
  unfold MemSt.discard
  split
  · exact h
  · exact MemSt.wf_put m _ _ h

theorem MemSt.wf_foldl {α : Type} (f : MemSt → α → MemSt) (l : List α) (m : MemSt) (hf : ∀ (n : MemSt) (a : α), n.wf = true → (f n a).wf = true)
    (h : m.wf = true) : (l.foldl f m).wf = true := by
  induction l generalizing m with
  | nil => exact h
  | cons a l ih => exact ih _ (hf m a h)

/-- A power cycle of memory keeps the canonical form. -/
theorem MemSt.wf_afresh (m : MemSt) (h : m.wf = true) : m.afresh.wf = true := Tab.wf_filter memDefault m.img _ h

/-- Marking a line for write back keeps the canonical form. -/
theorem MemSt.wf_modWb (m : MemSt) (agent : _) (line : _) (f : _) (h : m.wf = true) : (m.modWb agent line f).wf = true := h

theorem MemSt.wf_empty : MemSt.empty.wf = true := rfl

/-- A read after a write of bytes: inside them what was written, outside them what was there. -/
theorem MemSt.get_put (m : MemSt) (pa : Nat) (bs : List Byte) (a : Nat) (h : m.wf = true) :
    Tab.get memDefault (m.put pa bs).img a = if pa ≤ a ∧ a < pa + bs.length then bs.getD (a - pa) 0 else Tab.get memDefault m.img a := by
  have hr : Tab.rising 0 m.img = true := by
    simp only [MemSt.wf, Tab.wf, Bool.and_eq_true] at h; exact h.1
  simp only [MemSt.put]
  -- the bytes from place `i` on
  have key : ∀ (l : List Byte) (i : Nat) (t : Tab Byte), Tab.rising 0 t = true →
      Tab.get memDefault ((l.zip (List.range' i l.length)).foldl (fun t e => Tab.set memDefault t (pa + e.2) e.1) t) a =
        if pa + i ≤ a ∧ a < pa + i + l.length then l.getD (a - pa - i) 0 else Tab.get memDefault t a := by
    intro l
    induction l with
    | nil => intro i t _; simp <;> (intros; omega)
    | cons b l ih =>
      intro i t ht
      simp only [List.length_cons, List.range'_succ, List.zip_cons_cons, List.foldl_cons]
      rw [ih (i + 1) _ (Tab.rising_set memDefault t _ _ ht), Tab.get_set memDefault t 0 _ _ _ ht]
      by_cases h1 : a = pa + i
      · rw [if_neg (by omega), if_pos h1, if_pos (by omega)]
        rw [show a - pa - i = 0 by omega]; rfl
      · by_cases h2 : pa + (i + 1) ≤ a ∧ a < pa + (i + 1) + l.length
        · rw [if_pos h2, if_pos (by omega)]
          rw [show a - pa - i = (a - pa - (i + 1)) + 1 by omega]; rfl
        · rw [if_neg h2, if_neg h1, if_neg (by omega)]
  have := key bs 0 m.img hr
  rw [← List.range_eq_range'] at this
  simpa using this

/-! ### The plain updates -/

theorem State.onDev_kept (s : State) (f : Dev → Dev) : s.Kept (s.onDev f) := State.Kept.same rfl rfl
theorem State.setCore_kept (s : State) (k : Nat) (c : Core) : s.Kept (s.setCore k c) := State.Kept.same rfl rfl
theorem State.modCore_kept (s : State) (k : Nat) (f : Core → Core) : s.Kept (s.modCore k f) := State.Kept.same rfl rfl
theorem State.modBank_kept (s : State) (k : Nat) (f : Bank → Bank) : s.Kept (s.modBank k f) := State.Kept.same rfl rfl
theorem State.settle_kept (s : State) : s.Kept s.settle := State.Kept.same rfl rfl
theorem State.withDev_kept (s : State) (d : Dev) : s.Kept { s with dev := d } := State.Kept.same rfl rfl
theorem State.withCores_kept (s : State) (c : Tab Core) : s.Kept { s with cores := c } := State.Kept.same rfl rfl
theorem State.withFree_kept (s : State) (n : Nat) : s.Kept { s with free := n } := State.Kept.same rfl rfl

/-- A change of memory that keeps its canonical form. -/
theorem State.onMem_kept (s : State) (f : MemSt → MemSt) (h : ∀ m, m.wf = true → (f m).wf = true) : s.Kept (s.onMem f) := ⟨rfl, h s.mem⟩

end Sys2Proof.Machine
end

