-- ==== Sys2Proof/Laws/KeepsMemory.lean ====
section
/-! SUPPORT. One lemma for each shared operation of the coherence of memory, the register blocks and the accesses: it changes no fuse and keeps memory in its
canonical form (`Kept`, of Laws/Memory.lean). -/

open Sys2Proof Sys2Proof.Machine
namespace Sys2Proof.Machine

set_option Elab.async false
set_option linter.unusedSimpArgs false

seal State.onDev State.onMem State.setCore State.modCore State.modBank State.settle MemSt.put MemSt.discard

/-! ### Coh -/

theorem State.killOps_kept (s : State) (agent : Nat) (line : Nat) : s.Kept (State.killOps s agent line) := by
  unfold State.killOps
  try dsimp only
  repeat'
    first
    | (with_reducible refine State.Kept.ite (fun _ => ?_) (fun _ => ?_))
    | (with_reducible exact State.Kept.refl _)
    | (with_reducible refine State.Kept.trans ?_ (State.modCore_kept ..))
seal State.killOps

theorem State.inval_kept (s : State) (agent : Nat) (line : Nat) : s.Kept (State.inval s agent line) := by
  unfold State.inval
  try dsimp only
  repeat'
    first
    | (with_reducible exact State.Kept.refl _)
    | (with_reducible assumption)
    | (with_reducible refine State.Kept.trans ?_ (State.killOps_kept ..))
    | (with_reducible refine State.Kept.trans ?_ (State.onMem_kept _ _ ?_))
    | simp only [MemSt.wf_mk, MemSt.wf_setDir, MemSt.wf_setL2, MemSt.wf_setPoison, MemSt.wf_clean, MemSt.wf_markDirty, MemSt.wf_setPois, MemSt.wf_dropL2, MemSt.wf_setLlcVal, MemSt.wf_freeWb, MemSt.wf_setInput, MemSt.wf_llcDrop, MemSt.wf_poisonNewest, MemSt.wf_keepLlc, MemSt.wf_poisonIn]
    | intro _
seal State.inval

theorem State.pickVictim_kept (s : State) (l : List Nat) : s.Kept (State.pickVictim s l).2 := by
  unfold State.pickVictim
  try dsimp only
  repeat'
    first
    | (with_reducible assumption)
    | (simp only [State.kept_mk] <;> first | refine State.Kept.both ?_ | intro _ | refine ⟨?_, fun _ => ?_⟩)
seal State.pickVictim

theorem State.llcRoom_kept (s : State) (line : Nat) : s.Kept (State.llcRoom s line) := by
  unfold State.llcRoom
  try dsimp only
  repeat'
    first
    | (with_reducible exact State.Kept.refl _)
    | (with_reducible assumption)
    | (with_reducible refine State.Kept.trans ?_ (State.pickVictim_kept ..))
    | (with_reducible refine State.Kept.trans ?_ (State.onMem_kept _ _ ?_))
    | simp only [MemSt.wf_mk, MemSt.wf_setDir, MemSt.wf_setL2, MemSt.wf_setPoison, MemSt.wf_clean, MemSt.wf_markDirty, MemSt.wf_setPois, MemSt.wf_dropL2, MemSt.wf_setLlcVal, MemSt.wf_freeWb, MemSt.wf_setInput, MemSt.wf_llcDrop, MemSt.wf_poisonNewest, MemSt.wf_keepLlc, MemSt.wf_poisonIn]
    | intro _
    | split
seal State.llcRoom

theorem State.llcTake_kept (s : State) (line : Nat) (pois : Bool) : s.Kept (State.llcTake s line pois) := by
  unfold State.llcTake
  try dsimp only
  repeat'
    first
    | (with_reducible exact State.Kept.refl _)
    | (with_reducible assumption)
    | (with_reducible refine State.Kept.trans ?_ (State.llcRoom_kept ..))
    | (with_reducible refine State.Kept.trans ?_ (State.onMem_kept _ _ ?_))
    | simp only [MemSt.wf_mk, MemSt.wf_setDir, MemSt.wf_setL2, MemSt.wf_setPoison, MemSt.wf_clean, MemSt.wf_markDirty, MemSt.wf_setPois, MemSt.wf_dropL2, MemSt.wf_setLlcVal, MemSt.wf_freeWb, MemSt.wf_setInput, MemSt.wf_llcDrop, MemSt.wf_poisonNewest, MemSt.wf_keepLlc, MemSt.wf_poisonIn]
    | intro _
seal State.llcTake

theorem State.dirEvict_kept (s : State) (line : Nat) : s.Kept (State.dirEvict s line) := by
  unfold State.dirEvict
  try dsimp only
  repeat'
    first
    | (with_reducible refine State.Kept.ite (fun _ => ?_) (fun _ => ?_))
    | (with_reducible exact State.Kept.refl _)
    | (with_reducible assumption)
    | (with_reducible refine State.Kept.trans ?_ (State.llcTake_kept ..))
    | (with_reducible refine State.Kept.trans ?_ (State.inval_kept ..))
    | (with_reducible refine State.Kept.trans ?_ (State.onDev_kept ..))
    | (with_reducible refine State.Kept.trans ?_ (State.onMem_kept _ _ ?_))
    | simp only [MemSt.wf_mk, MemSt.wf_setDir, MemSt.wf_setL2, MemSt.wf_setPoison, MemSt.wf_clean, MemSt.wf_markDirty, MemSt.wf_setPois, MemSt.wf_dropL2, MemSt.wf_setLlcVal, MemSt.wf_freeWb, MemSt.wf_setInput, MemSt.wf_llcDrop, MemSt.wf_poisonNewest, MemSt.wf_keepLlc, MemSt.wf_poisonIn]
    | (with_reducible refine State.Kept.trans ?_ (State.Kept.foldl ?_ _))
    | intro _
seal State.dirEvict

theorem State.dirRoom_kept (s : State) (line : Nat) : s.Kept (State.dirRoom s line) := by
  unfold State.dirRoom
  try dsimp only
  repeat'
    first
    | (with_reducible exact State.Kept.refl _)
    | (with_reducible assumption)
    | (with_reducible refine State.Kept.trans ?_ (State.dirEvict_kept ..))
    | (with_reducible refine State.Kept.trans ?_ (State.onMem_kept _ _ ?_))
    | (with_reducible refine MemSt.wf_img ?_)
    | simp only [MemSt.wf_mk, MemSt.wf_setDir, MemSt.wf_setL2, MemSt.wf_setPoison, MemSt.wf_clean, MemSt.wf_markDirty, MemSt.wf_setPois, MemSt.wf_dropL2, MemSt.wf_setLlcVal, MemSt.wf_freeWb, MemSt.wf_setInput, MemSt.wf_llcDrop, MemSt.wf_poisonNewest, MemSt.wf_keepLlc, MemSt.wf_poisonIn]
    | intro _
    | split
seal State.dirRoom

theorem State.evictOut_kept (s : State) (agent : Nat) (line : Nat) : s.Kept (State.evictOut s agent line) := by
  unfold State.evictOut
  try dsimp only
  repeat'
    first
    | (with_reducible exact State.Kept.refl _)
    | (with_reducible assumption)
    | (with_reducible refine State.Kept.trans ?_ (State.inval_kept ..))
    | (with_reducible refine State.Kept.trans ?_ (State.onMem_kept _ _ ?_))
    | (with_reducible refine MemSt.wf_img ?_)
    | simp only [MemSt.wf_mk, MemSt.wf_setDir, MemSt.wf_setL2, MemSt.wf_setPoison, MemSt.wf_clean, MemSt.wf_markDirty, MemSt.wf_setPois, MemSt.wf_dropL2, MemSt.wf_setLlcVal, MemSt.wf_freeWb, MemSt.wf_setInput, MemSt.wf_llcDrop, MemSt.wf_poisonNewest, MemSt.wf_keepLlc, MemSt.wf_poisonIn]
    | intro _
seal State.evictOut

theorem State.absorb_kept (s : State) (w : WbEnt) : s.Kept (State.absorb s w) := by
  unfold State.absorb
  try dsimp only
  repeat'
    first
    | (with_reducible refine State.Kept.ite (fun _ => ?_) (fun _ => ?_))
    | (with_reducible exact State.Kept.refl _)
    | (with_reducible assumption)
    | (with_reducible refine State.Kept.trans ?_ (State.llcTake_kept ..))
    | (with_reducible refine State.Kept.trans ?_ (State.onMem_kept _ _ ?_))
    | simp only [MemSt.wf_mk, MemSt.wf_setDir, MemSt.wf_setL2, MemSt.wf_setPoison, MemSt.wf_clean, MemSt.wf_markDirty, MemSt.wf_setPois, MemSt.wf_dropL2, MemSt.wf_setLlcVal, MemSt.wf_freeWb, MemSt.wf_setInput, MemSt.wf_llcDrop, MemSt.wf_poisonNewest, MemSt.wf_keepLlc, MemSt.wf_poisonIn]
    | intro _
seal State.absorb

theorem State.evictHome_kept (s : State) (agent : Nat) (line : Nat) : s.Kept (State.evictHome s agent line) := by
  unfold State.evictHome
  try dsimp only
  repeat'
    first
    | (with_reducible exact State.Kept.refl _)
    | (with_reducible assumption)
    | (with_reducible refine State.Kept.trans ?_ (State.absorb_kept ..))
    | (with_reducible refine State.Kept.trans ?_ (State.onMem_kept _ _ ?_))
    | (with_reducible refine MemSt.wf_modWb _ _ _ _ ?_)
    | intro _
    | split
seal State.evictHome

theorem State.l2Room_kept (s : State) (agent : Nat) (line : Nat) (clean : Bool) : s.Kept (State.l2Room s agent line clean) := by
  unfold State.l2Room
  try dsimp only
  repeat'
    first
    | (with_reducible exact State.Kept.refl _)
    | (with_reducible assumption)
    | (with_reducible refine State.Kept.trans ?_ (State.evictHome_kept ..))
    | (with_reducible refine State.Kept.trans ?_ (State.evictOut_kept ..))
    | (with_reducible refine State.Kept.trans ?_ (State.pickVictim_kept ..))
    | (with_reducible refine State.Kept.trans ?_ (State.onMem_kept _ _ ?_))
    | simp only [MemSt.wf_mk, MemSt.wf_setDir, MemSt.wf_setL2, MemSt.wf_setPoison, MemSt.wf_clean, MemSt.wf_markDirty, MemSt.wf_setPois, MemSt.wf_dropL2, MemSt.wf_setLlcVal, MemSt.wf_freeWb, MemSt.wf_setInput, MemSt.wf_llcDrop, MemSt.wf_poisonNewest, MemSt.wf_keepLlc, MemSt.wf_poisonIn]
    | intro _
    | split
seal State.l2Room

theorem State.l1Fill_kept (s : State) (agent : Nat) (line : Nat) (instr : Bool) : s.Kept (State.l1Fill s agent line instr) := by
  unfold State.l1Fill
  try dsimp only
  repeat'
    first
    | (with_reducible exact State.Kept.refl _)
    | (with_reducible assumption)
    | (with_reducible refine State.Kept.trans ?_ (State.pickVictim_kept ..))
    | (with_reducible refine State.Kept.trans ?_ (State.killOps_kept ..))
    | (with_reducible refine State.Kept.trans ?_ (State.onMem_kept _ _ ?_))
    | (with_reducible refine MemSt.wf_img ?_)
    | simp only [MemSt.wf_mk, MemSt.wf_setDir, MemSt.wf_setL2, MemSt.wf_setPoison, MemSt.wf_clean, MemSt.wf_markDirty, MemSt.wf_setPois, MemSt.wf_dropL2, MemSt.wf_setLlcVal, MemSt.wf_freeWb, MemSt.wf_setInput, MemSt.wf_llcDrop, MemSt.wf_poisonNewest, MemSt.wf_keepLlc, MemSt.wf_poisonIn]
    | intro _
    | split
seal State.l1Fill

theorem State.grant_kept (s : State) (line : Nat) (t : Txn) (st : LineSt) (e : DirEnt) : s.Kept (State.grant s line t st e) := by
  unfold State.grant
  try dsimp only
  repeat'
    first
    | (with_reducible exact State.Kept.refl _)
    | (with_reducible assumption)
    | (with_reducible refine State.Kept.trans ?_ (State.l2Room_kept ..))
    | (with_reducible refine State.Kept.trans ?_ (State.onMem_kept _ _ ?_))
    | simp only [MemSt.wf_mk, MemSt.wf_setDir, MemSt.wf_setL2, MemSt.wf_setPoison, MemSt.wf_clean, MemSt.wf_markDirty, MemSt.wf_setPois, MemSt.wf_dropL2, MemSt.wf_setLlcVal, MemSt.wf_freeWb, MemSt.wf_setInput, MemSt.wf_llcDrop, MemSt.wf_poisonNewest, MemSt.wf_keepLlc, MemSt.wf_poisonIn]
    | intro _
seal State.grant

theorem State.finishPut_kept (s : State) (line : Nat) (t : Txn) : s.Kept (State.finishPut s line t) := by
  unfold State.finishPut
  try dsimp only
  repeat'
    first
    | (with_reducible assumption)
    | (with_reducible refine State.Kept.trans ?_ (State.l2Room_kept ..))
    | (with_reducible refine State.Kept.trans ?_ (State.llcTake_kept ..))
    | (with_reducible refine State.Kept.trans ?_ (State.killOps_kept ..))
    | (simp only [State.kept_mk] <;> first | refine State.Kept.both ?_ | intro _ | refine ⟨?_, fun _ => ?_⟩)
    | (with_reducible refine State.Kept.trans ?_ (State.onMem_kept _ _ ?_))
    | simp only [MemSt.wf_mk, MemSt.wf_setDir, MemSt.wf_setL2, MemSt.wf_setPoison, MemSt.wf_clean, MemSt.wf_markDirty, MemSt.wf_setPois, MemSt.wf_dropL2, MemSt.wf_setLlcVal, MemSt.wf_freeWb, MemSt.wf_setInput, MemSt.wf_llcDrop, MemSt.wf_poisonNewest, MemSt.wf_keepLlc, MemSt.wf_poisonIn]
    | (with_reducible refine MemSt.wf_put _ _ _ ?_)
    | intro _
    | split
seal State.finishPut

theorem State.finishTxn_kept (s : State) (line : Nat) (t : Txn) : s.Kept (State.finishTxn s line t) := by
  unfold State.finishTxn
  try dsimp only
  repeat'
    first
    | (with_reducible exact State.Kept.refl _)
    | (with_reducible refine State.Kept.trans ?_ (State.finishPut_kept ..))
    | (with_reducible refine State.Kept.trans ?_ (State.grant_kept ..))
    | (with_reducible refine State.Kept.trans ?_ (State.llcTake_kept ..))
    | (with_reducible refine State.Kept.trans ?_ (State.onDev_kept ..))
    | split
seal State.finishTxn

theorem State.snoopOne_kept (s : State) (line : Nat) (agent : Nat) (kind : TxnKind) (keep : Option Nat) : s.Kept (State.snoopOne s line agent kind keep).1 := by
  unfold State.snoopOne
  try dsimp only
  repeat'
    first
    | (with_reducible exact State.Kept.refl _)
    | (with_reducible assumption)
    | (with_reducible refine State.Kept.trans ?_ (State.inval_kept ..))
    | (with_reducible refine State.Kept.trans ?_ (State.killOps_kept ..))
    | (with_reducible refine State.Kept.trans ?_ (State.onMem_kept _ _ ?_))
    | (with_reducible refine MemSt.wf_img ?_)
    | simp only [MemSt.wf_mk, MemSt.wf_setDir, MemSt.wf_setL2, MemSt.wf_setPoison, MemSt.wf_clean, MemSt.wf_markDirty, MemSt.wf_setPois, MemSt.wf_dropL2, MemSt.wf_setLlcVal, MemSt.wf_freeWb, MemSt.wf_setInput, MemSt.wf_llcDrop, MemSt.wf_poisonNewest, MemSt.wf_keepLlc, MemSt.wf_poisonIn]
    | intro _
    | split
seal State.snoopOne

theorem State.snoopAnswer_kept (s : State) (line : Nat) (target : Nat) (kind : TxnKind) (keep : Option Nat) : s.Kept (State.snoopAnswer s line target kind keep).1 := by
  unfold State.snoopAnswer
  have go : ∀ (l : List Nat) (r : State × Bool), s.Kept r.1 →
      s.Kept (l.foldl (fun r k => ((r.1.snoopOne line k kind keep).1, r.2 || (r.1.snoopOne line k kind keep).2)) r).1 := by
    intro l
    induction l with
    | nil => exact fun _ h => h
    | cons a l ih => exact fun r h => ih _ (State.Kept.trans h (State.snoopOne_kept ..))
  exact go _ _ (State.Kept.refl s)
seal State.snoopAnswer

theorem State.startTxn_kept (s : State) (line : Nat) (t : Txn) : s.Kept (State.startTxn s line t) := by
  unfold State.startTxn
  try dsimp only
  repeat'
    first
    | (with_reducible exact State.Kept.refl _)
    | (with_reducible assumption)
    | (with_reducible refine State.Kept.trans ?_ (State.finishTxn_kept ..))
    | (with_reducible refine State.Kept.trans ?_ (State.dirRoom_kept ..))
    | (with_reducible refine State.Kept.trans ?_ (State.onMem_kept _ _ ?_))
    | simp only [MemSt.wf_mk, MemSt.wf_setDir, MemSt.wf_setL2, MemSt.wf_setPoison, MemSt.wf_clean, MemSt.wf_markDirty, MemSt.wf_setPois, MemSt.wf_dropL2, MemSt.wf_setLlcVal, MemSt.wf_freeWb, MemSt.wf_setInput, MemSt.wf_llcDrop, MemSt.wf_poisonNewest, MemSt.wf_keepLlc, MemSt.wf_poisonIn]
    | intro _
    | split
seal State.startTxn

theorem State.drainWait_kept (a0 : Nat) (a1 : State) (a2 : Nat) : a1.Kept (State.drainWait a0 a1 a2) := by
  fun_induction State.drainWait a0 a1 a2 <;> (repeat' first
    | (with_reducible exact State.Kept.refl _)
    | (with_reducible refine State.Kept.trans ?_ (State.startTxn_kept ..))
    | (with_reducible refine State.Kept.trans ?_ (State.onMem_kept _ _ ?_))
    | (with_reducible solve_by_elim)
    | (with_reducible refine State.Kept.trans ?_ (by assumption)))
seal State.drainWait

theorem State.serveWaiting_kept (s : State) (line : Nat) : s.Kept (State.serveWaiting s line) := by
  unfold State.serveWaiting
  try dsimp only
  repeat'
    first
    | (with_reducible exact State.Kept.refl _)
    | (with_reducible refine State.Kept.trans ?_ (State.drainWait_kept ..))
seal State.serveWaiting

theorem State.accept_kept (s : State) (line : Nat) (t : Txn) : s.Kept (State.accept s line t) := by
  unfold State.accept
  try dsimp only
  repeat'
    first
    | (with_reducible exact State.Kept.refl _)
    | (with_reducible assumption)
    | (with_reducible refine State.Kept.trans ?_ (State.startTxn_kept ..))
    | (with_reducible refine State.Kept.trans ?_ (State.onDev_kept ..))
    | (with_reducible refine State.Kept.trans ?_ (State.onMem_kept _ _ ?_))
    | simp only [MemSt.wf_mk, MemSt.wf_setDir, MemSt.wf_setL2, MemSt.wf_setPoison, MemSt.wf_clean, MemSt.wf_markDirty, MemSt.wf_setPois, MemSt.wf_dropL2, MemSt.wf_setLlcVal, MemSt.wf_freeWb, MemSt.wf_setInput, MemSt.wf_llcDrop, MemSt.wf_poisonNewest, MemSt.wf_keepLlc, MemSt.wf_poisonIn]
    | intro _
    | split
seal State.accept

theorem State.letIn_kept (a0 : Nat) (a1 : State) (a2 : Nat) : a1.Kept (State.letIn a0 a1 a2) := by
  fun_induction State.letIn a0 a1 a2 <;> (repeat' first
    | (with_reducible exact State.Kept.refl _)
    | (with_reducible refine State.Kept.trans ?_ (State.accept_kept ..))
    | (with_reducible refine State.Kept.trans ?_ (State.onMem_kept _ _ ?_))
    | (with_reducible solve_by_elim)
    | (with_reducible refine State.Kept.trans ?_ (by assumption)))
seal State.letIn

theorem State.retryEvicts_kept (s : State) (slice : Nat) : s.Kept (State.retryEvicts s slice) := by
  unfold State.retryEvicts
  try dsimp only
  repeat'
    first
    | (with_reducible exact State.Kept.refl _)
    | (with_reducible refine State.Kept.trans ?_ (State.evictHome_kept ..))
    | (with_reducible refine State.Kept.trans ?_ (State.Kept.foldl ?_ _))
    | intro _
seal State.retryEvicts

theorem State.homeNext_kept (s : State) (line : Nat) : s.Kept (State.homeNext s line) := by
  unfold State.homeNext
  try dsimp only
  repeat'
    first
    | (with_reducible refine State.Kept.ite (fun _ => ?_) (fun _ => ?_))
    | (with_reducible exact State.Kept.refl _)
    | (with_reducible refine State.Kept.trans ?_ (State.retryEvicts_kept ..))
    | (with_reducible refine State.Kept.trans ?_ (State.letIn_kept ..))
    | (with_reducible refine State.Kept.trans ?_ (State.serveWaiting_kept ..))
seal State.homeNext

theorem State.evictArrive_kept (s : State) (agent : Nat) (line : Nat) : s.Kept (State.evictArrive s agent line) := by
  unfold State.evictArrive
  try dsimp only
  repeat'
    first
    | (with_reducible exact State.Kept.refl _)
    | (with_reducible refine State.Kept.trans ?_ (State.homeNext_kept ..))
    | (with_reducible refine State.Kept.trans ?_ (State.evictHome_kept ..))
seal State.evictArrive

theorem State.answer_kept (s : State) (line : Nat) (agent : Nat) : s.Kept (State.answer s line agent) := by
  unfold State.answer
  try dsimp only
  repeat'
    first
    | (with_reducible exact State.Kept.refl _)
    | (with_reducible assumption)
    | (with_reducible refine State.Kept.trans ?_ (State.homeNext_kept ..))
    | (with_reducible refine State.Kept.trans ?_ (State.snoopAnswer_kept ..))
    | (with_reducible refine State.Kept.trans ?_ (State.finishTxn_kept ..))
    | (with_reducible refine State.Kept.trans ?_ (State.onMem_kept _ _ ?_))
    | simp only [MemSt.wf_mk, MemSt.wf_setDir, MemSt.wf_setL2, MemSt.wf_setPoison, MemSt.wf_clean, MemSt.wf_markDirty, MemSt.wf_setPois, MemSt.wf_dropL2, MemSt.wf_setLlcVal, MemSt.wf_freeWb, MemSt.wf_setInput, MemSt.wf_llcDrop, MemSt.wf_poisonNewest, MemSt.wf_keepLlc, MemSt.wf_poisonIn]
    | intro _
    | split
seal State.answer

theorem State.holdOver_kept (s : State) (target : Nat) (line : Nat) : s.Kept (State.holdOver s target line) := by
  unfold State.holdOver
  try dsimp only
  repeat'
    first
    | (with_reducible refine State.Kept.ite (fun _ => ?_) (fun _ => ?_))
    | (with_reducible exact State.Kept.refl _)
    | (with_reducible refine State.Kept.trans ?_ (State.modCore_kept ..))
    | (with_reducible refine State.Kept.trans ?_ (State.Kept.foldl ?_ _))
    | intro _
seal State.holdOver

theorem State.answerAll_kept (s : State) (line : Nat) : s.Kept (State.answerAll s line) := by
  unfold State.answerAll
  try dsimp only
  repeat'
    first
    | (with_reducible exact State.Kept.refl _)
    | (with_reducible refine State.Kept.trans ?_ (State.holdOver_kept ..))
    | (with_reducible refine State.Kept.trans ?_ (State.answer_kept ..))
    | (with_reducible refine State.Kept.trans ?_ (State.Kept.foldl ?_ _))
    | intro _
    | split
seal State.answerAll

theorem State.quietLine_kept (s : State) (line : Nat) : s.Kept (State.quietLine s line) := by
  unfold State.quietLine
  try dsimp only
  repeat'
    first
    | (with_reducible exact State.Kept.refl _)
    | (with_reducible refine State.Kept.trans ?_ (State.answerAll_kept ..))
    | (with_reducible refine State.Kept.trans ?_ (State.Kept.foldl ?_ _))
    | intro _
seal State.quietLine

theorem State.request_kept (s : State) (agent : Nat) (line : Nat) (qos : Nat) (rq : Sys2Proof.Req) (t : Txn) : s.Kept (State.request s agent line qos rq t) := by
  unfold State.request
  try dsimp only
  repeat'
    first
    | (with_reducible exact State.Kept.refl _)
    | (with_reducible assumption)
    | (with_reducible refine State.Kept.trans ?_ (State.accept_kept ..))
    | (with_reducible refine State.Kept.trans ?_ (State.onDev_kept ..))
    | (with_reducible refine State.Kept.trans ?_ (State.onMem_kept _ _ ?_))
    | (with_reducible refine MemSt.wf_img ?_)
    | simp only [MemSt.wf_mk, MemSt.wf_setDir, MemSt.wf_setL2, MemSt.wf_setPoison, MemSt.wf_clean, MemSt.wf_markDirty, MemSt.wf_setPois, MemSt.wf_dropL2, MemSt.wf_setLlcVal, MemSt.wf_freeWb, MemSt.wf_setInput, MemSt.wf_llcDrop, MemSt.wf_poisonNewest, MemSt.wf_keepLlc, MemSt.wf_poisonIn]
    | intro _
    | split
seal State.request

theorem State.needTracker_kept (s : State) (line : Nat) (qos : Nat) (io : Bool) : s.Kept (State.needTracker s line qos io) := by
  unfold State.needTracker
  try dsimp only
  repeat'
    first
    | (with_reducible exact State.Kept.refl _)
    | (with_reducible refine State.Kept.trans ?_ (State.quietLine_kept ..))
    | (with_reducible refine State.Kept.trans ?_ (State.onDev_kept ..))
    | (with_reducible refine State.Kept.trans ?_ (State.Kept.foldl ?_ _))
    | intro _
    | split
seal State.needTracker

theorem State.serve_kept (s : State) (line : Nat) (t : Txn) : s.Kept (State.serve s line t) := by
  unfold State.serve
  try dsimp only
  repeat'
    first
    | (with_reducible exact State.Kept.refl _)
    | (with_reducible refine State.Kept.trans ?_ (State.needTracker_kept ..))
    | (with_reducible refine State.Kept.trans ?_ (State.quietLine_kept ..))
    | (with_reducible refine State.Kept.trans ?_ (State.answerAll_kept ..))
    | (with_reducible refine State.Kept.trans ?_ (State.homeNext_kept ..))
    | (with_reducible refine State.Kept.trans ?_ (State.startTxn_kept ..))
    | (with_reducible refine State.Kept.trans ?_ (State.onDev_kept ..))
seal State.serve

theorem State.noteMiss_kept (s : State) (agent : Nat) (line : Nat) : s.Kept (State.noteMiss s agent line) := by
  unfold State.noteMiss
  try dsimp only
  repeat'
    first
    | (with_reducible refine State.Kept.ite (fun _ => ?_) (fun _ => ?_))
    | (with_reducible exact State.Kept.refl _)
    | (with_reducible refine State.Kept.trans ?_ (State.onDev_kept ..))
seal State.noteMiss

theorem State.fillRead_kept (s : State) (agent : Nat) (line : Nat) (wt : Bool) : s.Kept (State.fillRead s agent line wt) := by
  unfold State.fillRead
  try dsimp only
  repeat'
    first
    | (with_reducible refine State.Kept.ite (fun _ => ?_) (fun _ => ?_))
    | (with_reducible exact State.Kept.refl _)
    | (with_reducible refine State.Kept.trans ?_ (State.noteMiss_kept ..))
    | (with_reducible refine State.Kept.trans ?_ (State.serve_kept ..))
seal State.fillRead

theorem State.ownLine_kept (s : State) (agent : Nat) (line : Nat) : s.Kept (State.ownLine s agent line) := by
  unfold State.ownLine
  try dsimp only
  repeat'
    first
    | (with_reducible exact State.Kept.refl _)
    | (with_reducible refine State.Kept.trans ?_ (State.noteMiss_kept ..))
    | (with_reducible refine State.Kept.trans ?_ (State.serve_kept ..))
    | split
seal State.ownLine

theorem State.fillWrite_kept (s : State) (agent : Nat) (line : Nat) : s.Kept (State.fillWrite s agent line) := by
  unfold State.fillWrite
  try dsimp only
  repeat'
    first
    | (with_reducible exact State.Kept.refl _)
    | (with_reducible assumption)
    | (with_reducible refine State.Kept.trans ?_ (State.ownLine_kept ..))
    | (with_reducible refine State.Kept.trans ?_ (State.l1Fill_kept ..))
    | (with_reducible refine State.Kept.trans ?_ (State.onMem_kept _ _ ?_))
    | (with_reducible refine MemSt.wf_img ?_)
    | simp only [MemSt.wf_mk, MemSt.wf_setDir, MemSt.wf_setL2, MemSt.wf_setPoison, MemSt.wf_clean, MemSt.wf_markDirty, MemSt.wf_setPois, MemSt.wf_dropL2, MemSt.wf_setLlcVal, MemSt.wf_freeWb, MemSt.wf_setInput, MemSt.wf_llcDrop, MemSt.wf_poisonNewest, MemSt.wf_keepLlc, MemSt.wf_poisonIn]
    | intro _
    | split
seal State.fillWrite

theorem State.putBytes_kept (s : State) (pa : Nat) (bs : List Byte) (stash : Option Nat) (keep : Option Nat) (io : Bool) (qos : Nat) : s.Kept (State.putBytes s pa bs stash keep io qos) := by
  unfold State.putBytes
  try dsimp only
  repeat'
    first
    | (with_reducible exact State.Kept.refl _)
    | (with_reducible refine State.Kept.trans ?_ (State.serve_kept ..))
    | (with_reducible refine State.Kept.trans ?_ (State.Kept.foldl ?_ _))
    | intro _
seal State.putBytes

theorem State.cwb_kept (s : State) (line : Nat) : s.Kept (State.cwb s line) := by
  unfold State.cwb
  try dsimp only
  repeat'
    first
    | (with_reducible exact State.Kept.refl _)
    | (with_reducible assumption)
    | (with_reducible refine State.Kept.trans ?_ (State.quietLine_kept ..))
    | (with_reducible refine State.Kept.trans ?_ (State.onMem_kept _ _ ?_))
    | simp only [MemSt.wf_mk, MemSt.wf_setDir, MemSt.wf_setL2, MemSt.wf_setPoison, MemSt.wf_clean, MemSt.wf_markDirty, MemSt.wf_setPois, MemSt.wf_dropL2, MemSt.wf_setLlcVal, MemSt.wf_freeWb, MemSt.wf_setInput, MemSt.wf_llcDrop, MemSt.wf_poisonNewest, MemSt.wf_keepLlc, MemSt.wf_poisonIn]
    | (with_reducible refine MemSt.wf_foldl _ _ _ ?_ ?_)
    | intro _
    | split
seal State.cwb

theorem State.invalAll_kept (s : State) (line : Nat) (discard : Bool) : s.Kept (State.invalAll s line discard) := by
  unfold State.invalAll
  try dsimp only
  repeat'
    first
    | (with_reducible exact State.Kept.refl _)
    | (with_reducible assumption)
    | (with_reducible refine State.Kept.trans ?_ (State.quietLine_kept ..))
    | (with_reducible refine State.Kept.trans ?_ (State.inval_kept ..))
    | (with_reducible refine State.Kept.trans ?_ (State.onMem_kept _ _ ?_))
    | simp only [MemSt.wf_mk, MemSt.wf_setDir, MemSt.wf_setL2, MemSt.wf_setPoison, MemSt.wf_clean, MemSt.wf_markDirty, MemSt.wf_setPois, MemSt.wf_dropL2, MemSt.wf_setLlcVal, MemSt.wf_freeWb, MemSt.wf_setInput, MemSt.wf_llcDrop, MemSt.wf_poisonNewest, MemSt.wf_keepLlc, MemSt.wf_poisonIn]
    | (with_reducible refine MemSt.wf_discard _ _ ?_)
    | (with_reducible refine State.Kept.trans ?_ (State.Kept.foldl ?_ _))
    | intro _
    | split
seal State.invalAll

theorem State.cwbi_kept (s : State) (line : Nat) : s.Kept (State.cwbi s line) := by
  unfold State.cwbi
  try dsimp only
  repeat'
    first
    | (with_reducible exact State.Kept.refl _)
    | (with_reducible refine State.Kept.trans ?_ (State.invalAll_kept ..))
seal State.cwbi

theorem State.cinv_kept (s : State) (line : Nat) : s.Kept (State.cinv s line) := by
  unfold State.cinv
  try dsimp only
  repeat'
    first
    | (with_reducible exact State.Kept.refl _)
    | (with_reducible refine State.Kept.trans ?_ (State.invalAll_kept ..))
seal State.cinv

theorem State.flushAgent_kept (s : State) (agent : Nat) : s.Kept (State.flushAgent s agent) := by
  unfold State.flushAgent
  try dsimp only
  repeat'
    first
    | (with_reducible exact State.Kept.refl _)
    | (with_reducible assumption)
    | (with_reducible refine State.Kept.trans ?_ (State.quietLine_kept ..))
    | (with_reducible refine State.Kept.trans ?_ (State.inval_kept ..))
    | (with_reducible refine State.Kept.trans ?_ (State.onMem_kept _ _ ?_))
    | simp only [MemSt.wf_mk, MemSt.wf_setDir, MemSt.wf_setL2, MemSt.wf_setPoison, MemSt.wf_clean, MemSt.wf_markDirty, MemSt.wf_setPois, MemSt.wf_dropL2, MemSt.wf_setLlcVal, MemSt.wf_freeWb, MemSt.wf_setInput, MemSt.wf_llcDrop, MemSt.wf_poisonNewest, MemSt.wf_keepLlc, MemSt.wf_poisonIn]
    | (with_reducible refine State.Kept.trans ?_ (State.Kept.foldl ?_ _))
    | intro _
    | split
seal State.flushAgent

/-! ### HkClu -/

theorem State.cluPost_kept (s : State) (c : Nat) (o : Nat) (act : Word) : s.Kept (State.cluPost s c o act) := by
  unfold State.cluPost
  try dsimp only
  repeat'
    first
    | (with_reducible exact State.Kept.refl _)
    | (with_reducible refine State.Kept.trans ?_ (State.modCore_kept ..))
    | (with_reducible refine State.Kept.trans ?_ (State.onDev_kept ..))
    | split
seal State.cluPost

theorem State.rselWrite_kept (s : State) (k : Nat) (v : Word) : s.Kept (State.rselWrite s k v) := by
  unfold State.rselWrite
  try dsimp only
  repeat'
    first
    | (with_reducible exact State.Kept.refl _)
    | (with_reducible refine State.Kept.trans ?_ (State.modCore_kept ..))
seal State.rselWrite

theorem State.halt_kept (s : State) (k : Nat) (reason : Nat) : s.Kept (State.halt s k reason) := by
  unfold State.halt
  try dsimp only
  repeat'
    first
    | (with_reducible exact State.Kept.refl _)
    | (with_reducible refine State.Kept.trans ?_ (State.modCore_kept ..))
    | (with_reducible refine State.Kept.trans ?_ (State.onDev_kept ..))
seal State.halt

theorem State.resumeCore_kept (s : State) (k : Nat) (step : Bool) : s.Kept (State.resumeCore s k step) := by
  unfold State.resumeCore
  try dsimp only
  repeat'
    first
    | (with_reducible refine State.Kept.ite (fun _ => ?_) (fun _ => ?_))
    | (with_reducible exact State.Kept.refl _)
    | (with_reducible refine State.Kept.trans ?_ (State.modCore_kept ..))
    | (with_reducible refine State.Kept.trans ?_ (State.onDev_kept ..))
seal State.resumeCore

theorem State.dbgPost_kept (s : State) (k : Nat) (o : Nat) (new : Word) (act : Word) : s.Kept (State.dbgPost s k o new act) := by
  unfold State.dbgPost
  try dsimp only
  repeat'
    first
    | (with_reducible refine State.Kept.ite (fun _ => ?_) (fun _ => ?_))
    | (with_reducible exact State.Kept.refl _)
    | (with_reducible refine State.Kept.trans ?_ (State.resumeCore_kept ..))
    | (with_reducible refine State.Kept.trans ?_ (State.rselWrite_kept ..))
    | (with_reducible refine State.Kept.trans ?_ (State.modCore_kept ..))
    | (with_reducible refine State.Kept.trans ?_ (State.onDev_kept ..))
seal State.dbgPost

theorem State.dbgRelease_kept (s : State) : s.Kept (State.dbgRelease s) := by
  unfold State.dbgRelease
  try dsimp only
  repeat'
    first
    | (with_reducible refine State.Kept.ite (fun _ => ?_) (fun _ => ?_))
    | (with_reducible exact State.Kept.refl _)
    | (with_reducible refine State.Kept.trans ?_ (State.resumeCore_kept ..))
    | (with_reducible refine State.Kept.trans ?_ (State.Kept.foldl ?_ _))
    | intro _
seal State.dbgRelease

/-! ### HkSec -/

theorem State.secPost_kept (s : State) (o : Nat) (act : Word) : s.Kept (State.secPost s o act) := by
  unfold State.secPost
  try dsimp only
  repeat'
    first
    | (with_reducible refine State.Kept.ite (fun _ => ?_) (fun _ => ?_))
    | (with_reducible exact State.Kept.refl _)
    | (with_reducible refine State.Kept.trans ?_ (State.dbgRelease_kept ..))
    | (with_reducible refine State.Kept.trans ?_ (State.onDev_kept ..))
seal State.secPost

/-! ### Nv -/

theorem State.nvWrite_kept (s : State) (pa : Nat) (bs : List Byte) : s.Kept (State.nvWrite s pa bs) := by
  unfold State.nvWrite
  try dsimp only
  repeat'
    first
    | (with_reducible refine State.Kept.ite (fun _ => ?_) (fun _ => ?_))
    | (with_reducible exact State.Kept.refl _)
    | (with_reducible assumption)
    | (with_reducible refine State.Kept.trans ?_ (State.onDev_kept ..))
    | (with_reducible refine State.Kept.trans ?_ (State.onMem_kept _ _ ?_))
    | (with_reducible refine MemSt.wf_img ?_)
    | simp only [MemSt.wf_mk, MemSt.wf_setDir, MemSt.wf_setL2, MemSt.wf_setPoison, MemSt.wf_clean, MemSt.wf_markDirty, MemSt.wf_setPois, MemSt.wf_dropL2, MemSt.wf_setLlcVal, MemSt.wf_freeWb, MemSt.wf_setInput, MemSt.wf_llcDrop, MemSt.wf_poisonNewest, MemSt.wf_keepLlc, MemSt.wf_poisonIn]
    | (with_reducible refine MemSt.wf_put _ _ _ ?_)
    | (with_reducible refine Tab.wf_filter _ _ _ ?_)
    | (with_reducible refine MemSt.wf_foldl _ _ _ ?_ ?_)
    | intro _
    | split
seal State.nvWrite

/-! ### StartRec -/

theorem State.nvRecord_kept (s : State) (pa : Nat) (bs : List Byte) : s.Kept (State.nvRecord s pa bs) := by
  unfold State.nvRecord
  try dsimp only
  repeat'
    first
    | (with_reducible refine State.Kept.ite (fun _ => ?_) (fun _ => ?_))
    | (with_reducible exact State.Kept.refl _)
    | (with_reducible refine State.Kept.trans ?_ (State.nvWrite_kept ..))
    | (with_reducible refine State.Kept.trans ?_ (State.onDev_kept ..))
seal State.nvRecord

theorem State.setBlock_kept (s : State) (b : Nat) (bs : List Byte) : s.Kept (State.setBlock s b bs) := by
  unfold State.setBlock
  try dsimp only
  repeat'
    first
    | (with_reducible exact State.Kept.refl _)
    | (with_reducible refine State.Kept.trans ?_ (State.nvRecord_kept ..))
seal State.setBlock

theorem State.modBlock_kept (s : State) (b : Nat) (f : List Byte → List Byte) : s.Kept (State.modBlock s b f) := by
  unfold State.modBlock
  try dsimp only
  repeat'
    first
    | (with_reducible exact State.Kept.refl _)
    | (with_reducible refine State.Kept.trans ?_ (State.setBlock_kept ..))
seal State.modBlock

theorem State.saveLaneRec_kept (s : State) (l : Nat) (eq : Word) (rx : Nat) (uid : Word) : s.Kept (State.saveLaneRec s l eq rx uid) := by
  unfold State.saveLaneRec
  try dsimp only
  repeat'
    first
    | (with_reducible exact State.Kept.refl _)
    | (with_reducible refine State.Kept.trans ?_ (State.nvRecord_kept ..))
seal State.saveLaneRec

theorem State.saveIds_kept (s : State) (ch : Nat) (ids : List Nat) : s.Kept (State.saveIds s ch ids) := by
  unfold State.saveIds
  try dsimp only
  repeat'
    first
    | (with_reducible exact State.Kept.refl _)
    | (with_reducible refine State.Kept.trans ?_ (State.nvRecord_kept ..))
seal State.saveIds

theorem State.saveTrain_kept (s : State) (ch : Nat) (train : Nat) (phase : Nat) : s.Kept (State.saveTrain s ch train phase) := by
  unfold State.saveTrain
  try dsimp only
  repeat'
    first
    | (with_reducible exact State.Kept.refl _)
    | (with_reducible refine State.Kept.trans ?_ (State.nvRecord_kept ..))
seal State.saveTrain

theorem State.savePred_kept (s : State) (ch : Nat) (pred : Tab Nat) : s.Kept (State.savePred s ch pred) := by
  unfold State.savePred
  try dsimp only
  repeat'
    first
    | (with_reducible exact State.Kept.refl _)
    | (with_reducible refine State.Kept.trans ?_ (State.nvRecord_kept ..))
seal State.savePred

/-! ### HkErr -/

theorem State.feltPost_kept (s : State) (o : Nat) (act : Word) : s.Kept (State.feltPost s o act) := by
  unfold State.feltPost
  try dsimp only
  repeat'
    first
    | (with_reducible refine State.Kept.ite (fun _ => ?_) (fun _ => ?_))
    | (with_reducible exact State.Kept.refl _)
    | (with_reducible refine State.Kept.trans ?_ (State.modBlock_kept ..))
    | (with_reducible refine State.Kept.trans ?_ (State.onDev_kept ..))
seal State.feltPost

/-! ### Hooks -/

theorem State.bitsWrite_kept (s : State) (b : Blk) (o : Nat) (bits : Word) : s.Kept (State.bitsWrite s b o bits) := by
  unfold State.bitsWrite
  try dsimp only
  repeat'
    first
    | (with_reducible exact State.Kept.refl _)
    | (with_reducible refine State.Kept.trans ?_ (State.onDev_kept ..))
    | split
seal State.bitsWrite

theorem State.storeReg_kept (s : State) (b : Blk) (i : Nat) (o : Nat) (v : Word) : s.Kept (State.storeReg s b i o v) := by
  unfold State.storeReg
  try dsimp only
  repeat'
    first
    | (with_reducible exact State.Kept.refl _)
    | (with_reducible refine State.Kept.trans ?_ (State.onDev_kept ..))
seal State.storeReg

theorem State.postWrite_kept (s : State) (rq : Sys2Proof.Req) (b : Blk) (i : Nat) (o : Nat) (old : Word) (new : Word) (act : Word) (_m : Word) : s.Kept (State.postWrite s rq b i o old new act _m) := by
  unfold State.postWrite
  try dsimp only
  repeat'
    first
    | (with_reducible exact State.Kept.refl _)
    | (with_reducible refine State.Kept.trans ?_ (State.feltPost_kept ..))
    | (with_reducible refine State.Kept.trans ?_ (State.secPost_kept ..))
    | (with_reducible refine State.Kept.trans ?_ (State.dbgPost_kept ..))
    | (with_reducible refine State.Kept.trans ?_ (State.cluPost_kept ..))
    | (with_reducible refine State.Kept.trans ?_ (State.onDev_kept ..))
    | split
seal State.postWrite

/-! ### RegAccess -/

theorem State.regRead_kept (s : State) (rq : Sys2Proof.Req) (off : Nat) (size : Nat) : s.Kept (State.regRead s rq off size).2 := by
  unfold State.regRead
  try dsimp only
  repeat'
    first
    | (with_reducible exact State.Kept.refl _)
    | (with_reducible refine State.Kept.trans ?_ (State.onDev_kept ..))
    | split
seal State.regRead

theorem State.regWriteNow_kept (s : State) (rq : Sys2Proof.Req) (off : Nat) (size : Nat) (val : Word) : s.Kept (State.regWriteNow s rq off size val) := by
  unfold State.regWriteNow
  try dsimp only
  repeat'
    first
    | (with_reducible exact State.Kept.refl _)
    | (with_reducible refine State.Kept.trans ?_ (State.postWrite_kept ..))
    | (with_reducible refine State.Kept.trans ?_ (State.storeReg_kept ..))
    | (with_reducible refine State.Kept.trans ?_ (State.bitsWrite_kept ..))
    | (with_reducible refine State.Kept.trans ?_ (State.onDev_kept ..))
    | split
seal State.regWriteNow

theorem State.regWrite_kept (s : State) (rq : Sys2Proof.Req) (off : Nat) (size : Nat) (val : Word) : s.Kept (State.regWrite s rq off size val) := by
  unfold State.regWrite
  try dsimp only
  repeat'
    first
    | (with_reducible refine State.Kept.ite (fun _ => ?_) (fun _ => ?_))
    | (with_reducible exact State.Kept.refl _)
    | (with_reducible refine State.Kept.trans ?_ (State.regWriteNow_kept ..))
    | (with_reducible refine State.Kept.trans ?_ (State.onDev_kept ..))
seal State.regWrite

/-! ### Access -/

theorem State.gate_kept (s : State) (rq : Sys2Proof.Req) (pa : Nat) (n : Nat) (wr : Bool) : s.Kept (State.gate s rq pa n wr).2 := by
  unfold State.gate
  try dsimp only
  repeat'
    first
    | (with_reducible exact State.Kept.refl _)
    | (with_reducible refine State.Kept.trans ?_ (State.onDev_kept ..))
    | split
seal State.gate

theorem State.endLag_kept (s : State) (pa : Nat) (n : Nat) : s.Kept (State.endLag s pa n) := by
  unfold State.endLag
  try dsimp only
  repeat'
    first
    | (with_reducible assumption)
    | (simp only [State.kept_mk] <;> first | refine State.Kept.both ?_ | intro _ | refine ⟨?_, fun _ => ?_⟩)
seal State.endLag

theorem State.hostBad_kept (s : State) (pa : Nat) (st : Nat) : s.Kept (State.hostBad s pa st) := by
  unfold State.hostBad
  try dsimp only
  repeat'
    first
    | (with_reducible exact State.Kept.refl _)
    | (with_reducible refine State.Kept.trans ?_ (State.onDev_kept ..))
seal State.hostBad

theorem State.extRead_kept (s : State) (agent : Nat) (qos : Nat) (attr : Nat) (rq : Sys2Proof.Req) (weir : Bool) (pa : Nat) (n : Nat) : s.Kept (State.extRead s agent qos attr rq weir pa n).2 := by
  unfold State.extRead
  try dsimp only
  repeat'
    first
    | (with_reducible exact State.Kept.refl _)
    | (with_reducible refine State.Kept.trans ?_ (State.hostBad_kept ..))
    | (with_reducible refine State.Kept.trans ?_ (State.onDev_kept ..))
    | split
seal State.extRead

theorem State.extWrite_kept (s : State) (agent : Nat) (qos : Nat) (attr : Nat) (rq : Sys2Proof.Req) (weir : Bool) (pa : Nat) (bs : List Byte) : s.Kept (State.extWrite s agent qos attr rq weir pa bs).2 := by
  unfold State.extWrite
  try dsimp only
  repeat'
    first
    | (with_reducible exact State.Kept.refl _)
    | (with_reducible refine State.Kept.trans ?_ (State.hostBad_kept ..))
    | (with_reducible refine State.Kept.trans ?_ (State.onDev_kept ..))
    | split
seal State.extWrite

theorem State.noteSeen_kept (s : State) (k : Nat) (pa : Nat) (n : Nat) : s.Kept (State.noteSeen s k pa n) := by
  unfold State.noteSeen
  try dsimp only
  repeat'
    first
    | (with_reducible refine State.Kept.ite (fun _ => ?_) (fun _ => ?_))
    | (with_reducible exact State.Kept.refl _)
    | (with_reducible refine State.Kept.trans ?_ (State.modCore_kept ..))
seal State.noteSeen

theorem State.newer_kept (s : State) (k : Nat) (pa : Nat) (n : Nat) : s.Kept (State.newer s k pa n) := by
  unfold State.newer
  try dsimp only
  repeat'
    first
    | (with_reducible refine State.Kept.ite (fun _ => ?_) (fun _ => ?_))
    | (with_reducible exact State.Kept.refl _)
    | (with_reducible refine State.Kept.trans ?_ (State.modCore_kept ..))
seal State.newer

theorem State.pread_kept (s : State) (agent : Nat) (qos : Nat) (rq : Sys2Proof.Req) (attr : Nat) (pa : Nat) (n : Nat) : s.Kept (State.pread s agent qos rq attr pa n).2 := by
  unfold State.pread
  split
  · exact State.Kept.snd (State.gate_kept ..) ‹_›
  · refine State.Kept.trans (State.Kept.snd (State.gate_kept ..) ‹_›) ?_
    generalize ctlBase = cb
    generalize prange pa = w
    cases w
    · dsimp only
      refine State.Kept.trans (State.newer_kept _ agent pa n) (State.Kept.ite2 (fun _ => ?_) (fun _ => ?_))
      · exact State.Kept.ite (fun _ => State.Kept.trans (State.fillRead_kept ..) (State.l1Fill_kept ..)) (fun _ => State.serve_kept ..)
      · refine State.Kept.trans ?_ (State.noteSeen_kept ..)
        exact State.Kept.ite (fun _ => State.Kept.trans (State.fillRead_kept ..) (State.l1Fill_kept ..)) (fun _ => State.serve_kept ..)
    · next s1 _ =>
        rcases hr : s1.regRead rq (pa - cb) n with ⟨v, s2⟩
        have h := State.Kept.snd (State.regRead_kept ..) hr
        exact h
    · exact State.Kept.ite2 (fun _ => State.Kept.refl _) (fun _ => State.Kept.refl _)
    · exact State.extRead_kept ..
    · exact State.extRead_kept ..
    · exact State.Kept.refl _
seal State.pread

theorem State.pwrite_kept (s : State) (agent : Nat) (qos : Nat) (rq : Sys2Proof.Req) (attr : Nat) (pa : Nat) (bs : List Byte) : s.Kept (State.pwrite s agent qos rq attr pa bs).2 := by
  unfold State.pwrite
  try dsimp only
  repeat'
    first
    | (with_reducible exact State.Kept.refl _)
    | (with_reducible assumption)
    | (with_reducible refine State.Kept.trans ?_ (State.newer_kept ..))
    | (with_reducible refine State.Kept.trans ?_ (State.extWrite_kept ..))
    | (with_reducible refine State.Kept.trans ?_ (State.endLag_kept ..))
    | (with_reducible refine State.Kept.trans ?_ (State.Kept.snd (State.gate_kept ..) (by assumption)))
    | (with_reducible refine State.Kept.trans ?_ (State.regWrite_kept ..))
    | (with_reducible refine State.Kept.trans ?_ (State.nvWrite_kept ..))
    | (with_reducible refine State.Kept.trans ?_ (State.putBytes_kept ..))
    | (with_reducible refine State.Kept.trans ?_ (State.fillWrite_kept ..))
    | (with_reducible refine State.Kept.trans ?_ (State.onMem_kept _ _ ?_))
    | (with_reducible refine MemSt.wf_put _ _ _ ?_)
    | intro _
    | split
seal State.pwrite

theorem State.stashFor_kept (s : State) (rq : Sys2Proof.Req) (line : Nat) (len : Nat) (stash : Option Nat) (room : Bool) : s.Kept (State.stashFor s rq line len stash room).2 := by
  unfold State.stashFor
  try dsimp only
  repeat'
    first
    | (with_reducible exact State.Kept.refl _)
    | (with_reducible refine State.Kept.trans ?_ (State.onDev_kept ..))
    | split
seal State.stashFor

theorem State.putLines_kept (s : State) (rq : Sys2Proof.Req) (pa : Nat) (bs : List Byte) (stash : Option Nat) (qos : Nat) : s.Kept (State.putLines s rq pa bs stash qos) := by
  unfold State.putLines
  try dsimp only
  repeat'
    first
    | (with_reducible exact State.Kept.refl _)
    | (with_reducible refine State.Kept.trans ?_ (State.stashFor_kept ..))
    | (with_reducible refine State.Kept.trans ?_ (State.serve_kept ..))
    | (with_reducible refine State.Kept.trans ?_ (State.Kept.foldl ?_ _))
    | intro _
seal State.putLines

theorem State.agentWrite_kept (s : State) (rq : Sys2Proof.Req) (pa : Nat) (bs : List Byte) (stash : Option Nat) (qos : Nat) : s.Kept (State.agentWrite s rq pa bs stash qos).2 := by
  unfold State.agentWrite
  try dsimp only
  repeat'
    first
    | (with_reducible exact State.Kept.refl _)
    | (with_reducible refine State.Kept.trans ?_ (State.putLines_kept ..))
    | (with_reducible refine State.Kept.trans ?_ (State.endLag_kept ..))
    | (with_reducible refine State.Kept.trans ?_ (State.Kept.snd (State.gate_kept ..) (by assumption)))
    | (with_reducible refine State.Kept.trans ?_ (State.nvWrite_kept ..))
    | split
seal State.agentWrite

theorem State.readNote_kept (s : State) (rq : Sys2Proof.Req) (pa : Nat) (n : Nat) (qos : Nat) : s.Kept (State.readNote s rq pa n qos) := by
  unfold State.readNote
  try dsimp only
  repeat'
    first
    | (with_reducible exact State.Kept.refl _)
    | (with_reducible refine State.Kept.trans ?_ (State.Kept.snd (State.gate_kept ..) (by assumption)))
    | (with_reducible refine State.Kept.trans ?_ (State.serve_kept ..))
    | (with_reducible refine State.Kept.trans ?_ (State.Kept.foldl ?_ _))
    | intro _
    | split
seal State.readNote

/-! ### LaneEvents -/

theorem State.saveLaneList_kept (s : State) (ls : List Nat) : s.Kept (State.saveLaneList s ls) := by
  unfold State.saveLaneList
  try dsimp only
  repeat'
    first
    | (with_reducible exact State.Kept.refl _)
    | (with_reducible refine State.Kept.trans ?_ (State.saveLaneRec_kept ..))
    | (with_reducible refine State.Kept.trans ?_ (State.modBlock_kept ..))
    | (with_reducible refine State.Kept.trans ?_ (State.Kept.foldl ?_ _))
    | intro _
    | split
seal State.saveLaneList

theorem State.relane_kept (s : State) (p : Nat) : s.Kept (State.relane s p) := by
  unfold State.relane
  try dsimp only
  repeat'
    first
    | (with_reducible exact State.Kept.refl _)
    | (with_reducible refine State.Kept.trans ?_ (State.saveLaneList_kept ..))
seal State.relane

/-! ### Ops -/

theorem State.reportCheck_kept (s : State) (k : Nat) (t : Trap) : s.Kept (State.reportCheck s k t) := by
  unfold State.reportCheck
  try dsimp only
  repeat'
    first
    | (with_reducible exact State.Kept.refl _)
    | (with_reducible refine State.Kept.trans ?_ (State.onDev_kept ..))
seal State.reportCheck

theorem State.storeBad_kept (s : State) (k : Nat) (st : Store) : s.Kept (State.storeBad s k st) := by
  unfold State.storeBad
  try dsimp only
  repeat'
    first
    | (with_reducible exact State.Kept.refl _)
    | (with_reducible refine State.Kept.trans ?_ (State.reportCheck_kept ..))
    | (with_reducible refine State.Kept.trans ?_ (State.modCore_kept ..))
seal State.storeBad

theorem State.performStore_kept (s : State) (k : Nat) (st : Store) (lag : List Nat) : s.Kept (State.performStore s k st lag) := by
  unfold State.performStore
  try dsimp only
  repeat'
    first
    | (with_reducible refine State.Kept.ite (fun _ => ?_) (fun _ => ?_))
    | (with_reducible exact State.Kept.refl _)
    | (with_reducible assumption)
    | (with_reducible refine State.Kept.trans ?_ (State.storeBad_kept ..))
    | (with_reducible refine State.Kept.trans ?_ (State.endLag_kept ..))
    | (with_reducible refine State.Kept.trans ?_ (State.putBytes_kept ..))
    | (with_reducible refine State.Kept.trans ?_ (State.fillWrite_kept ..))
    | (with_reducible refine State.Kept.trans ?_ (State.modCore_kept ..))
    | (with_reducible refine State.Kept.trans ?_ (State.onMem_kept _ _ ?_))
    | (with_reducible refine MemSt.wf_img ?_)
    | simp only [MemSt.wf_mk, MemSt.wf_setDir, MemSt.wf_setL2, MemSt.wf_setPoison, MemSt.wf_clean, MemSt.wf_markDirty, MemSt.wf_setPois, MemSt.wf_dropL2, MemSt.wf_setLlcVal, MemSt.wf_freeWb, MemSt.wf_setInput, MemSt.wf_llcDrop, MemSt.wf_poisonNewest, MemSt.wf_keepLlc, MemSt.wf_poisonIn]
    | (with_reducible refine MemSt.wf_put _ _ _ ?_)
    | intro _
seal State.performStore

theorem State.performWhere_kept (s : State) (k : Nat) (p : Store → Bool) : s.Kept (State.performWhere s k p) := by
  unfold State.performWhere
  try dsimp only
  repeat'
    first
    | (with_reducible exact State.Kept.refl _)
    | (with_reducible refine State.Kept.trans ?_ (State.performStore_kept ..))
    | (with_reducible refine State.Kept.trans ?_ (State.Kept.foldl ?_ _))
    | intro _
seal State.performWhere

theorem State.settleOwn_kept (s : State) (k : Nat) (pa : Nat) (n : Nat) : s.Kept (State.settleOwn s k pa n) := by
  unfold State.settleOwn
  try dsimp only
  repeat'
    first
    | (with_reducible exact State.Kept.refl _)
    | (with_reducible refine State.Kept.trans ?_ (State.performWhere_kept ..))
seal State.settleOwn

theorem State.drainStores_kept (s : State) (k : Nat) : s.Kept (State.drainStores s k) := by
  unfold State.drainStores
  try dsimp only
  repeat'
    first
    | (with_reducible exact State.Kept.refl _)
    | (with_reducible refine State.Kept.trans ?_ (State.performWhere_kept ..))
    | (with_reducible refine State.Kept.trans ?_ (State.modCore_kept ..))
seal State.drainStores

theorem State.areaRead_kept (s : State) (k : Nat) (secure : Bool) (area : Nat) : AreaRes.Kept s (State.areaRead s k secure area) := by
  unfold State.areaRead
  try dsimp only
  repeat'
    first
    | (with_reducible refine AreaRes.Kept.ite (fun _ => ?_) (fun _ => ?_))
    | (with_reducible exact State.Kept.refl _)
    | (with_reducible refine State.Kept.trans ?_ (State.settleOwn_kept ..))
    | (with_reducible refine State.Kept.trans ?_ (State.newer_kept ..))
    | (with_reducible refine State.Kept.trans ?_ (State.noteSeen_kept ..))
    | (with_reducible refine State.Kept.trans ?_ (State.fillRead_kept ..))
    | (with_reducible refine State.Kept.trans ?_ (State.l1Fill_kept ..))
    | (with_reducible refine State.Kept.trans ?_ (State.Kept.foldl ?_ _))
    | exact True.intro
    | (with_reducible refine AreaRes.Kept.mkOk ?_)
    | intro _
seal State.areaRead

theorem State.areaWrite_kept (s : State) (k : Nat) (secure : Bool) (area : Nat) (bs : List Byte) : AreaRes.Kept s (State.areaWrite s k secure area bs) := by
  unfold State.areaWrite
  try dsimp only
  repeat'
    first
    | (with_reducible exact State.Kept.refl _)
    | (with_reducible assumption)
    | (with_reducible refine State.Kept.trans ?_ (State.settleOwn_kept ..))
    | (with_reducible refine State.Kept.trans ?_ (State.newer_kept ..))
    | (with_reducible refine State.Kept.trans ?_ (State.endLag_kept ..))
    | (with_reducible refine State.Kept.trans ?_ (State.fillWrite_kept ..))
    | (with_reducible refine State.Kept.trans ?_ (State.onMem_kept _ _ ?_))
    | (with_reducible refine MemSt.wf_put _ _ _ ?_)
    | (with_reducible refine State.Kept.trans ?_ (State.Kept.foldl ?_ _))
    | exact True.intro
    | (with_reducible refine AreaRes.Kept.mkOk ?_)
    | intro _
    | split
seal State.areaWrite

theorem State.saveArea_kept (s : State) (k : Nat) (secure : Bool) (head : Word) (hdr : Word) (ws : List Word) : SaveRes.Kept s (State.saveArea s k secure head hdr ws) := by
  unfold State.saveArea
  try dsimp only
  repeat'
    first
    | (with_reducible exact State.Kept.refl _)
    | (with_reducible refine State.Kept.trans ?_ (AreaRes.Kept.ok (State.areaWrite_kept ..) (by assumption)))
    | (with_reducible refine State.Kept.trans ?_ (AreaRes.Kept.ok (State.areaRead_kept ..) (by assumption)))
    | exact True.intro
    | (with_reducible refine SaveRes.Kept.mkSaved ?_)
    | split
seal State.saveArea

theorem State.freeArea_kept (s : State) (k : Nat) (secure : Bool) (area : Nat) (link : Word) : s.Kept (State.freeArea s k secure area link) := by
  unfold State.freeArea
  try dsimp only
  repeat'
    first
    | (with_reducible exact State.Kept.refl _)
    | (with_reducible refine State.Kept.trans ?_ (AreaRes.Kept.ok (State.areaWrite_kept ..) (by assumption)))
    | (with_reducible refine State.Kept.trans ?_ (State.modCore_kept ..))
    | split
seal State.freeArea

theorem State.bankNest_kept (s : State) (k : Nat) (cause : Nat) (vec : Nat) (evSecure : Bool) : s.Kept (State.bankNest s k cause vec evSecure) := by
  unfold State.bankNest
  try dsimp only
  repeat'
    first
    | (with_reducible refine State.Kept.ite (fun _ => ?_) (fun _ => ?_))
    | (with_reducible exact State.Kept.refl _)
    | (with_reducible refine State.Kept.trans ?_ (State.modCore_kept ..))
    | (with_reducible refine State.Kept.trans ?_ (State.onDev_kept ..))
seal State.bankNest

theorem State.enter_kept (s : State) (k : Nat) (t : Trap) (tmode : Nat) (tsec : Bool) (pc : Word) : s.Kept (State.enter s k t tmode tsec pc).1 := by
  unfold State.enter
  try dsimp only
  repeat'
    first
    | (with_reducible exact State.Kept.refl _)
    | (with_reducible refine State.Kept.trans ?_ (State.bankNest_kept ..))
    | (with_reducible refine State.Kept.trans ?_ (SaveRes.Kept.saved (State.saveArea_kept ..) (by assumption)))
    | (with_reducible refine State.Kept.trans ?_ (State.modCore_kept ..))
    | split
seal State.enter

theorem State.takeException_kept (s : State) (k : Nat) (t : Trap) (pc : Word) : s.Kept (State.takeException s k t pc) := by
  unfold State.takeException
  try dsimp only
  repeat'
    first
    | (with_reducible refine State.Kept.ite (fun _ => ?_) (fun _ => ?_))
    | (with_reducible exact State.Kept.refl _)
    | (with_reducible refine State.Kept.trans ?_ (State.enter_kept ..))
seal State.takeException

theorem State.chainLow_kept (s : State) (k : Nat) (pc : Word) : s.Kept (State.chainLow s k pc) := by
  unfold State.chainLow
  try dsimp only
  repeat'
    first
    | (with_reducible exact State.Kept.refl _)
    | (with_reducible refine State.Kept.trans ?_ (State.takeException_kept ..))
seal State.chainLow

theorem State.raise_kept (s : State) (k : Nat) (t : Trap) (pc : Word) : s.Kept (State.raise s k t pc) := by
  unfold State.raise
  try dsimp only
  repeat'
    first
    | (with_reducible refine State.Kept.ite (fun _ => ?_) (fun _ => ?_))
    | (with_reducible exact State.Kept.refl _)
    | (with_reducible refine State.Kept.trans ?_ (State.takeException_kept ..))
    | (with_reducible refine State.Kept.trans ?_ (State.reportCheck_kept ..))
seal State.raise

theorem State.eret_kept (s : State) (k : Nat) : ∀ t, State.eret s k = .ok t → s.Kept t := by
  unfold State.eret
  try dsimp only
  repeat'
    first
    | (with_reducible exact State.Kept.refl _)
    | (with_reducible refine State.Kept.trans ?_ (State.freeArea_kept ..))
    | (with_reducible refine State.Kept.trans ?_ (AreaRes.Kept.ok (State.areaRead_kept ..) (by assumption)))
    | (with_reducible refine State.Kept.trans ?_ (State.modCore_kept ..))
    | split
    | (intro _ h; cases h; skip)
seal State.eret

end Sys2Proof.Machine
end

