-- ==== Sys2Proof/Laws/KeepsCore.lean ====
section
/-! SUPPORT. One lemma for each shared operation of operands, the instructions' shared operations and the cores' events: it changes no fuse and keeps memory in its
canonical form (`Kept`, of Laws/Memory.lean). -/

open Sys2Proof Sys2Proof.Machine
namespace Sys2Proof.Machine

set_option Elab.async false
set_option linter.unusedSimpArgs false

seal State.onDev State.onMem State.setCore State.modCore State.modBank State.settle MemSt.put MemSt.discard State.killOps
  State.inval State.pickVictim State.llcRoom State.llcTake State.dirEvict State.dirRoom State.evictOut State.absorb
  State.evictHome State.l2Room State.l1Fill State.grant State.finishPut State.finishTxn State.snoopOne State.snoopAnswer
  State.startTxn State.drainWait State.serveWaiting State.accept State.letIn State.retryEvicts State.homeNext
  State.evictArrive State.answer State.holdOver State.answerAll State.quietLine State.request State.needTracker State.serve
  State.noteMiss State.fillRead State.ownLine State.fillWrite State.putBytes State.cwb State.invalAll State.cwbi State.cinv
  State.flushAgent State.cluPost State.rselWrite State.halt State.resumeCore State.dbgPost State.dbgRelease State.secPost
  State.nvWrite State.nvRecord State.setBlock State.modBlock State.saveLaneRec State.saveIds State.saveTrain State.savePred
  State.feltPost State.bitsWrite State.storeReg State.postWrite State.regRead State.regWriteNow State.regWrite State.gate
  State.endLag State.hostBad State.extRead State.extWrite State.noteSeen State.newer State.pread State.pwrite State.stashFor
  State.putLines State.agentWrite State.readNote State.saveLaneList State.relane State.reportCheck State.storeBad
  State.performStore State.performWhere State.settleOwn State.drainStores State.areaRead State.areaWrite State.saveArea
  State.freeArea State.bankNest State.enter State.takeException State.chainLow State.raise State.eret

/-! ### Operands -/

theorem State.tlbUse_kept (s : State) (k : Nat) (fetch : Bool) (lin : Nat) (n : Nat) : s.Kept (State.tlbUse s k fetch lin n) := by
  unfold State.tlbUse
  try dsimp only
  repeat'
    first
    | (with_reducible refine State.Kept.ite (fun _ => ?_) (fun _ => ?_))
    | (with_reducible exact State.Kept.refl _)
    | (with_reducible refine State.Kept.trans ?_ (State.modCore_kept ..))
seal State.tlbUse

theorem State.operand_kept (s : State) (k : Nat) (seg : Nat) (off : Word) (n : Nat) (kind : AKind) (al : Option Nat) (atomic : Bool) : ∀ l p t, State.operand s k seg off n kind al atomic = .ok (l, p, t) → s.Kept t := by
  unfold State.operand
  intro l p t h
  split at h
  · cases h
  · cases h; exact State.tlbUse_kept ..
seal State.operand

theorem State.loadPiece_kept (s : State) (k : Nat) (p : Piece) (ob : Bool) : M.Kept s (State.loadPiece s k p ob) := by
  unfold State.loadPiece
  try dsimp only
  repeat'
    first
    | (with_reducible exact State.Kept.refl _)
    | (with_reducible refine State.Kept.trans ?_ (State.settleOwn_kept ..))
    | (with_reducible refine State.Kept.trans ?_ (State.Kept.snd (State.pread_kept ..) (by assumption)))
    | (with_reducible refine State.Kept.trans ?_ (State.modCore_kept ..))
    | exact True.intro
    | (with_reducible refine M.Kept.mkOk ?_)
    | (with_reducible refine M.Kept.mkTrap ?_)
    | (with_reducible refine M.Kept.mkWait ?_)
    | split
seal State.loadPiece

theorem State.loadPieces_kept (s : State) (k : Nat) (ob : Bool) (a3 : List Piece) : M.Kept s (State.loadPieces s k ob a3) := by
  fun_induction State.loadPieces s k ob a3 <;> (repeat' first
    | (with_reducible exact State.Kept.refl _)
    | (with_reducible refine M.Kept.trans ?_ (State.loadPiece_kept ..))
    | (with_reducible refine M.Kept.bind ?_ ?_)
    | (with_reducible refine M.Kept.mkOk ?_)
    | intro _
    | (with_reducible solve_by_elim))
seal State.loadPieces

theorem State.watched_kept (s : State) (k : Nat) (lin : Nat) (n : Nat) (kind : AKind) : s.Kept (State.watched s k lin n kind) := by
  unfold State.watched
  try dsimp only
  repeat'
    first
    | (with_reducible refine State.Kept.ite (fun _ => ?_) (fun _ => ?_))
    | (with_reducible exact State.Kept.refl _)
    | (with_reducible refine State.Kept.trans ?_ (State.modCore_kept ..))
seal State.watched

theorem State.load_kept (s : State) (k : Nat) (seg : Nat) (off : Word) (n : Nat) (ob : Bool) : M.Kept s (State.load s k seg off n ob) := by
  unfold State.load
  try dsimp only
  repeat'
    first
    | (with_reducible exact State.Kept.refl _)
    | (with_reducible refine State.Kept.trans ?_ (State.watched_kept ..))
    | (with_reducible refine M.Kept.trans ?_ (State.loadPieces_kept ..))
    | (with_reducible refine State.Kept.trans ?_ (by apply State.operand_kept <;> assumption))
    | (with_reducible refine M.Kept.bind ?_ ?_)
    | (with_reducible refine M.Kept.mkOk ?_)
    | (with_reducible refine M.Kept.mkTrap ?_)
    | intro _
    | split
seal State.load

theorem State.bufferStore_kept (s : State) (k : Nat) (st : Store) : s.Kept (State.bufferStore s k st) := by
  unfold State.bufferStore
  try dsimp only
  repeat'
    first
    | (with_reducible exact State.Kept.refl _)
    | (with_reducible refine State.Kept.trans ?_ (State.performStore_kept ..))
    | (with_reducible refine State.Kept.trans ?_ (State.modCore_kept ..))
    | split
seal State.bufferStore

theorem State.storePiece_kept (s : State) (k : Nat) (p : Piece) (bs : List Byte) (ob : Bool) : M.Kept s (State.storePiece s k p bs ob) := by
  unfold State.storePiece
  try dsimp only
  repeat'
    first
    | (with_reducible exact State.Kept.refl _)
    | (with_reducible refine State.Kept.trans ?_ (State.bufferStore_kept ..))
    | (with_reducible refine State.Kept.trans ?_ (State.settleOwn_kept ..))
    | (with_reducible refine State.Kept.trans ?_ (State.Kept.snd (State.pwrite_kept ..) (by assumption)))
    | (with_reducible refine State.Kept.trans ?_ (State.Kept.snd (State.gate_kept ..) (by assumption)))
    | (with_reducible refine State.Kept.trans ?_ (State.killOps_kept ..))
    | (with_reducible refine State.Kept.trans ?_ (State.modCore_kept ..))
    | exact True.intro
    | (with_reducible refine M.Kept.mkOk ?_)
    | (with_reducible refine M.Kept.mkTrap ?_)
    | (with_reducible refine M.Kept.mkWait ?_)
    | split
seal State.storePiece

theorem State.storePieces_kept (s : State) (k : Nat) (ob : Bool) (a3 : List Piece) (a4 : List Byte) : M.Kept s (State.storePieces s k ob a3 a4) := by
  fun_induction State.storePieces s k ob a3 a4 <;> (repeat' first
    | (with_reducible exact State.Kept.refl _)
    | (with_reducible refine M.Kept.trans ?_ (State.storePiece_kept ..))
    | (with_reducible refine M.Kept.bind ?_ ?_)
    | (with_reducible refine M.Kept.mkOk ?_)
    | (with_reducible solve_by_elim))
seal State.storePieces

theorem State.store_kept (s : State) (k : Nat) (seg : Nat) (off : Word) (n : Nat) (v : Nat) (ob : Bool) : M.Kept s (State.store s k seg off n v ob) := by
  unfold State.store
  try dsimp only
  repeat'
    first
    | (with_reducible exact State.Kept.refl _)
    | (with_reducible refine M.Kept.trans ?_ (State.storePieces_kept ..))
    | (with_reducible refine State.Kept.trans ?_ (State.watched_kept ..))
    | (with_reducible refine State.Kept.trans ?_ (by apply State.operand_kept <;> assumption))
    | (with_reducible refine State.Kept.trans ?_ (State.modCore_kept ..))
    | (with_reducible refine M.Kept.bind ?_ ?_)
    | (with_reducible refine M.Kept.mkOk ?_)
    | (with_reducible refine M.Kept.mkTrap ?_)
    | intro _
    | split
seal State.store

theorem State.fenceSeen_kept (s : State) (k : Nat) : s.Kept (State.fenceSeen s k) := by
  unfold State.fenceSeen
  try dsimp only
  repeat'
    first
    | (with_reducible assumption)
    | (with_reducible refine State.Kept.trans ?_ (State.modCore_kept ..))
    | (simp only [State.kept_mk] <;> first | refine State.Kept.both ?_ | intro _ | refine ⟨?_, fun _ => ?_⟩)
seal State.fenceSeen

/-! ### Insn -/

theorem State.blockStep_kept (s : State) (k : Nat) (op : Nat) (o : Sys2Proof.BlockOp) : M.Kept s (State.blockStep s k op o) := by
  unfold State.blockStep
  try dsimp only
  repeat'
    first
    | (with_reducible exact State.Kept.refl _)
    | (with_reducible refine M.Kept.trans ?_ (State.store_kept ..))
    | (with_reducible refine M.Kept.trans ?_ (State.load_kept ..))
    | (with_reducible refine State.Kept.trans ?_ (State.modBank_kept ..))
    | (with_reducible refine M.Kept.bind ?_ ?_)
    | (with_reducible refine M.Kept.mkOk ?_)
    | (with_reducible refine M.Kept.mkTrap ?_)
    | intro _
    | split
seal State.blockStep

theorem State.unstore_kept (s : State) (k : Nat) (n : Nat) : s.Kept (State.unstore s k n) := by
  unfold State.unstore
  try dsimp only
  repeat'
    first
    | (with_reducible exact State.Kept.refl _)
    | (with_reducible refine State.Kept.trans ?_ (State.modCore_kept ..))
seal State.unstore

theorem State.held_kept (s : State) (s1 : State) : s.Kept (State.held s s1) := by
  unfold State.held
  try dsimp only
  repeat'
    first
    | (with_reducible exact State.Kept.refl _)
    | (with_reducible refine State.Kept.trans ?_ (State.onDev_kept ..))
seal State.held

theorem State.blockElem_kept (s : State) (k : Nat) (op : Nat) (o : Sys2Proof.BlockOp) : M.Kept s (State.blockElem s k op o) := by
  unfold State.blockElem
  try dsimp only
  repeat'
    first
    | (with_reducible exact State.Kept.refl _)
    | (with_reducible refine State.Kept.trans ?_ (State.held_kept ..))
    | (with_reducible refine State.Kept.trans ?_ (State.unstore_kept ..))
    | (with_reducible refine M.Kept.trans ?_ (State.blockStep_kept ..))
    | (with_reducible refine State.Kept.trans ?_ (M.Kept.ok (State.blockStep_kept ..) (by assumption)))
    | (with_reducible refine State.Kept.trans ?_ (M.Kept.trap (State.blockStep_kept ..) (by assumption)))
    | (with_reducible refine M.Kept.mkOk ?_)
    | (with_reducible refine M.Kept.mkTrap ?_)
    | (with_reducible refine M.Kept.mkWait ?_)
    | split
seal State.blockElem

theorem State.blockRun_kept (a0 : Nat) (a1 : State) (a2 : Nat) (a3 : Nat) (a4 : Sys2Proof.BlockOp) : M.Kept a1 (State.blockRun a0 a1 a2 a3 a4) := by
  fun_induction State.blockRun a0 a1 a2 a3 a4 <;> (repeat' first
    | (with_reducible exact State.Kept.refl _)
    | (with_reducible refine State.Kept.trans ?_ (M.Kept.ok (State.blockElem_kept ..) (by assumption)))
    | (with_reducible refine State.Kept.trans ?_ (M.Kept.trap (State.blockElem_kept ..) (by assumption)))
    | (with_reducible refine State.Kept.trans ?_ (M.Kept.wait (State.blockElem_kept ..) (by assumption)))
    | (with_reducible refine State.Kept.trans ?_ (M.Kept.stop (State.blockElem_kept ..) (by assumption)))
    | (with_reducible refine State.Kept.trans ?_ (State.modBank_kept ..))
    | (with_reducible refine M.Kept.mkOk ?_)
    | (with_reducible refine M.Kept.mkTrap ?_)
    | (with_reducible refine M.Kept.mkWait ?_)
    | (with_reducible refine M.Kept.mkStop ?_)
    | (with_reducible solve_by_elim)
    | (with_reducible refine M.Kept.trans ?_ (by assumption)))
seal State.blockRun

theorem State.finishOp_kept (s : State) (k : Nat) (o : LongOp) (rest : List LongOp) : OpRes.Kept s (State.finishOp s k o rest) := by
  unfold State.finishOp
  try dsimp only
  repeat'
    first
    | (with_reducible exact State.Kept.refl _)
    | (with_reducible refine State.Kept.trans ?_ (M.Kept.ok (State.blockRun_kept ..) (by assumption)))
    | (with_reducible refine State.Kept.trans ?_ (M.Kept.trap (State.blockRun_kept ..) (by assumption)))
    | (with_reducible refine State.Kept.trans ?_ (M.Kept.wait (State.blockRun_kept ..) (by assumption)))
    | (with_reducible refine State.Kept.trans ?_ (M.Kept.stop (State.blockRun_kept ..) (by assumption)))
    | (with_reducible refine State.Kept.trans ?_ (State.modCore_kept ..))
    | (with_reducible refine OpRes.Kept.mkDone ?_)
    | (with_reducible refine OpRes.Kept.mkFailed ?_)
    | (with_reducible refine OpRes.Kept.mkWait ?_)
    | split
seal State.finishOp

theorem State.reopen_kept (s : State) (k : Nat) (o : LongOp) : s.Kept (State.reopen s k o) := by
  unfold State.reopen
  try dsimp only
  repeat'
    first
    | (with_reducible exact State.Kept.refl _)
    | (with_reducible refine State.Kept.trans ?_ (State.modBank_kept ..))
    | split
seal State.reopen

theorem State.drainOps_kept (a0 : Nat) (a1 : State) (a2 : Nat) (a3 : Option (LongOp × LopFail)) : RawDrain.Kept a1 (State.drainOps a0 a1 a2 a3) := by
  fun_induction State.drainOps a0 a1 a2 a3 <;> (repeat' first
    | (with_reducible exact State.Kept.refl _)
    | (with_reducible refine State.Kept.trans ?_ (State.reopen_kept ..))
    | (with_reducible refine State.Kept.trans ?_ (OpRes.Kept.done (State.finishOp_kept ..) (by assumption)))
    | (with_reducible refine State.Kept.trans ?_ (OpRes.Kept.failed (State.finishOp_kept ..) (by assumption)))
    | (with_reducible refine State.Kept.trans ?_ (OpRes.Kept.wait (State.finishOp_kept ..) (by assumption)))
    | (with_reducible refine State.Kept.trans ?_ (State.modCore_kept ..))
    | (with_reducible refine RawDrain.Kept.mkClear ?_)
    | (with_reducible refine RawDrain.Kept.mkFailed ?_)
    | (with_reducible refine RawDrain.Kept.mkWait ?_)
    | (with_reducible refine RawDrain.Kept.trans ?_ (by assumption)))
seal State.drainOps

theorem State.drainRaw_kept (s : State) (k : Nat) : RawDrain.Kept s (State.drainRaw s k) := by
  unfold State.drainRaw
  try dsimp only
  repeat'
    first
    | (with_reducible exact State.Kept.refl _)
    | (with_reducible refine RawDrain.Kept.trans ?_ (State.drainOps_kept ..))
    | (with_reducible refine State.Kept.trans ?_ (RawDrain.Kept.wait (State.drainOps_kept ..) (by assumption)))
    | (with_reducible refine State.Kept.trans ?_ (State.onDev_kept ..))
    | (with_reducible refine RawDrain.Kept.mkClear ?_)
    | (with_reducible refine RawDrain.Kept.mkWait ?_)
    | split
seal State.drainRaw

theorem State.drainAll_kept (s : State) (k : Nat) : DrainRes.Kept s (State.drainAll s k) := by
  unfold State.drainAll
  try dsimp only
  repeat'
    first
    | (with_reducible exact State.Kept.refl _)
    | (with_reducible refine State.Kept.trans ?_ (RawDrain.Kept.clear (State.drainRaw_kept ..) (by assumption)))
    | (with_reducible refine State.Kept.trans ?_ (RawDrain.Kept.failed (State.drainRaw_kept ..) (by assumption)))
    | (with_reducible refine State.Kept.trans ?_ (RawDrain.Kept.wait (State.drainRaw_kept ..) (by assumption)))
    | (with_reducible refine State.Kept.trans ?_ (State.raise_kept ..))
    | (with_reducible refine DrainRes.Kept.mkClear ?_)
    | (with_reducible refine DrainRes.Kept.mkTaken ?_)
    | (with_reducible refine DrainRes.Kept.mkWait ?_)
    | split
seal State.drainAll

theorem State.fetch_kept (s : State) (k : Nat) (pc : Word) (len : Nat) : M.Kept s (State.fetch s k pc len) := by
  unfold State.fetch
  try dsimp only
  repeat'
    first
    | (with_reducible exact State.Kept.refl _)
    | (with_reducible refine State.Kept.trans ?_ (State.tlbUse_kept ..))
    | (with_reducible refine State.Kept.trans ?_ (State.Kept.snd (State.gate_kept ..) (by assumption)))
    | (with_reducible refine State.Kept.trans ?_ (State.fillRead_kept ..))
    | (with_reducible refine State.Kept.trans ?_ (State.serve_kept ..))
    | (with_reducible refine State.Kept.trans ?_ (State.l1Fill_kept ..))
    | (with_reducible refine M.Kept.bind ?_ ?_)
    | (with_reducible refine M.Kept.mkOk ?_)
    | (with_reducible refine M.Kept.mkTrap ?_)
    | (with_reducible refine M.Kept.mkWait ?_)
    | intro _
    | split
seal State.fetch

theorem State.finishInsn_kept (s : State) (k : Nat) (start : Word) (len : Nat) (out : Out) (ss : Bool) : s.Kept (State.finishInsn s k start len out ss) := by
  unfold State.finishInsn
  try dsimp only
  repeat'
    first
    | (with_reducible exact State.Kept.refl _)
    | (with_reducible assumption)
    | (with_reducible refine State.Kept.trans ?_ (State.halt_kept ..))
    | (with_reducible refine State.Kept.trans ?_ (State.modCore_kept ..))
    | (simp only [State.kept_mk] <;> first | refine State.Kept.both ?_ | intro _ | refine ⟨?_, fun _ => ?_⟩)
    | split
seal State.finishInsn

theorem State.insnTrap_kept (s : State) (k : Nat) (t : Trap) (start : Word) (next : Word) : s.Kept (State.insnTrap s k t start next) := by
  unfold State.insnTrap
  try dsimp only
  repeat'
    first
    | (with_reducible exact State.Kept.refl _)
    | (with_reducible refine State.Kept.trans ?_ (DrainRes.Kept.clear (State.drainAll_kept ..) (by assumption)))
    | (with_reducible refine State.Kept.trans ?_ (DrainRes.Kept.taken (State.drainAll_kept ..) (by assumption)))
    | (with_reducible refine State.Kept.trans ?_ (DrainRes.Kept.wait (State.drainAll_kept ..) (by assumption)))
    | (with_reducible refine State.Kept.trans ?_ (State.raise_kept ..))
    | split
seal State.insnTrap

theorem State.shed_kept (s : State) (h : Sys2Proof.Hd) : s.Kept (State.shed s h) := by
  unfold State.shed
  try dsimp only
  repeat'
    first
    | (with_reducible refine State.Kept.ite (fun _ => ?_) (fun _ => ?_))
    | (with_reducible exact State.Kept.refl _)
    | (with_reducible refine State.Kept.trans ?_ (State.modCore_kept ..))
seal State.shed

theorem State.handOff_kept (s : State) (k : Nat) (o : LongOp) : M.Kept s (State.handOff s k o) := by
  unfold State.handOff
  try dsimp only
  repeat'
    first
    | (with_reducible exact State.Kept.refl _)
    | (with_reducible refine State.Kept.trans ?_ (State.insnTrap_kept ..))
    | (with_reducible refine State.Kept.trans ?_ (OpRes.Kept.done (State.finishOp_kept ..) (by assumption)))
    | (with_reducible refine State.Kept.trans ?_ (OpRes.Kept.failed (State.finishOp_kept ..) (by assumption)))
    | (with_reducible refine State.Kept.trans ?_ (OpRes.Kept.wait (State.finishOp_kept ..) (by assumption)))
    | (with_reducible refine State.Kept.trans ?_ (State.modCore_kept ..))
    | (with_reducible refine M.Kept.mkOk ?_)
    | (with_reducible refine M.Kept.mkStop ?_)
    | split
seal State.handOff

/-! ### MemOps -/

theorem memRead_kept (f : Bank → Nat → Nat → Bank) (h : Sys2Proof.Hd) (m : Sys2Proof.MemOp) (s : State) : M.Kept s (memRead f h m s) := by
  unfold memRead
  try dsimp only
  repeat'
    first
    | (with_reducible exact State.Kept.refl _)
    | (with_reducible refine M.Kept.trans ?_ (State.load_kept ..))
    | (with_reducible refine State.Kept.trans ?_ (State.modBank_kept ..))
    | (with_reducible refine M.Kept.bind ?_ ?_)
    | (with_reducible refine M.Kept.mkOk ?_)
    | intro _
seal memRead

theorem memStore_kept (r : Bank → Word) (h : Sys2Proof.Hd) (m : Sys2Proof.MemOp) (s : State) : M.Kept s (memStore r h m s) := by
  unfold memStore
  try dsimp only
  repeat'
    first
    | (with_reducible exact State.Kept.refl _)
    | (with_reducible refine M.Kept.trans ?_ (State.store_kept ..))
    | (with_reducible refine State.Kept.trans ?_ (State.modBank_kept ..))
    | (with_reducible refine M.Kept.bind ?_ ?_)
    | (with_reducible refine M.Kept.mkOk ?_)
    | intro _
seal memStore

theorem State.indexLoaded_kept (s : State) (k : Nat) : s.Kept (State.indexLoaded s k) := by
  unfold State.indexLoaded
  try dsimp only
  repeat'
    first
    | (with_reducible exact State.Kept.refl _)
    | (with_reducible refine State.Kept.trans ?_ (State.modCore_kept ..))
seal State.indexLoaded

theorem State.rmw_kept (s : State) (k : Nat) (seg : Nat) (off : Word) (n : Nat) (f : Nat → Nat) : M.Kept s (State.rmw s k seg off n f) := by
  unfold State.rmw
  try dsimp only
  repeat'
    first
    | (with_reducible exact State.Kept.refl _)
    | (with_reducible refine M.Kept.trans ?_ (State.storePieces_kept ..))
    | (with_reducible refine State.Kept.trans ?_ (State.watched_kept ..))
    | (with_reducible refine M.Kept.trans ?_ (State.loadPieces_kept ..))
    | (with_reducible refine State.Kept.trans ?_ (by apply State.operand_kept <;> assumption))
    | (with_reducible refine State.Kept.trans ?_ (State.modCore_kept ..))
    | (with_reducible refine M.Kept.bind ?_ ?_)
    | (with_reducible refine M.Kept.mkOk ?_)
    | (with_reducible refine M.Kept.mkTrap ?_)
    | intro _
    | split
seal State.rmw

theorem memBump_kept (f : Nat → Nat → Nat) (ov : Nat → Nat → Bool) (h : Sys2Proof.Hd) (m : Sys2Proof.MemOp) (s : State) : M.Kept s (memBump f ov h m s) := by
  unfold memBump
  try dsimp only
  repeat'
    first
    | (with_reducible exact State.Kept.refl _)
    | (with_reducible refine M.Kept.trans ?_ (State.rmw_kept ..))
    | (with_reducible refine State.Kept.trans ?_ (State.modBank_kept ..))
    | (with_reducible refine M.Kept.bind ?_ ?_)
    | (with_reducible refine M.Kept.mkOk ?_)
    | intro _
seal memBump

theorem memDiv_kept (own : Nat) (f : Word → Word → Word × Word) (ext : Nat → Nat → Word) (mask : Word) (h : Sys2Proof.Hd) (m : Sys2Proof.MemOp) (s : State) : M.Kept s (memDiv own f ext mask h m s) := by
  unfold memDiv
  try dsimp only
  repeat'
    first
    | (with_reducible exact State.Kept.refl _)
    | (with_reducible refine M.Kept.trans ?_ (State.handOff_kept ..))
    | (with_reducible refine M.Kept.trans ?_ (State.load_kept ..))
    | (with_reducible refine State.Kept.trans ?_ (State.modBank_kept ..))
    | (with_reducible refine M.Kept.bind ?_ ?_)
    | (with_reducible refine M.Kept.mkOk ?_)
    | intro _
seal memDiv

theorem fpRaise_kept {α : Type} (s : State) (k : Nat) (codes : Nat) (detected : Nat) : M.Kept s (fpRaise s k codes detected : M α) := by
  unfold fpRaise
  try dsimp only
  repeat'
    first
    | (with_reducible exact State.Kept.refl _)
    | (with_reducible refine State.Kept.trans ?_ (State.modBank_kept ..))
    | (with_reducible refine M.Kept.mkTrap ?_)
seal fpRaise

theorem fpFinish_kept (s : State) (k : Nat) (x : Nat) (g : Bank → Bank) : M.Kept s (fpFinish s k x g) := by
  unfold fpFinish
  try dsimp only
  repeat'
    first
    | (with_reducible refine M.Kept.ite (fun _ => ?_) (fun _ => ?_))
    | (with_reducible exact State.Kept.refl _)
    | (with_reducible refine M.Kept.trans ?_ (fpRaise_kept ..))
    | (with_reducible refine State.Kept.trans ?_ (State.modBank_kept ..))
    | (with_reducible refine M.Kept.mkOk ?_)
seal fpFinish

theorem memFp_kept (f : Fmt → Nat → Bool → FV → FV → Nat × Nat) (h : Sys2Proof.Hd) (m : Sys2Proof.MemOp) (s : State) : M.Kept s (memFp f h m s) := by
  unfold memFp
  try dsimp only
  repeat'
    first
    | (with_reducible exact fpFinish_kept ..)
    | (with_reducible exact State.load_kept ..)
    | (with_reducible refine M.Kept.bind ?_ ?_)
    | intro _
seal memFp

/-! ### Switch -/

theorem State.saveGroups_kept (s : State) (k : Nat) (x : Nat) : ∀ t, State.saveGroups s k x = some t → s.Kept t := by
  unfold State.saveGroups
  try dsimp only
  repeat'
    first
    | (with_reducible exact State.Kept.refl _)
    | (with_reducible refine State.Kept.trans ?_ (AreaRes.Kept.ok (State.areaWrite_kept ..) (by assumption)))
    | (with_reducible refine State.Kept.trans ?_ (AreaRes.Kept.ok (State.areaRead_kept ..) (by assumption)))
    | (with_reducible refine State.Kept.trans ?_ (State.onDev_kept ..))
    | split
    | (intro _ h; cases h; skip)
seal State.saveGroups

theorem State.saveCtx_kept (s : State) (k : Nat) (x : Nat) : ∀ t, State.saveCtx s k x = .ok t → s.Kept t := by
  unfold State.saveCtx
  try dsimp only
  repeat'
    first
    | (with_reducible exact State.Kept.refl _)
    | (with_reducible refine State.Kept.trans ?_ (by apply State.saveGroups_kept <;> assumption))
    | (with_reducible refine State.Kept.trans ?_ (State.fenceSeen_kept ..))
    | (with_reducible refine State.Kept.trans ?_ (SaveRes.Kept.saved (State.saveArea_kept ..) (by assumption)))
    | (with_reducible refine State.Kept.trans ?_ (State.drainStores_kept ..))
    | (with_reducible refine State.Kept.trans ?_ (State.modCore_kept ..))
    | (with_reducible refine State.Kept.trans ?_ (State.onDev_kept ..))
    | split
    | (intro _ h; cases h; skip)
seal State.saveCtx

theorem State.switchOut_kept (s : State) (k : Nat) (x : Nat) : s.Kept (State.switchOut s k x).1 := by
  unfold State.switchOut
  try dsimp only
  repeat'
    first
    | (with_reducible exact State.Kept.refl _)
    | (with_reducible refine State.Kept.trans ?_ (by apply State.saveCtx_kept <;> assumption))
    | (with_reducible refine State.Kept.trans ?_ (State.bankNest_kept ..))
    | split
seal State.switchOut

theorem State.loadGroup_kept (s : State) (k : Nat) (x : Nat) (stream : Bool) : ∀ t, State.loadGroup s k x stream = some t → s.Kept t := by
  unfold State.loadGroup
  try dsimp only
  repeat'
    first
    | (with_reducible exact State.Kept.refl _)
    | (with_reducible refine State.Kept.trans ?_ (AreaRes.Kept.ok (State.areaRead_kept ..) (by assumption)))
    | (with_reducible refine State.Kept.trans ?_ (State.modCore_kept ..))
    | (with_reducible refine State.Kept.trans ?_ (State.onDev_kept ..))
    | split
    | (intro _ h; cases h; skip)
seal State.loadGroup

theorem State.streamFail_kept (s : State) (k : Nat) (x : Nat) : s.Kept (State.streamFail s k x) := by
  unfold State.streamFail
  try dsimp only
  repeat'
    first
    | (with_reducible exact State.Kept.refl _)
    | (with_reducible refine State.Kept.trans ?_ (State.switchOut_kept ..))
    | (with_reducible refine State.Kept.trans ?_ (DrainRes.Kept.clear (State.drainAll_kept ..) (by assumption)))
    | (with_reducible refine State.Kept.trans ?_ (DrainRes.Kept.taken (State.drainAll_kept ..) (by assumption)))
    | (with_reducible refine State.Kept.trans ?_ (DrainRes.Kept.wait (State.drainAll_kept ..) (by assumption)))
    | (with_reducible refine State.Kept.trans ?_ (State.onDev_kept ..))
    | split
seal State.streamFail

theorem State.withStream_kept (s : State) (k : Nat) (f : State → M Out) (hf : ∀ u : State, M.Kept u (f u)) : M.Kept s (State.withStream s k f) := by
  unfold State.withStream
  try dsimp only
  repeat'
    first
    | (with_reducible exact State.Kept.refl _)
    | (with_reducible refine M.Kept.trans ?_ (hf _))
    | (with_reducible refine State.Kept.trans ?_ (State.streamFail_kept ..))
    | (with_reducible refine State.Kept.trans ?_ (by apply State.loadGroup_kept <;> assumption))
    | (with_reducible refine M.Kept.mkStop ?_)
    | split
seal State.withStream

theorem State.restoreCtx_kept (s : State) (k : Nat) (x : Nat) : s.Kept (State.restoreCtx s k x) := by
  unfold State.restoreCtx
  try dsimp only
  repeat'
    first
    | (with_reducible exact State.Kept.refl _)
    | (with_reducible refine State.Kept.trans ?_ (by apply State.loadGroup_kept <;> assumption))
    | (with_reducible refine State.Kept.trans ?_ (State.freeArea_kept ..))
    | (with_reducible refine State.Kept.trans ?_ (AreaRes.Kept.ok (State.areaRead_kept ..) (by assumption)))
    | (with_reducible refine State.Kept.trans ?_ (State.modCore_kept ..))
    | (with_reducible refine State.Kept.trans ?_ (State.onDev_kept ..))
    | (with_reducible refine State.Kept.trans ?_ (State.Kept.of_ite_some (by assumption) ?_))
    | intro _
    | split
seal State.restoreCtx

theorem State.quiesce_kept (s : State) (k : Nat) : DrainRes.Kept s (State.quiesce s k) := by
  unfold State.quiesce
  try dsimp only
  repeat'
    first
    | (with_reducible exact State.Kept.refl _)
    | (with_reducible refine DrainRes.Kept.trans ?_ (State.drainAll_kept ..))
    | (with_reducible refine State.Kept.trans ?_ (DrainRes.Kept.clear (State.drainAll_kept ..) (by assumption)))
    | (with_reducible refine State.Kept.trans ?_ (DrainRes.Kept.taken (State.drainAll_kept ..) (by assumption)))
    | (with_reducible refine State.Kept.trans ?_ (DrainRes.Kept.wait (State.drainAll_kept ..) (by assumption)))
    | (with_reducible refine State.Kept.trans ?_ (State.reopen_kept ..))
    | (with_reducible refine State.Kept.trans ?_ (State.modBank_kept ..))
    | (with_reducible refine State.Kept.trans ?_ (State.modCore_kept ..))
    | (with_reducible refine DrainRes.Kept.mkClear ?_)
    | (with_reducible refine DrainRes.Kept.mkTaken ?_)
    | (with_reducible refine DrainRes.Kept.mkWait ?_)
    | split
seal State.quiesce

/-! ### GroupG -/

theorem State.push_kept (s : State) (k : Nat) (v : Word) : M.Kept s (State.push s k v) := by
  unfold State.push
  try dsimp only
  repeat'
    first
    | (with_reducible exact State.Kept.refl _)
    | (with_reducible refine M.Kept.trans ?_ (State.store_kept ..))
    | (with_reducible refine State.Kept.trans ?_ (State.modBank_kept ..))
    | (with_reducible refine M.Kept.bind ?_ ?_)
    | (with_reducible refine M.Kept.mkOk ?_)
    | intro _
seal State.push

theorem State.pop_kept (s : State) (k : Nat) (f : Bank → Word → Bank) : M.Kept s (State.pop s k f) := by
  unfold State.pop
  try dsimp only
  repeat'
    first
    | (with_reducible exact State.Kept.refl _)
    | (with_reducible refine M.Kept.trans ?_ (State.load_kept ..))
    | (with_reducible refine State.Kept.trans ?_ (State.modBank_kept ..))
    | (with_reducible refine M.Kept.bind ?_ ?_)
    | (with_reducible refine M.Kept.mkOk ?_)
    | intro _
seal State.pop

theorem State.loadWords_kept (s : State) (k : Nat) (off : Word) (a3 : Nat) : M.Kept s (State.loadWords s k off a3) := by
  fun_induction State.loadWords s k off a3 <;> (repeat' first
    | (with_reducible exact State.Kept.refl _)
    | (with_reducible refine M.Kept.trans ?_ (State.load_kept ..))
    | (with_reducible refine M.Kept.bind ?_ ?_)
    | (with_reducible refine M.Kept.mkOk ?_)
    | intro _
    | (with_reducible solve_by_elim))
seal State.loadWords

theorem State.pushWords_kept (s : State) (k : Nat) (sp : Word) (ws : List Word) : M.Kept s (State.pushWords s k sp ws) := by
  unfold State.pushWords
  have go : ∀ (l : List (Word × Nat)) (m : M Unit), M.Kept s m →
      M.Kept s (l.foldl (fun m e => m.bind fun _ s1 => s1.store k 2 (sp + word (8 * e.2)) 8 e.1.toNat true) m) := by
    intro l
    induction l with
    | nil => exact fun _ h => h
    | cons a l ih => exact fun m h => ih _ (M.Kept.bind h fun _ t => State.store_kept ..)
  exact go _ _ (M.Kept.mkOk (State.Kept.refl s))
seal State.pushWords

theorem State.rewait_kept (s : State) (k : Nat) : s.Kept (State.rewait s k) := by
  unfold State.rewait
  try dsimp only
  repeat'
    first
    | (with_reducible exact State.Kept.refl _)
    | (with_reducible refine State.Kept.trans ?_ (State.modCore_kept ..))
    | split
seal State.rewait

theorem State.ctxWait_kept (s : State) (k : Nat) : s.Kept (State.ctxWait s k) := by
  unfold State.ctxWait
  try dsimp only
  repeat'
    first
    | (with_reducible exact State.Kept.refl _)
    | (with_reducible refine State.Kept.trans ?_ (State.modCore_kept ..))
    | (with_reducible refine State.Kept.trans ?_ (State.onDev_kept ..))
seal State.ctxWait

/-! ### Branch -/

theorem State.pushFrame_kept (s : State) (k : Nat) (mask : Nat) : M.Kept s (State.pushFrame s k mask) := by
  unfold State.pushFrame
  try dsimp only
  repeat'
    first
    | (with_reducible exact State.Kept.refl _)
    | (with_reducible refine M.Kept.trans ?_ (State.pushWords_kept ..))
    | (with_reducible refine M.Kept.bind ?_ ?_)
    | (with_reducible refine M.Kept.mkOk ?_)
    | intro _
seal State.pushFrame

theorem State.openLoop_kept (s : State) (k : Nat) (dist : Nat) (count : Word) (endShort : Bool) : M.Kept s (State.openLoop s k dist count endShort) := by
  unfold State.openLoop
  try dsimp only
  repeat'
    first
    | (with_reducible exact State.Kept.refl _)
    | (with_reducible refine State.Kept.trans ?_ (State.insnTrap_kept ..))
    | (with_reducible refine State.Kept.trans ?_ (M.Kept.ok (State.fetch_kept ..) (by assumption)))
    | (with_reducible refine State.Kept.trans ?_ (M.Kept.trap (State.fetch_kept ..) (by assumption)))
    | (with_reducible refine State.Kept.trans ?_ (M.Kept.wait (State.fetch_kept ..) (by assumption)))
    | (with_reducible refine State.Kept.trans ?_ (M.Kept.stop (State.fetch_kept ..) (by assumption)))
    | (with_reducible refine State.Kept.trans ?_ (State.modBank_kept ..))
    | exact True.intro
    | (with_reducible refine M.Kept.mkOk ?_)
    | (with_reducible refine M.Kept.mkTrap ?_)
    | (with_reducible refine M.Kept.mkWait ?_)
    | (with_reducible refine M.Kept.mkStop ?_)
    | split
seal State.openLoop

/-! ### Stream -/

theorem State.macReads_kept (s : State) (k : Nat) (a2 : List (List Piece)) : M.Kept s (State.macReads s k a2) := by
  fun_induction State.macReads s k a2 <;> (repeat' first
    | (with_reducible exact State.Kept.refl _)
    | (with_reducible refine M.Kept.trans ?_ (State.loadPieces_kept ..))
    | (with_reducible refine M.Kept.bind ?_ ?_)
    | (with_reducible refine M.Kept.mkOk ?_)
    | intro _
    | (with_reducible solve_by_elim))
seal State.macReads

theorem redBody_kept (clear : Bool) (k : Nat) (s : State) : M.Kept s (redBody clear k s) := by
  unfold redBody
  try dsimp only
  repeat'
    first
    | (with_reducible refine State.Kept.ite (fun _ => ?_) (fun _ => ?_))
    | (with_reducible exact State.Kept.refl _)
    | (with_reducible refine M.Kept.trans ?_ (State.withStream_kept (hf := ?_) ..))
    | (with_reducible refine M.Kept.trans ?_ (State.handOff_kept ..))
    | (with_reducible refine State.Kept.trans ?_ (State.onDev_kept ..))
    | intro _
seal redBody

theorem State.atomic_kept (s : State) (h : Sys2Proof.Hd) (o : Sys2Proof.AtomOp) (f : Bank → Nat → Nat → Option Nat × Bank) : M.Kept s (State.atomic s h o f) := by
  unfold State.atomic
  try dsimp only
  repeat'
    first
    | (with_reducible exact State.Kept.refl _)
    | (with_reducible assumption)
    | (with_reducible refine State.Kept.trans ?_ (State.fenceSeen_kept ..))
    | (with_reducible refine State.Kept.trans ?_ (State.watched_kept ..))
    | (with_reducible refine State.Kept.trans ?_ (by apply State.operand_kept <;> assumption))
    | (with_reducible refine State.Kept.trans ?_ (State.drainStores_kept ..))
    | (with_reducible refine State.Kept.trans ?_ (State.settleOwn_kept ..))
    | (with_reducible refine State.Kept.trans ?_ (State.endLag_kept ..))
    | (with_reducible refine State.Kept.trans ?_ (State.Kept.snd (State.gate_kept ..) (by assumption)))
    | (with_reducible refine State.Kept.trans ?_ (State.fillWrite_kept ..))
    | (with_reducible refine State.Kept.trans ?_ (State.ownLine_kept ..))
    | (with_reducible refine State.Kept.trans ?_ (State.modCore_kept ..))
    | (with_reducible refine State.Kept.trans ?_ (State.onMem_kept _ _ ?_))
    | (with_reducible refine MemSt.wf_put _ _ _ ?_)
    | (with_reducible refine M.Kept.mkOk ?_)
    | (with_reducible refine M.Kept.mkTrap ?_)
    | (with_reducible refine M.Kept.mkWait ?_)
    | intro _
    | split
seal State.atomic

/-! ### KReg -/

theorem sqrtBody_kept (f : Fmt) (k : Nat) (s : State) : M.Kept s (sqrtBody f k s) := by
  unfold sqrtBody
  try dsimp only
  repeat'
    first
    | (with_reducible exact State.handOff_kept ..)
seal sqrtBody

/-! ### KSys -/

theorem saveHalf_kept (k : Nat) (hdr : Core → Word) (ws : Core → List Word) (s : State) : M.Kept s (saveHalf k hdr ws s) := by
  unfold saveHalf
  try dsimp only
  repeat'
    first
    | (with_reducible exact State.Kept.refl _)
    | (with_reducible refine State.Kept.trans ?_ (State.finishInsn_kept ..))
    | (with_reducible refine State.Kept.trans ?_ (State.chainLow_kept ..))
    | (with_reducible refine State.Kept.trans ?_ (State.bankNest_kept ..))
    | (with_reducible refine State.Kept.trans ?_ (SaveRes.Kept.saved (State.saveArea_kept ..) (by assumption)))
    | (with_reducible refine State.Kept.trans ?_ (State.modCore_kept ..))
    | (with_reducible refine M.Kept.mkOk ?_)
    | (with_reducible refine M.Kept.mkTrap ?_)
    | (with_reducible refine M.Kept.mkStop ?_)
    | split
seal saveHalf

theorem restoreArea_kept (k : Nat) (kind : Nat) (s : State) (f : List Byte → Core → Core) : M.Kept s (restoreArea k kind s f) := by
  unfold restoreArea
  try dsimp only
  repeat'
    first
    | (with_reducible exact State.Kept.refl _)
    | (with_reducible refine State.Kept.trans ?_ (State.freeArea_kept ..))
    | (with_reducible refine State.Kept.trans ?_ (AreaRes.Kept.ok (State.areaRead_kept ..) (by assumption)))
    | (with_reducible refine State.Kept.trans ?_ (State.modCore_kept ..))
    | (with_reducible refine M.Kept.mkOk ?_)
    | (with_reducible refine M.Kept.mkTrap ?_)
    | split
seal restoreArea

/-! ### CoreEvents -/

theorem State.dbgCtlWrite_kept (s : State) (rq : Sys2Proof.Req) (k : Nat) (b : Nat) : s.Kept (State.dbgCtlWrite s rq k b) := by
  unfold State.dbgCtlWrite
  try dsimp only
  repeat'
    first
    | (with_reducible exact State.Kept.refl _)
    | (with_reducible refine State.Kept.trans ?_ (State.regWrite_kept ..))
seal State.dbgCtlWrite

theorem State.tlbAck_kept (s : State) (k : Nat) (r : TlbReq) : s.Kept (State.tlbAck s k r) := by
  unfold State.tlbAck
  try dsimp only
  repeat'
    first
    | (with_reducible exact State.Kept.refl _)
    | (with_reducible refine State.Kept.trans ?_ (State.modCore_kept ..))
seal State.tlbAck

theorem State.ackTlb_kept (s : State) (k : Nat) : s.Kept (State.ackTlb s k) := by
  unfold State.ackTlb
  try dsimp only
  repeat'
    first
    | (with_reducible exact State.Kept.refl _)
    | (with_reducible refine State.Kept.trans ?_ (State.tlbAck_kept ..))
    | (with_reducible refine State.Kept.trans ?_ (State.modCore_kept ..))
    | (with_reducible refine State.Kept.trans ?_ (State.Kept.foldl ?_ _))
    | intro _
seal State.ackTlb

theorem State.bareCore_kept (s : State) (k : Nat) : s.Kept (State.bareCore s k) := by
  unfold State.bareCore
  try dsimp only
  repeat'
    first
    | (with_reducible exact State.Kept.refl _)
    | (with_reducible refine State.Kept.trans ?_ (State.modCore_kept ..))
    | (with_reducible refine State.Kept.trans ?_ (State.onDev_kept ..))
seal State.bareCore

theorem State.startCore_kept (s : State) (k : Nat) : s.Kept (State.startCore s k) := by
  unfold State.startCore
  try dsimp only
  repeat'
    first
    | (with_reducible exact State.Kept.refl _)
    | (with_reducible refine State.Kept.trans ?_ (State.modCore_kept ..))
seal State.startCore

theorem State.resetCore_kept (s : State) (k : Nat) : s.Kept (State.resetCore s k) := by
  unfold State.resetCore
  try dsimp only
  repeat'
    first
    | (with_reducible exact State.Kept.refl _)
    | (with_reducible refine State.Kept.trans ?_ (State.startCore_kept ..))
    | (with_reducible refine State.Kept.trans ?_ (State.ackTlb_kept ..))
    | (with_reducible refine State.Kept.trans ?_ (State.onDev_kept ..))
seal State.resetCore

theorem State.reportDiscard_kept (s : State) (k : Nat) (n : Nat) : s.Kept (State.reportDiscard s k n) := by
  unfold State.reportDiscard
  try dsimp only
  repeat'
    first
    | (with_reducible exact State.Kept.refl _)
    | (with_reducible refine State.Kept.trans ?_ (State.onDev_kept ..))
seal State.reportDiscard

end Sys2Proof.Machine
end

