-- ==== Sys2Proof/Laws/KeepsBlock.lean ====
section
/-! SUPPORT. One lemma for each shared operation of the block's own events: it changes no fuse and keeps memory in its
canonical form (`Kept`, of Laws/Memory.lean). -/

open Sys2Proof Sys2Proof.Machine
namespace Sys2Proof.Machine

set_option Elab.async false
set_option linter.unusedSimpArgs false

seal State.onDev State.onMem State.setCore State.modCore State.modBank State.settle MemSt.put MemSt.discard State.killOps
  State.inval State.pickVictim State.llcRoom State.llcTake State.dirEvict State.dirRoom State.evictOut State.absorb
  State.evictHome State.l2Room State.l1Fill State.grant State.finishPut State.finishTxn State.snoopOne State.snoopAnswer
  State.startTxn State.drainWait State.serveWaiting State.accept State.letIn State.retryEvicts State.homeNext
  State.evictArrive State.answer State.holdOver State.answerAll State.quietLine State.request State.needTracker State.serve
  State.noteMiss State.fillRead State.ownLine State.fillWrite State.putBytes State.cwb State.invalAll State.cwbi State.cinv
  State.flushAgent State.cluPost State.rselWrite State.halt State.resumeCore State.dbgPost State.dbgRelease State.secPost
  State.nvWrite State.nvRecord State.setBlock State.modBlock State.saveLaneRec State.saveIds State.saveTrain State.savePred
  State.feltPost State.bitsWrite State.storeReg State.postWrite State.regRead State.regWriteNow State.regWrite State.gate
  State.endLag State.hostBad State.extRead State.extWrite State.noteSeen State.newer State.pread State.pwrite State.stashFor
  State.putLines State.agentWrite State.readNote State.saveLaneList State.relane State.reportCheck State.storeBad
  State.performStore State.performWhere State.settleOwn State.drainStores State.areaRead State.areaWrite State.saveArea
  State.freeArea State.bankNest State.enter State.takeException State.chainLow State.raise State.eret State.tlbUse
  State.operand State.loadPiece State.loadPieces State.watched State.load State.bufferStore State.storePiece State.storePieces
  State.store State.fenceSeen State.blockStep State.unstore State.held State.blockElem State.blockRun State.finishOp
  State.reopen State.drainOps State.drainRaw State.drainAll State.fetch State.finishInsn State.insnTrap State.shed
  State.handOff memRead memStore State.indexLoaded State.rmw memBump memDiv fpRaise fpFinish memFp State.saveGroups
  State.saveCtx State.switchOut State.loadGroup State.streamFail State.withStream State.restoreCtx State.quiesce State.push
  State.pop State.loadWords State.pushWords State.rewait State.ctxWait State.pushFrame State.openLoop State.macReads redBody
  State.atomic sqrtBody saveHalf restoreArea State.dbgCtlWrite State.tlbAck State.ackTlb State.bareCore State.startCore
  State.resetCore State.reportDiscard

/-! ### Ptp -/

theorem State.ptpServo_kept (s : State) (port : Nat) (offset : Int) : s.Kept (State.ptpServo s port offset) := by
  unfold State.ptpServo
  try dsimp only
  repeat'
    first
    | (with_reducible refine State.Kept.ite (fun _ => ?_) (fun _ => ?_))
    | (with_reducible exact State.Kept.refl _)
    | (with_reducible refine State.Kept.trans ?_ (State.onDev_kept ..))
seal State.ptpServo

theorem State.ptpSynced_kept (s : State) (port : Nat) (domain : Nat) (rx : Int) (origin : Int) (corr : Int) : s.Kept (State.ptpSynced s port domain rx origin corr) := by
  unfold State.ptpSynced
  try dsimp only
  repeat'
    first
    | (with_reducible exact State.Kept.refl _)
    | (with_reducible refine State.Kept.trans ?_ (State.ptpServo_kept ..))
    | (with_reducible refine State.Kept.trans ?_ (State.onDev_kept ..))
seal State.ptpSynced

theorem State.ptpFeed_kept (s : State) (port : Nat) (domain : Nat) (f : List Byte) (h : EthHead) (ts : Word) : s.Kept (State.ptpFeed s port domain f h ts) := by
  unfold State.ptpFeed
  try dsimp only
  repeat'
    first
    | (with_reducible exact State.Kept.refl _)
    | (with_reducible refine State.Kept.trans ?_ (State.ptpSynced_kept ..))
    | (with_reducible refine State.Kept.trans ?_ (State.onDev_kept ..))
    | split
seal State.ptpFeed

/-! ### Dma -/

theorem State.dmaPost_kept (s : State) (c : Nat) (pa : Nat) (n : Nat) (wr : Bool) (data : List Byte) : s.Kept (State.dmaPost s c pa n wr data) := by
  unfold State.dmaPost
  try dsimp only
  repeat'
    first
    | (with_reducible exact State.Kept.refl _)
    | (with_reducible refine State.Kept.trans ?_ (State.hostBad_kept ..))
    | (with_reducible refine State.Kept.trans ?_ (State.onDev_kept ..))
    | split
seal State.dmaPost

theorem State.dmaStart_kept (s : State) (c : Nat) : s.Kept (State.dmaStart s c) := by
  unfold State.dmaStart
  try dsimp only
  repeat'
    first
    | (with_reducible exact State.Kept.refl _)
    | (with_reducible refine State.Kept.trans ?_ (State.dmaPost_kept ..))
    | (with_reducible refine State.Kept.trans ?_ (State.readNote_kept ..))
    | (with_reducible refine State.Kept.trans ?_ (State.onDev_kept ..))
    | (with_reducible refine State.Kept.trans ?_ (State.Kept.foldl ?_ _))
    | intro _
    | split
seal State.dmaStart

theorem State.dmaNote_kept (c : Nat) (a1 : List (Nat × Nat)) (a2 : State) : a2.Kept (State.dmaNote c a1 a2) := by
  fun_induction State.dmaNote c a1 a2 <;> (repeat' first
    | (with_reducible exact State.Kept.refl _)
    | (with_reducible refine State.Kept.trans ?_ (State.readNote_kept ..))
    | (with_reducible refine State.Kept.trans ?_ (by assumption)))
seal State.dmaNote

theorem State.dmaPut_kept (rq : Sys2Proof.Req) (qos : Nat) (stash : Option Nat) (data : List Byte) (base : Nat) (a5 : List (Nat × Nat)) (a6 : State) : a6.Kept (State.dmaPut rq qos stash data base a5 a6).2.2 := by
  fun_induction State.dmaPut rq qos stash data base a5 a6 <;> (repeat' first
    | (with_reducible exact State.Kept.refl _)
    | (with_reducible refine State.Kept.trans ?_ (State.agentWrite_kept ..))
    | (with_reducible refine State.Kept.trans ?_ (by assumption)))
seal State.dmaPut

theorem State.dmaFinish_kept (s : State) (c : Nat) (j : DmaJob) (status : Nat) (count : Nat) : s.Kept (State.dmaFinish s c j status count) := by
  unfold State.dmaFinish
  try dsimp only
  repeat'
    first
    | (with_reducible refine State.Kept.ite (fun _ => ?_) (fun _ => ?_))
    | (with_reducible exact State.Kept.refl _)
    | (with_reducible refine State.Kept.trans ?_ (State.agentWrite_kept ..))
    | (with_reducible refine State.Kept.trans ?_ (State.onDev_kept ..))
seal State.dmaFinish

theorem State.dmaRun_kept (s : State) (c : Nat) : s.Kept (State.dmaRun s c) := by
  unfold State.dmaRun
  try dsimp only
  repeat'
    first
    | (with_reducible exact State.Kept.refl _)
    | (with_reducible refine State.Kept.trans ?_ (State.dmaFinish_kept ..))
    | (with_reducible refine State.Kept.trans ?_ (State.dmaPut_kept ..))
    | (with_reducible refine State.Kept.trans ?_ (State.dmaNote_kept ..))
    | (with_reducible refine State.Kept.trans ?_ (State.dmaPost_kept ..))
    | (with_reducible refine State.Kept.trans ?_ (State.onDev_kept ..))
    | (with_reducible refine State.Kept.trans ?_ (State.Kept.foldl ?_ _))
    | intro _
    | split
seal State.dmaRun

theorem State.dmaNext_kept (s : State) (c : Nat) : s.Kept (State.dmaNext s c) := by
  unfold State.dmaNext
  try dsimp only
  repeat'
    first
    | (with_reducible refine State.Kept.ite (fun _ => ?_) (fun _ => ?_))
    | (with_reducible exact State.Kept.refl _)
    | (with_reducible refine State.Kept.trans ?_ (State.dmaStart_kept ..))
seal State.dmaNext

/-! ### CohEvents -/

theorem State.evictLine_kept (s : State) (agent : Nat) (line : Nat) : s.Kept (State.evictLine s agent line) := by
  unfold State.evictLine
  try dsimp only
  repeat'
    first
    | (with_reducible exact State.Kept.refl _)
    | (with_reducible assumption)
    | (with_reducible refine State.Kept.trans ?_ (State.evictArrive_kept ..))
    | (with_reducible refine State.Kept.trans ?_ (State.evictOut_kept ..))
    | (with_reducible refine State.Kept.trans ?_ (State.onMem_kept _ _ ?_))
    | (with_reducible refine MemSt.wf_img ?_)
    | simp only [MemSt.wf_mk, MemSt.wf_setDir, MemSt.wf_setL2, MemSt.wf_setPoison, MemSt.wf_clean, MemSt.wf_markDirty, MemSt.wf_setPois, MemSt.wf_dropL2, MemSt.wf_setLlcVal, MemSt.wf_freeWb, MemSt.wf_setInput, MemSt.wf_llcDrop, MemSt.wf_poisonNewest, MemSt.wf_keepLlc, MemSt.wf_poisonIn]
    | intro _
    | split
seal State.evictLine

theorem State.evictNext_kept (s : State) (agent : Nat) : s.Kept (State.evictNext s agent) := by
  unfold State.evictNext
  try dsimp only
  repeat'
    first
    | (with_reducible refine State.Kept.ite (fun _ => ?_) (fun _ => ?_))
    | (with_reducible exact State.Kept.refl _)
    | (with_reducible assumption)
    | (with_reducible refine State.Kept.trans ?_ (State.evictLine_kept ..))
    | (with_reducible refine State.Kept.trans ?_ (State.onMem_kept _ _ ?_))
    | (with_reducible refine MemSt.wf_img ?_)
    | simp only [MemSt.wf_mk, MemSt.wf_setDir, MemSt.wf_setL2, MemSt.wf_setPoison, MemSt.wf_clean, MemSt.wf_markDirty, MemSt.wf_setPois, MemSt.wf_dropL2, MemSt.wf_setLlcVal, MemSt.wf_freeWb, MemSt.wf_setInput, MemSt.wf_llcDrop, MemSt.wf_poisonNewest, MemSt.wf_keepLlc, MemSt.wf_poisonIn]
    | (with_reducible refine State.Kept.trans ?_ (State.Kept.foldl ?_ _))
    | intro _
seal State.evictNext

/-! ### SluiceEvents -/

theorem State.withhold_kept (s : State) (k : Nat) (x : Nat) : s.Kept (State.withhold s k x) := by
  unfold State.withhold
  try dsimp only
  repeat'
    first
    | (with_reducible refine State.Kept.ite (fun _ => ?_) (fun _ => ?_))
    | (with_reducible assumption)
    | (with_reducible refine State.Kept.trans ?_ (State.modCore_kept ..))
    | (simp only [State.kept_mk] <;> first | refine State.Kept.both ?_ | intro _ | refine ⟨?_, fun _ => ?_⟩)
seal State.withhold

theorem State.ctxAns_kept (s : State) (c : Nat) (st : Nat) : s.Kept (State.ctxAns s c st) := by
  unfold State.ctxAns
  try dsimp only
  repeat'
    first
    | (with_reducible exact State.Kept.refl _)
    | (with_reducible refine State.Kept.trans ?_ (State.onDev_kept ..))
seal State.ctxAns

theorem State.createNote_kept (s : State) (c : Nat) (k : Nat) : s.Kept (State.createNote s c k) := by
  unfold State.createNote
  try dsimp only
  repeat'
    first
    | (with_reducible exact State.Kept.refl _)
    | (with_reducible refine State.Kept.trans ?_ (State.readNote_kept ..))
seal State.createNote

/-! ### DmcEvents -/

theorem State.saveSpare_kept (s : State) (ch : Nat) : s.Kept (State.saveSpare s ch) := by
  unfold State.saveSpare
  try dsimp only
  repeat'
    first
    | (with_reducible exact State.Kept.refl _)
    | (with_reducible refine State.Kept.trans ?_ (State.modBlock_kept ..))
seal State.saveSpare

theorem State.rankErr_kept (s : State) (ch : Nat) (rank : Nat) (cmd : Bool) : s.Kept (State.rankErr s ch rank cmd) := by
  unfold State.rankErr
  try dsimp only
  repeat'
    first
    | (with_reducible refine State.Kept.ite (fun _ => ?_) (fun _ => ?_))
    | (with_reducible exact State.Kept.refl _)
    | (with_reducible refine State.Kept.trans ?_ (State.saveSpare_kept ..))
    | (with_reducible refine State.Kept.trans ?_ (State.onDev_kept ..))
seal State.rankErr

theorem State.eccResult_kept (s : State) (ch : Nat) (la : Nat) (pa : Option Nat) (ecc : Sys2Proof.EccRes) (found : Bool) : s.Kept (State.eccResult s ch la pa ecc found) := by
  unfold State.eccResult
  try dsimp only
  repeat'
    first
    | (with_reducible exact State.Kept.refl _)
    | (with_reducible assumption)
    | (with_reducible refine State.Kept.trans ?_ (State.rankErr_kept ..))
    | (with_reducible refine State.Kept.trans ?_ (State.onDev_kept ..))
    | (with_reducible refine State.Kept.trans ?_ (State.onMem_kept _ _ ?_))
    | simp only [MemSt.wf_mk, MemSt.wf_setDir, MemSt.wf_setL2, MemSt.wf_setPoison, MemSt.wf_clean, MemSt.wf_markDirty, MemSt.wf_setPois, MemSt.wf_dropL2, MemSt.wf_setLlcVal, MemSt.wf_freeWb, MemSt.wf_setInput, MemSt.wf_llcDrop, MemSt.wf_poisonNewest, MemSt.wf_keepLlc, MemSt.wf_poisonIn]
    | intro _
    | split
seal State.eccResult

theorem State.chanAnswer_kept (s : State) (ch : Nat) (r : ChanReq) (pois : Bool) : s.Kept (State.chanAnswer s ch r pois) := by
  unfold State.chanAnswer
  try dsimp only
  repeat'
    first
    | (with_reducible exact State.Kept.refl _)
    | (with_reducible refine State.Kept.trans ?_ (State.onDev_kept ..))
seal State.chanAnswer

theorem State.chanTake_kept (s : State) (ch : Nat) (r : ChanReq) : ∀ t, State.chanTake s ch r = some t → s.Kept t := by
  unfold State.chanTake
  try dsimp only
  repeat'
    first
    | (with_reducible exact State.Kept.refl _)
    | (with_reducible refine State.Kept.trans ?_ (State.chanAnswer_kept ..))
    | (with_reducible refine State.Kept.trans ?_ (State.onDev_kept ..))
    | split
    | (intro _ h; cases h; skip)
seal State.chanTake

theorem State.chanEnter_kept (s : State) (ch : Nat) : s.Kept (State.chanEnter s ch) := by
  unfold State.chanEnter
  dsimp only
  refine State.Kept.trans ?_ (State.onDev_kept ..)
  have go : ∀ (l : List ChanReq) (x : State × List ChanReq), s.Kept x.1 →
      s.Kept (l.foldl (fun (x : State × List ChanReq) r =>
        if x.2.any (fun y => decide (y.line = r.line)) then (x.1, x.2 ++ [r])
        else match x.1.chanTake ch r with
          | some s1 => (s1, x.2)
          | none => (x.1, x.2 ++ [r])) x).1 := by
    intro l
    induction l with
    | nil => exact fun _ h => h
    | cons a l ih =>
      intro x h
      refine ih _ (State.Kept.ite1 (fun _ => h) (fun _ => ?_))
      split
      · exact State.Kept.trans h (State.chanTake_kept _ _ _ _ ‹_›)
      · exact h
  exact go _ _ (State.Kept.refl s)
seal State.chanEnter

theorem State.chanFetch_kept (s : State) (ch : Nat) (line : Nat) (ecc : Sys2Proof.EccRes) : s.Kept (State.chanFetch s ch line ecc) := by
  unfold State.chanFetch
  try dsimp only
  repeat'
    first
    | (with_reducible exact State.Kept.refl _)
    | (with_reducible refine State.Kept.trans ?_ (State.eccResult_kept ..))
    | (with_reducible refine State.Kept.trans ?_ (State.onDev_kept ..))
    | split
seal State.chanFetch

theorem State.chanMerge_kept (s : State) (ch : Nat) (line : Nat) (ecc : Sys2Proof.EccRes) : s.Kept (State.chanMerge s ch line ecc) := by
  unfold State.chanMerge
  try dsimp only
  repeat'
    first
    | (with_reducible exact State.Kept.refl _)
    | (with_reducible refine State.Kept.trans ?_ (State.chanFetch_kept ..))
    | (with_reducible refine State.Kept.trans ?_ (State.chanAnswer_kept ..))
    | (with_reducible refine State.Kept.trans ?_ (State.onDev_kept ..))
    | (with_reducible refine State.Kept.trans ?_ (State.Kept.foldl ?_ _))
    | intro _
seal State.chanMerge

theorem State.chanIssue_kept (s : State) (ch : Nat) (w : WrEnt) : s.Kept (State.chanIssue s ch w) := by
  unfold State.chanIssue
  try dsimp only
  repeat'
    first
    | (with_reducible exact State.Kept.refl _)
    | (with_reducible refine State.Kept.trans ?_ (State.onDev_kept ..))
seal State.chanIssue

theorem State.chanServe_kept (s : State) (ch : Nat) (r : ChanReq) (ecc : Sys2Proof.EccRes) : s.Kept (State.chanServe s ch r ecc) := by
  unfold State.chanServe
  try dsimp only
  repeat'
    first
    | (with_reducible exact State.Kept.refl _)
    | (with_reducible refine State.Kept.trans ?_ (State.chanFetch_kept ..))
    | (with_reducible refine State.Kept.trans ?_ (State.chanAnswer_kept ..))
    | (with_reducible refine State.Kept.trans ?_ (State.onDev_kept ..))
seal State.chanServe

theorem State.chanSlot_kept (s : State) (ch : Nat) (x : Sys2Proof.ChanSlot) : s.Kept (State.chanSlot s ch x) := by
  unfold State.chanSlot
  try dsimp only
  repeat'
    first
    | (with_reducible exact State.Kept.refl _)
    | (with_reducible refine State.Kept.trans ?_ (State.chanServe_kept ..))
    | (with_reducible refine State.Kept.trans ?_ (State.chanIssue_kept ..))
    | (with_reducible refine State.Kept.trans ?_ (State.chanMerge_kept ..))
    | (with_reducible refine State.Kept.trans ?_ (State.onDev_kept ..))
    | split
seal State.chanSlot

theorem State.chanRequest_kept (s : State) (ch : Nat) (r : ChanReq) (slots : List Sys2Proof.ChanSlot) : s.Kept (State.chanRequest s ch r slots) := by
  unfold State.chanRequest
  try dsimp only
  repeat'
    first
    | (with_reducible refine State.Kept.ite (fun _ => ?_) (fun _ => ?_))
    | (with_reducible exact State.Kept.refl _)
    | (with_reducible refine State.Kept.trans ?_ (State.chanSlot_kept ..))
    | (with_reducible refine State.Kept.trans ?_ (State.chanEnter_kept ..))
    | (with_reducible refine State.Kept.trans ?_ (State.onDev_kept ..))
    | (with_reducible refine State.Kept.trans ?_ (State.Kept.foldl ?_ _))
    | intro _
seal State.chanRequest

theorem State.failReads_kept (s : State) (ch : Nat) (rank : Nat) : s.Kept (State.failReads s ch rank) := by
  unfold State.failReads
  try dsimp only
  repeat'
    first
    | (with_reducible exact State.Kept.refl _)
    | (with_reducible refine State.Kept.trans ?_ (State.chanServe_kept ..))
    | (with_reducible refine State.Kept.trans ?_ (State.chanMerge_kept ..))
    | (with_reducible refine State.Kept.trans ?_ (State.Kept.foldl ?_ _))
    | intro _
seal State.failReads

/-! ### PwrOps -/

theorem State.clusterEntry_kept (s : State) (c : Nat) : s.Kept (State.clusterEntry s c) := by
  unfold State.clusterEntry
  try dsimp only
  repeat'
    first
    | (with_reducible exact State.Kept.refl _)
    | (with_reducible refine State.Kept.trans ?_ (State.ackTlb_kept ..))
    | (with_reducible refine State.Kept.trans ?_ (State.drainStores_kept ..))
    | (with_reducible refine State.Kept.trans ?_ (State.flushAgent_kept ..))
    | (with_reducible refine State.Kept.trans ?_ (State.modCore_kept ..))
seal State.clusterEntry

theorem State.domEntry_kept (s : State) (dom : Nat) (tgt : Nat) : s.Kept (State.domEntry s dom tgt) := by
  unfold State.domEntry
  try dsimp only
  repeat'
    first
    | (with_reducible exact State.Kept.refl _)
    | (with_reducible refine State.Kept.trans ?_ (State.clusterEntry_kept ..))
    | (with_reducible refine State.Kept.trans ?_ (State.cwbi_kept ..))
    | (with_reducible refine State.Kept.trans ?_ (State.Kept.foldl ?_ _))
    | intro _
    | split
seal State.domEntry

theorem State.domLose_kept (s : State) (dom : Nat) : s.Kept (State.domLose s dom) := by
  unfold State.domLose
  try dsimp only
  repeat'
    first
    | (with_reducible exact State.Kept.refl _)
    | (with_reducible assumption)
    | (with_reducible refine State.Kept.trans ?_ (State.cinv_kept ..))
    | (with_reducible refine State.Kept.trans ?_ (State.onDev_kept ..))
    | (with_reducible refine State.Kept.trans ?_ (State.onMem_kept _ _ ?_))
    | (with_reducible refine MemSt.wf_img ?_)
    | simp only [MemSt.wf_mk, MemSt.wf_setDir, MemSt.wf_setL2, MemSt.wf_setPoison, MemSt.wf_clean, MemSt.wf_markDirty, MemSt.wf_setPois, MemSt.wf_dropL2, MemSt.wf_setLlcVal, MemSt.wf_freeWb, MemSt.wf_setInput, MemSt.wf_llcDrop, MemSt.wf_poisonNewest, MemSt.wf_keepLlc, MemSt.wf_poisonIn]
    | (with_reducible refine Tab.wf_filter _ _ _ ?_)
    | (with_reducible refine State.Kept.trans ?_ (State.Kept.foldl ?_ _))
    | intro _
    | split
seal State.domLose

theorem State.domStart_kept (s : State) (dom : Nat) : s.Kept (State.domStart s dom) := by
  unfold State.domStart
  try dsimp only
  repeat'
    first
    | (with_reducible exact State.Kept.refl _)
    | (with_reducible refine State.Kept.trans ?_ (State.startCore_kept ..))
    | (with_reducible refine State.Kept.trans ?_ (State.onDev_kept ..))
    | (with_reducible refine State.Kept.trans ?_ (State.Kept.foldl ?_ _))
    | intro _
    | split
seal State.domStart

theorem State.domReach_kept (s : State) (dom : Nat) (st : Nat) : s.Kept (State.domReach s dom st) := by
  unfold State.domReach
  try dsimp only
  repeat'
    first
    | (with_reducible refine State.Kept.ite (fun _ => ?_) (fun _ => ?_))
    | (with_reducible exact State.Kept.refl _)
    | (with_reducible refine State.Kept.trans ?_ (State.domStart_kept ..))
    | (with_reducible refine State.Kept.trans ?_ (State.domLose_kept ..))
    | (with_reducible refine State.Kept.trans ?_ (State.onDev_kept ..))
seal State.domReach

theorem State.domMove_kept (s : State) (dom : Nat) (st : Nat) : s.Kept (State.domMove s dom st) := by
  unfold State.domMove
  try dsimp only
  repeat'
    first
    | (with_reducible refine State.Kept.ite (fun _ => ?_) (fun _ => ?_))
    | (with_reducible exact State.Kept.refl _)
    | (with_reducible refine State.Kept.trans ?_ (State.domReach_kept ..))
    | (with_reducible refine State.Kept.trans ?_ (State.domEntry_kept ..))
seal State.domMove

theorem State.saveDram_kept (s : State) (chs : List Nat) : s.Kept (State.saveDram s chs) := by
  unfold State.saveDram
  try dsimp only
  repeat'
    first
    | (with_reducible refine State.Kept.ite (fun _ => ?_) (fun _ => ?_))
    | (with_reducible exact State.Kept.refl _)
    | (with_reducible refine State.Kept.trans ?_ (State.savePred_kept ..))
    | (with_reducible refine State.Kept.trans ?_ (State.saveTrain_kept ..))
    | (with_reducible refine State.Kept.trans ?_ (State.saveIds_kept ..))
    | (with_reducible refine State.Kept.trans ?_ (State.modBlock_kept ..))
    | (with_reducible refine State.Kept.trans ?_ (State.Kept.foldl ?_ _))
    | intro _
seal State.saveDram

/-! ### Evict -/

theorem State.evictCtx_kept (s : State) (k : Nat) (x : Nat) : ∀ t, State.evictCtx s k x = some t → s.Kept t := by
  unfold State.evictCtx
  try dsimp only
  repeat'
    first
    | (with_reducible exact State.Kept.refl _)
    | (with_reducible refine State.Kept.trans ?_ (DrainRes.Kept.clear (State.quiesce_kept ..) (by assumption)))
    | (with_reducible refine State.Kept.trans ?_ (DrainRes.Kept.taken (State.quiesce_kept ..) (by assumption)))
    | (with_reducible refine State.Kept.trans ?_ (by apply State.saveCtx_kept <;> assumption))
    | (with_reducible refine State.Kept.trans ?_ (State.modCore_kept ..))
    | (with_reducible refine State.Kept.trans ?_ (State.onDev_kept ..))
    | split
    | (intro _ h; cases h; skip)
seal State.evictCtx

theorem State.emptyCore_kept (s : State) (k : Nat) : ∀ t, State.emptyCore s k = some t → s.Kept t := by
  unfold State.emptyCore
  intro t h
  dsimp only at h
  rw [Option.map_eq_some_iff] at h
  obtain ⟨u, hu, rfl⟩ := h
  refine State.Kept.trans ?_ (State.bareCore_kept ..)
  refine State.Kept.trans ?_ (State.onDev_kept ..)
  refine State.Kept.trans ?_ (State.ackTlb_kept ..)
  refine State.Kept.trans ?_ (State.flushAgent_kept ..)
  refine State.Kept.trans ?_ (State.drainStores_kept ..)
  split at hu
  · exact State.evictCtx_kept _ _ _ _ hu
  · split at hu
    · cases hu
    · split at hu
      · cases hu
      · exact Option.some.inj hu ▸ DrainRes.Kept.clear (State.quiesce_kept s k) ‹_›
      · exact Option.some.inj hu ▸ DrainRes.Kept.taken (State.quiesce_kept s k) ‹_›
seal State.emptyCore

theorem State.evacuate_kept (s : State) (c : Nat) (left : Nat) : ∀ t, State.evacuate s c left = some t → s.Kept t := by
  unfold State.evacuate
  intro t h
  dsimp only at h
  rw [Option.map_eq_some_iff] at h
  obtain ⟨u, hu, rfl⟩ := h
  refine State.Kept.trans ?_ (State.onDev_kept ..)
  have go : ∀ (l : List Nat) (o : Option State), (∀ v, o = some v → s.Kept v) → ∀ v,
      l.foldl (fun (acc : Option State) i =>
        acc.bind (fun s => if s.dev.part.order.core (8 * c + i) then s.emptyCore (8 * c + i) else some s)) o = some v → s.Kept v := by
    intro l
    induction l with
    | nil => exact fun _ h => h
    | cons a l ih =>
      intro o ho
      refine ih _ fun v hv => ?_
      obtain ⟨w, hw, hv⟩ := Option.bind_eq_some_iff.mp hv
      refine State.Kept.trans (ho w hw) ?_
      split at hv
      · exact State.emptyCore_kept _ _ _ hv
      · exact Option.some.inj hv ▸ State.Kept.refl w
  exact go _ _ (fun v hv => Option.some.inj hv ▸ State.Kept.refl s) _ hu
seal State.evacuate

theorem State.machineCheck_kept (s : State) (pond : Nat) (secure : Bool) (seq : Nat) (addr : Nat) : s.Kept (State.machineCheck s pond secure seq addr) := by
  unfold State.machineCheck
  try dsimp only
  repeat'
    first
    | (with_reducible exact State.Kept.refl _)
    | (with_reducible refine State.Kept.trans ?_ (State.modCore_kept ..))
    | split
seal State.machineCheck

theorem State.logWrite_kept (s : State) (bs : List Byte) : s.Kept (State.logWrite s bs) := by
  unfold State.logWrite
  try dsimp only
  repeat'
    first
    | (with_reducible exact State.Kept.refl _)
    | (with_reducible refine State.Kept.trans ?_ (State.nvWrite_kept ..))
    | (with_reducible refine State.Kept.trans ?_ (State.onDev_kept ..))
seal State.logWrite

theorem State.finishRec_kept (s : State) (r : ErrRec) : s.Kept (State.finishRec s r) := by
  unfold State.finishRec
  try dsimp only
  repeat'
    first
    | (with_reducible refine State.Kept.ite (fun _ => ?_) (fun _ => ?_))
    | (with_reducible exact State.Kept.refl _)
    | (with_reducible refine State.Kept.trans ?_ (State.logWrite_kept ..))
    | (with_reducible refine State.Kept.trans ?_ (State.machineCheck_kept ..))
    | (with_reducible refine State.Kept.trans ?_ (State.onDev_kept ..))
    | (with_reducible refine State.Kept.trans ?_ (State.Kept.foldl ?_ _))
    | intro _
seal State.finishRec

/-! ### PwrEvents -/

theorem State.startEntry_kept (s : State) (dom : Nat) : s.Kept (State.startEntry s dom) := by
  unfold State.startEntry
  try dsimp only
  repeat'
    first
    | (with_reducible exact State.Kept.refl _)
    | (with_reducible refine State.Kept.trans ?_ (State.domEntry_kept ..))
    | (with_reducible refine State.Kept.trans ?_ (State.onDev_kept ..))
    | split
seal State.startEntry

theorem State.watchExit_kept (s : State) (src : Nat) : s.Kept (State.watchExit s src) := by
  unfold State.watchExit
  try dsimp only
  repeat'
    first
    | (with_reducible refine State.Kept.ite (fun _ => ?_) (fun _ => ?_))
    | (with_reducible exact State.Kept.refl _)
    | (with_reducible refine State.Kept.trans ?_ (State.onDev_kept ..))
seal State.watchExit

theorem State.wakeSource_kept (s : State) (src : Nat) : s.Kept (State.wakeSource s src) := by
  unfold State.wakeSource
  try dsimp only
  repeat'
    first
    | (with_reducible refine State.Kept.ite (fun _ => ?_) (fun _ => ?_))
    | (with_reducible exact State.Kept.refl _)
    | (with_reducible refine State.Kept.trans ?_ (State.watchExit_kept ..))
seal State.wakeSource

theorem State.saveAvs_kept (s : State) (qs : List Nat) : s.Kept (State.saveAvs s qs) := by
  unfold State.saveAvs
  try dsimp only
  repeat'
    first
    | (with_reducible exact State.Kept.refl _)
    | (with_reducible refine State.Kept.trans ?_ (State.modBlock_kept ..))
    | (with_reducible refine State.Kept.trans ?_ (State.nvRecord_kept ..))
    | (with_reducible refine State.Kept.trans ?_ (State.Kept.foldl ?_ _))
    | intro _
    | split
seal State.saveAvs

theorem State.enterWatch_kept (s : State) : s.Kept (State.enterWatch s) := by
  unfold State.enterWatch
  dsimp only
  refine State.Kept.trans ?_ (State.onDev_kept ..)
  refine State.Kept.trans ?_ (State.Kept.foldl (fun u q => State.Kept.ite (fun _ => State.domMove_kept ..) (fun _ => State.Kept.refl u)) _)
  refine State.Kept.trans ?_ (State.domMove_kept ..)
  refine State.Kept.trans ?_ (State.Kept.foldl (fun u x => State.domMove_kept ..) _)
  refine State.Kept.ite (fun _ => ?_) (fun _ => State.saveAvs_kept ..)
  exact State.Kept.trans (State.saveAvs_kept ..)
    (State.Kept.foldl (fun u x => State.Kept.trans (State.saveDram_kept ..) (State.domMove_kept ..)) _)
seal State.enterWatch

/-! ### ErrEvents -/

theorem State.rowOut_kept (s : State) (r : ErrRec) : s.Kept (State.rowOut s r) := by
  unfold State.rowOut
  try dsimp only
  repeat'
    first
    | (with_reducible exact State.Kept.refl _)
    | (with_reducible refine State.Kept.trans ?_ (State.cwb_kept ..))
    | (with_reducible refine State.Kept.trans ?_ (State.Kept.foldl ?_ _))
    | intro _
seal State.rowOut

theorem State.beginTest_kept (s : State) (r : ErrRec) : ∀ t, State.beginTest s r = some t → s.Kept t := by
  unfold State.beginTest
  try dsimp only
  repeat'
    first
    | (with_reducible exact State.Kept.refl _)
    | (with_reducible refine State.Kept.trans ?_ (State.rowOut_kept ..))
    | (with_reducible refine State.Kept.trans ?_ (by apply State.emptyCore_kept <;> assumption))
    | (with_reducible refine State.Kept.trans ?_ (State.modCore_kept ..))
    | (with_reducible refine State.Kept.trans ?_ (State.onDev_kept ..))
    | split
    | (intro _ h; simp only [Option.map_eq_some_iff] at h; obtain ⟨_, h, rfl⟩ := h)
    | (intro _ h; cases h; skip)
seal State.beginTest

theorem State.nvRead_kept (s : State) (corr : Bool) (a : Nat) : s.Kept (State.nvRead s corr a) := by
  unfold State.nvRead
  try dsimp only
  repeat'
    first
    | (with_reducible refine State.Kept.ite (fun _ => ?_) (fun _ => ?_))
    | (with_reducible exact State.Kept.refl _)
    | (with_reducible assumption)
    | (with_reducible refine State.Kept.trans ?_ (State.onDev_kept ..))
    | (with_reducible refine State.Kept.trans ?_ (State.onMem_kept _ _ ?_))
    | simp only [MemSt.wf_mk, MemSt.wf_setDir, MemSt.wf_setL2, MemSt.wf_setPoison, MemSt.wf_clean, MemSt.wf_markDirty, MemSt.wf_setPois, MemSt.wf_dropL2, MemSt.wf_setLlcVal, MemSt.wf_freeWb, MemSt.wf_setInput, MemSt.wf_llcDrop, MemSt.wf_poisonNewest, MemSt.wf_keepLlc, MemSt.wf_poisonIn]
    | intro _
seal State.nvRead

theorem State.retireCore_kept (s : State) (k : Nat) : s.Kept (State.retireCore s k) := by
  unfold State.retireCore
  try dsimp only
  repeat'
    first
    | (with_reducible exact State.Kept.refl _)
    | (with_reducible refine State.Kept.trans ?_ (State.bareCore_kept ..))
    | (with_reducible refine State.Kept.trans ?_ (State.ackTlb_kept ..))
    | (with_reducible refine State.Kept.trans ?_ (State.modBlock_kept ..))
    | (with_reducible refine State.Kept.trans ?_ (State.flushAgent_kept ..))
    | (with_reducible refine State.Kept.trans ?_ (State.modCore_kept ..))
    | (with_reducible refine State.Kept.trans ?_ (State.onDev_kept ..))
seal State.retireCore

theorem State.sharedPort_kept (s : State) (k : Nat) : s.Kept (State.sharedPort s k) := by
  unfold State.sharedPort
  try dsimp only
  repeat'
    first
    | (with_reducible exact State.Kept.refl _)
    | (with_reducible refine State.Kept.trans ?_ (State.modBlock_kept ..))
    | (with_reducible refine State.Kept.trans ?_ (State.modCore_kept ..))
seal State.sharedPort

theorem State.rowCore_kept (s : State) (k : Nat) (l1i : Bool) : ∀ t, State.rowCore s k l1i = some t → s.Kept t.1 := by
  unfold State.rowCore
  try dsimp only
  repeat'
    first
    | (with_reducible exact State.Kept.refl _)
    | (with_reducible refine State.Kept.trans ?_ (State.sharedPort_kept ..))
    | (with_reducible refine State.Kept.trans ?_ (State.retireCore_kept ..))
    | (with_reducible refine State.Kept.trans ?_ (by apply State.emptyCore_kept <;> assumption))
    | split
    | (intro _ h; simp only [Option.map_eq_some_iff] at h; obtain ⟨_, h, rfl⟩ := h)
seal State.rowCore

theorem State.repairRow_kept (s : State) (r : ErrRec) (spare : Bool) : ∀ t, State.repairRow s r spare = some t → s.Kept t.1 := by
  unfold State.repairRow
  try dsimp only
  repeat'
    first
    | (with_reducible exact State.Kept.refl _)
    | (with_reducible refine State.Kept.trans ?_ (by apply State.rowCore_kept <;> assumption))
    | (with_reducible refine State.Kept.trans ?_ (State.onDev_kept ..))
    | split
    | (intro _ h; simp only [Option.map_eq_some_iff] at h; obtain ⟨_, h, rfl⟩ := h)
    | (intro _ h; cases h; skip)
seal State.repairRow

theorem State.backInService_kept (s : State) (k : Nat) (stopped : Bool) : s.Kept (State.backInService s k stopped) := by
  unfold State.backInService
  try dsimp only
  repeat'
    first
    | (with_reducible refine State.Kept.ite (fun _ => ?_) (fun _ => ?_))
    | (with_reducible exact State.Kept.refl _)
    | (with_reducible refine State.Kept.trans ?_ (State.startCore_kept ..))
    | (with_reducible refine State.Kept.trans ?_ (State.modCore_kept ..))
seal State.backInService

theorem State.repair_kept (s : State) (r : ErrRec) (stopped : Bool) (excess : Bool) (l1i : Bool) (spare : Bool) : ∀ t, State.repair s r stopped excess l1i spare = some t → s.Kept t.1 := by
  unfold State.repair
  try dsimp only
  repeat'
    first
    | (with_reducible exact State.Kept.refl _)
    | (with_reducible refine State.Kept.trans ?_ (State.backInService_kept ..))
    | (with_reducible refine State.Kept.trans ?_ (by apply State.repairRow_kept <;> assumption))
    | (with_reducible refine State.Kept.trans ?_ (State.sharedPort_kept ..))
    | (with_reducible refine State.Kept.trans ?_ (State.retireCore_kept ..))
    | (with_reducible refine State.Kept.trans ?_ (State.saveSpare_kept ..))
    | (with_reducible refine State.Kept.trans ?_ (State.modBlock_kept ..))
    | (with_reducible refine State.Kept.trans ?_ (State.onDev_kept ..))
    | split
    | (intro _ h; cases h; skip)
    | intro _
seal State.repair

theorem State.passed_kept (s : State) (r : ErrRec) (stopped : Bool) : s.Kept (State.passed s r stopped) := by
  unfold State.passed
  try dsimp only
  repeat'
    first
    | (with_reducible refine State.Kept.ite (fun _ => ?_) (fun _ => ?_))
    | (with_reducible exact State.Kept.refl _)
    | (with_reducible refine State.Kept.trans ?_ (State.backInService_kept ..))
    | (with_reducible refine State.Kept.trans ?_ (State.onDev_kept ..))
seal State.passed

/-! ### Reset -/

theorem State.afresh_kept (s : State) (cause : Option Nat) (link : Bool) : s.Kept (State.afresh s cause link) := by
  unfold State.afresh
  try dsimp only
  repeat'
    first
    | (with_reducible assumption)
    | (simp only [State.kept_mk] <;> first | refine State.Kept.both ?_ | intro _ | refine ⟨?_, fun _ => ?_⟩)
    | (with_reducible refine MemSt.wf_afresh _ ?_)
seal State.afresh

theorem State.powerOn_kept (s : State) : s.Kept (State.powerOn s) := by
  unfold State.powerOn
  try dsimp only
  repeat'
    first
    | (with_reducible assumption)
    | (simp only [State.kept_mk] <;> first | refine State.Kept.both ?_ | intro _ | refine ⟨?_, fun _ => ?_⟩)
    | (with_reducible refine MemSt.wf_afresh _ ?_)
seal State.powerOn

theorem State.devReset_kept (s : State) : s.Kept (State.devReset s) := by
  unfold State.devReset
  try dsimp only
  repeat'
    first
    | (with_reducible refine State.Kept.ite (fun _ => ?_) (fun _ => ?_))
    | (with_reducible exact State.Kept.refl _)
    | (with_reducible refine State.Kept.trans ?_ (State.afresh_kept ..))
seal State.devReset

theorem State.toOff_kept (s : State) : s.Kept (State.toOff s) := by
  unfold State.toOff
  try dsimp only
  repeat'
    first
    | (with_reducible assumption)
    | (simp only [State.kept_mk] <;> first | refine State.Kept.both ?_ | intro _ | refine ⟨?_, fun _ => ?_⟩)
    | (with_reducible refine MemSt.wf_afresh _ ?_)
seal State.toOff

theorem State.holdsLost_kept (s : State) : s.Kept (State.holdsLost s) := by
  unfold State.holdsLost
  try dsimp only
  repeat'
    first
    | (with_reducible exact State.Kept.refl _)
    | (with_reducible refine State.Kept.trans ?_ (State.finishRec_kept ..))
    | (with_reducible refine State.Kept.trans ?_ (State.onDev_kept ..))
    | (with_reducible refine State.Kept.trans ?_ (State.Kept.foldl ?_ _))
    | intro _
    | split
seal State.holdsLost

theorem State.loseAgent_kept (s : State) (k : Nat) : s.Kept (State.loseAgent s k) := by
  unfold State.loseAgent
  try dsimp only
  repeat'
    first
    | (with_reducible exact State.Kept.refl _)
    | (with_reducible assumption)
    | (with_reducible refine State.Kept.trans ?_ (State.bareCore_kept ..))
    | (with_reducible refine State.Kept.trans ?_ (State.ackTlb_kept ..))
    | (with_reducible refine State.Kept.trans ?_ (State.answerAll_kept ..))
    | (with_reducible refine State.Kept.trans ?_ (State.inval_kept ..))
    | (with_reducible refine State.Kept.trans ?_ (State.modCore_kept ..))
    | (with_reducible refine State.Kept.trans ?_ (State.onMem_kept _ _ ?_))
    | simp only [MemSt.wf_mk, MemSt.wf_setDir, MemSt.wf_setL2, MemSt.wf_setPoison, MemSt.wf_clean, MemSt.wf_markDirty, MemSt.wf_setPois, MemSt.wf_dropL2, MemSt.wf_setLlcVal, MemSt.wf_freeWb, MemSt.wf_setInput, MemSt.wf_llcDrop, MemSt.wf_poisonNewest, MemSt.wf_keepLlc, MemSt.wf_poisonIn]
    | (with_reducible refine MemSt.wf_discard _ _ ?_)
    | (with_reducible refine State.Kept.trans ?_ (State.Kept.foldl ?_ _))
    | intro _
    | split
seal State.loseAgent

theorem State.clrFail_kept (s : State) : s.Kept (State.clrFail s) := by
  unfold State.clrFail
  try dsimp only
  repeat'
    first
    | (with_reducible exact State.Kept.refl _)
    | (with_reducible refine State.Kept.trans ?_ (State.modBlock_kept ..))
    | (with_reducible refine State.Kept.trans ?_ (State.onDev_kept ..))
seal State.clrFail

theorem State.saveLanes_kept (s : State) : s.Kept (State.saveLanes s) := by
  unfold State.saveLanes
  try dsimp only
  repeat'
    first
    | (with_reducible exact State.Kept.refl _)
    | (with_reducible refine State.Kept.trans ?_ (State.saveLaneList_kept ..))
seal State.saveLanes

/-! ### Boot -/

theorem State.logStep_kept (s : State) (k : Nat) (out : Nat) (mode : Nat) (reason : Nat) : s.Kept (State.logStep s k out mode reason) := by
  unfold State.logStep
  try dsimp only
  repeat'
    first
    | (with_reducible exact State.Kept.refl _)
    | (with_reducible refine State.Kept.trans ?_ (State.nvRecord_kept ..))
    | (with_reducible refine State.Kept.trans ?_ (State.onDev_kept ..))
seal State.logStep

theorem State.stepBegin_kept (s : State) (k : Nat) : s.Kept (State.stepBegin s k) := by
  unfold State.stepBegin
  try dsimp only
  repeat'
    first
    | (with_reducible exact State.Kept.refl _)
    | (with_reducible refine State.Kept.trans ?_ (State.logStep_kept ..))
    | (with_reducible refine State.Kept.trans ?_ (State.modBlock_kept ..))
    | (with_reducible refine State.Kept.trans ?_ (State.onDev_kept ..))
seal State.stepBegin

theorem State.stepEnd_kept (s : State) (k : Nat) (r : StepRes) : s.Kept (State.stepEnd s k r) := by
  unfold State.stepEnd
  try dsimp only
  repeat'
    first
    | (with_reducible exact State.Kept.refl _)
    | (with_reducible refine State.Kept.trans ?_ (State.logStep_kept ..))
    | (with_reducible refine State.Kept.trans ?_ (State.onDev_kept ..))
seal State.stepEnd

theorem State.bs01_kept (s : State) : s.Kept (State.bs01 s).1 := by
  unfold State.bs01
  try dsimp only
  repeat'
    first
    | (with_reducible exact State.Kept.refl _)
    | (with_reducible refine State.Kept.trans ?_ (State.logStep_kept ..))
    | (with_reducible refine State.Kept.trans ?_ (State.startCore_kept ..))
    | (with_reducible refine State.Kept.trans ?_ (State.setBlock_kept ..))
    | (with_reducible refine State.Kept.trans ?_ (State.onDev_kept ..))
seal State.bs01

theorem State.replay_kept (a0 : List LogEnt) (a1 : State) : a1.Kept (State.replay a0 a1).1 := by
  fun_induction State.replay a0 a1 <;> (repeat' first
    | (with_reducible exact State.Kept.refl _)
    | (with_reducible refine State.Kept.trans ?_ (State.nvRecord_kept ..))
    | (with_reducible refine State.Kept.trans ?_ (State.onDev_kept ..))
    | (with_reducible refine State.Kept.trans ?_ (State.Kept.foldl ?_ _))
    | intro _
    | (with_reducible refine State.Kept.trans ?_ (by assumption)))
seal State.replay

theorem State.bs04_kept (s : State) (alt : Nat) (late : Bool) : s.Kept (State.bs04 s alt late).1 := by
  unfold State.bs04
  try dsimp only
  repeat'
    first
    | (with_reducible exact State.Kept.refl _)
    | (with_reducible refine State.Kept.trans ?_ (State.replay_kept ..))
    | (with_reducible refine State.Kept.trans ?_ (State.modBlock_kept ..))
    | (with_reducible refine State.Kept.trans ?_ (State.onDev_kept ..))
    | split
seal State.bs04

theorem State.bs05Chan_kept (s : State) (ch : Nat) (o : Sys2Proof.ChanObs) (late : Bool) : s.Kept (State.bs05Chan s ch o late) := by
  unfold State.bs05Chan
  try dsimp only
  repeat'
    first
    | (with_reducible refine State.Kept.ite (fun _ => ?_) (fun _ => ?_))
    | (with_reducible exact State.Kept.refl _)
    | (with_reducible refine State.Kept.trans ?_ (State.saveIds_kept ..))
    | (with_reducible refine State.Kept.trans ?_ (State.modBlock_kept ..))
    | (with_reducible refine State.Kept.trans ?_ (State.onDev_kept ..))
seal State.bs05Chan

theorem State.safeOut_kept (s : State) : s.Kept (State.safeOut s) := by
  unfold State.safeOut
  try dsimp only
  repeat'
    first
    | (with_reducible refine State.Kept.ite (fun _ => ?_) (fun _ => ?_))
    | (with_reducible exact State.Kept.refl _)
    | (with_reducible refine State.Kept.trans ?_ (State.onDev_kept ..))
    | (with_reducible refine State.Kept.trans ?_ (State.Kept.foldl ?_ _))
    | intro _
seal State.safeOut

theorem State.needPond_kept (x : State × StepRes) : x.1.Kept (State.needPond x).1 := by
  unfold State.needPond
  exact State.Kept.ite1 (fun _ => State.onDev_kept ..) (fun _ => State.onDev_kept ..)
seal State.needPond

theorem State.bs05_kept (s : State) (obs : Sys2Proof.StartObs) (late : Bool) : s.Kept (State.bs05 s obs late).1 := by
  unfold State.bs05
  dsimp only
  refine State.Kept.trans ?_ (State.needPond_kept _)
  exact State.Kept.trans (State.safeOut_kept s) (State.Kept.foldl (fun u ch => State.bs05Chan_kept ..) _)
seal State.bs05

theorem State.bs06_kept (s : State) (obs : Sys2Proof.StartObs) (late : Bool) : s.Kept (State.bs06 s obs late).1 := by
  unfold State.bs06
  dsimp only
  refine State.Kept.trans ?_ (State.needPond_kept _)
  refine State.Kept.foldl (fun u ch => ?_) _
  refine State.Kept.ite (fun _ => ?_) (fun _ => State.onDev_kept ..)
  exact State.Kept.ite (fun _ => State.Kept.trans (State.onDev_kept u _) (State.modBlock_kept ..))
    (fun _ => State.Kept.trans (State.onDev_kept u _) (State.modBlock_kept ..))
seal State.bs06

theorem State.spareStart_kept (s : State) (g : Nat) : s.Kept (State.spareStart s g) := by
  unfold State.spareStart
  try dsimp only
  repeat'
    first
    | (with_reducible refine State.Kept.ite (fun _ => ?_) (fun _ => ?_))
    | (with_reducible exact State.Kept.refl _)
    | (with_reducible refine State.Kept.trans ?_ (State.onDev_kept ..))
seal State.spareStart

theorem State.bs07_kept (s : State) (obs : Sys2Proof.StartObs) (late : Bool) : s.Kept (State.bs07 s obs late).1 := by
  unfold State.bs07
  try dsimp only
  repeat'
    first
    | (with_reducible exact State.Kept.refl _)
    | (with_reducible refine State.Kept.trans ?_ (State.spareStart_kept ..))
    | (with_reducible refine State.Kept.trans ?_ (State.modBlock_kept ..))
    | (with_reducible refine State.Kept.trans ?_ (State.onDev_kept ..))
    | (with_reducible refine State.Kept.trans ?_ (State.Kept.foldl ?_ _))
    | intro _
    | split
seal State.bs07

theorem State.bs09_kept (s : State) (obs : Sys2Proof.StartObs) (late : Bool) : s.Kept (State.bs09 s obs late).1 := by
  unfold State.bs09
  dsimp only
  refine State.Kept.trans ?_ (State.needPond_kept _)
  refine State.Kept.trans ?_ (State.onDev_kept ..)
  refine State.Kept.foldl (fun u q => ?_) _
  refine State.Kept.ite (fun _ => State.onDev_kept ..) (fun _ => ?_)
  refine State.Kept.trans ?_ (State.onDev_kept ..)
  exact State.Kept.ite (fun _ => State.Kept.trans (State.onDev_kept ..) (State.modBlock_kept ..)) (fun _ => State.onDev_kept ..)
seal State.bs09

theorem State.bs10_kept (s : State) (obs : Sys2Proof.StartObs) (late : Bool) : s.Kept (State.bs10 s obs late).1 := by
  unfold State.bs10
  dsimp only
  refine State.Kept.trans ?_ (State.needPond_kept _)
  refine State.Kept.trans ?_ (State.Kept.foldl (fun u k => State.modCore_kept ..) _)
  refine State.Kept.trans ?_ (State.Kept.foldl (fun u k => State.sharedPort_kept ..) _)
  refine State.Kept.trans ?_ (State.Kept.foldl (fun u k => State.retireCore_kept ..) _)
  exact State.Kept.ite (fun _ => State.modBlock_kept ..) (fun _ => State.Kept.refl s)
seal State.bs10

theorem State.bs11_kept (s : State) (late : Bool) : s.Kept (State.bs11 s late).1 := by
  unfold State.bs11
  try dsimp only
  repeat'
    first
    | (with_reducible exact State.Kept.refl _)
    | (with_reducible refine State.Kept.trans ?_ (State.startCore_kept ..))
    | (with_reducible refine State.Kept.trans ?_ (State.modCore_kept ..))
    | (with_reducible refine State.Kept.trans ?_ (State.onDev_kept ..))
    | (with_reducible refine State.Kept.trans ?_ (State.Kept.foldl ?_ _))
    | intro _
    | split
seal State.bs11

theorem State.deviceUp_kept (s : State) : s.Kept (State.deviceUp s) := by
  unfold State.deviceUp
  try dsimp only
  repeat'
    first
    | (with_reducible exact State.Kept.refl _)
    | (with_reducible refine State.Kept.trans ?_ (State.onDev_kept ..))
seal State.deviceUp

theorem State.bs12_kept (s : State) (late : Bool) : s.Kept (State.bs12 s late).1 := by
  unfold State.bs12
  try dsimp only
  repeat'
    first
    | (with_reducible refine State.Kept.ite (fun _ => ?_) (fun _ => ?_))
    | (with_reducible exact State.Kept.refl _)
    | (with_reducible refine State.Kept.trans ?_ (State.deviceUp_kept ..))
    | (with_reducible refine State.Kept.trans ?_ (State.saveDram_kept ..))
    | (with_reducible refine State.Kept.trans ?_ (State.modBlock_kept ..))
    | (with_reducible refine State.Kept.trans ?_ (State.onDev_kept ..))
seal State.bs12

theorem State.endUnfelted_kept (s : State) : s.Kept (State.endUnfelted s) := by
  unfold State.endUnfelted
  try dsimp only
  repeat'
    first
    | (with_reducible exact State.Kept.refl _)
    | (with_reducible refine State.Kept.trans ?_ (State.deviceUp_kept ..))
    | (with_reducible refine State.Kept.trans ?_ (State.modBlock_kept ..))
seal State.endUnfelted

theorem State.bootDo_kept (s : State) (k : Nat) (obs : Sys2Proof.StartObs) (late : Bool) (alt : Nat) : s.Kept (State.bootDo s k obs late alt).1 := by
  unfold State.bootDo
  try dsimp only
  repeat'
    first
    | (with_reducible exact State.Kept.refl _)
    | (with_reducible refine State.Kept.trans ?_ (State.bs12_kept ..))
    | (with_reducible refine State.Kept.trans ?_ (State.bs11_kept ..))
    | (with_reducible refine State.Kept.trans ?_ (State.bs10_kept ..))
    | (with_reducible refine State.Kept.trans ?_ (State.bs09_kept ..))
    | (with_reducible refine State.Kept.trans ?_ (State.bs07_kept ..))
    | (with_reducible refine State.Kept.trans ?_ (State.bs06_kept ..))
    | (with_reducible refine State.Kept.trans ?_ (State.bs05_kept ..))
    | (with_reducible refine State.Kept.trans ?_ (State.bs04_kept ..))
    | (with_reducible refine State.Kept.trans ?_ (State.startCore_kept ..))
    | (with_reducible refine State.Kept.trans ?_ (State.onDev_kept ..))
    | split
seal State.bootDo

theorem State.bootRun_kept (obs : Sys2Proof.StartObs) (late : Nat) (alt : Nat) (a3 : Nat) (a4 : State) : a4.Kept (State.bootRun obs late alt a3 a4) := by
  fun_induction State.bootRun obs late alt a3 a4 <;> (repeat' first
    | (with_reducible exact State.Kept.refl _)
    | (with_reducible refine State.Kept.trans ?_ (State.bootDo_kept ..))
    | (with_reducible refine State.Kept.trans ?_ (State.endUnfelted_kept ..))
    | (with_reducible refine State.Kept.trans ?_ (State.stepEnd_kept ..))
    | (with_reducible refine State.Kept.trans ?_ (State.stepBegin_kept ..))
    | (with_reducible refine State.Kept.trans ?_ (State.onDev_kept ..))
    | (with_reducible refine State.Kept.trans ?_ (by assumption)))
seal State.bootRun

/-! ### SecEvents -/

theorem State.keyDone_kept (s : State) (st : Nat) : s.Kept (State.keyDone s st) := by
  unfold State.keyDone
  try dsimp only
  repeat'
    first
    | (with_reducible exact State.Kept.refl _)
    | (with_reducible refine State.Kept.trans ?_ (State.onDev_kept ..))
seal State.keyDone

/-! ### AmendEvents -/

theorem State.slotCommand_kept (s : State) (slot : Nat) : s.Kept (State.slotCommand s slot) := by
  unfold State.slotCommand
  try dsimp only
  repeat'
    first
    | (with_reducible exact State.Kept.refl _)
    | (with_reducible refine State.Kept.trans ?_ (State.onDev_kept ..))
seal State.slotCommand

theorem State.logAmend_kept (s : State) (pa : Nat) (amd : List Byte) (commit : List Byte) : s.Kept (State.logAmend s pa amd commit) := by
  unfold State.logAmend
  try dsimp only
  repeat'
    first
    | (with_reducible exact State.Kept.refl _)
    | (with_reducible refine State.Kept.trans ?_ (State.nvRecord_kept ..))
    | (with_reducible refine State.Kept.trans ?_ (State.Kept.foldl ?_ _))
    | intro _
seal State.logAmend

theorem State.moveCluster_kept (s : State) (c : Nat) (frm : Nat) (dest : Nat) : ∀ t, State.moveCluster s c frm dest = some t → s.Kept t := by
  unfold State.moveCluster
  intro t h
  split at h
  · cases h
  rw [Option.map_eq_some_iff] at h
  obtain ⟨u, hu, rfl⟩ := h
  dsimp only
  refine State.Kept.trans (State.evacuate_kept _ _ _ _ hu) ?_
  refine State.Kept.trans ?_ (State.Kept.foldl (fun v i => ?_) _)
  · refine State.Kept.trans ?_ (State.onDev_kept ..)
    exact State.Kept.trans (State.onDev_kept u _) (State.domMove_kept ..)
  split
  · exact State.Kept.refl v
  · exact State.Kept.refl v
  · refine State.Kept.ite (fun _ => ?_) (fun _ => State.Kept.refl v)
    refine State.Kept.trans (State.bareCore_kept v (8 * c + i)) ?_
    exact State.Kept.trans (State.Kept.trans (State.onDev_kept ..) (State.setCore_kept ..)) (State.startCore_kept ..)
seal State.moveCluster

theorem State.dmaAbort_kept (c : Nat) (a1 : Nat) (a2 : State) : a2.Kept (State.dmaAbort c a1 a2) := by
  fun_induction State.dmaAbort c a1 a2 <;> (repeat' first
    | (with_reducible exact State.Kept.refl _)
    | (with_reducible refine State.Kept.trans ?_ (State.dmaFinish_kept ..))
    | (with_reducible refine State.Kept.trans ?_ (State.readNote_kept ..))
    | (with_reducible refine State.Kept.trans ?_ (State.onDev_kept ..))
    | (with_reducible refine State.Kept.trans ?_ (by assumption)))
seal State.dmaAbort

/-! ### Eth -/

theorem State.ringDeliver_kept (s : State) (p : Nat) (r : Nat) (rule : Option Nat) (h : EthHead) (data : List Byte) (ts : Word) : s.Kept (State.ringDeliver s p r rule h data ts) := by
  unfold State.ringDeliver
  try dsimp only
  repeat'
    first
    | (with_reducible exact State.Kept.refl _)
    | (with_reducible refine State.Kept.trans ?_ (State.readNote_kept ..))
    | (with_reducible refine State.Kept.trans ?_ (State.agentWrite_kept ..))
    | (with_reducible refine State.Kept.trans ?_ (State.onDev_kept ..))
    | split
seal State.ringDeliver

/-! ### PepEvents -/

theorem State.sqHandle_kept (f : Nat) (q : Nat) (a2 : Nat) (a3 : State) : a3.Kept (State.sqHandle f q a2 a3) := by
  induction a2 generalizing a3 with
  | zero => exact State.Kept.refl a3
  | succ n ih =>
    unfold State.sqHandle
    dsimp only
    split
    · exact State.Kept.refl a3
    · have hd : ∀ (g : Dev → Dev) (u : State), u.Kept (State.sqHandle f q n (u.onDev g)) :=
        fun g u => State.Kept.trans (State.onDev_kept u g) (ih _)
      refine State.Kept.ite (fun _ => State.Kept.ite (fun _ => hd _ _) (fun _ => State.Kept.refl _)) (fun _ => ?_)
      have ha := State.agentWrite_kept a3 (a3.dev.fnReq f) (((a3.dev.qp f q).cw 0).toNat / 64 * 64 % 2 ^ 52 + 64 * (a3.dev.qp f q).jtail)
      refine State.Kept.ite (fun _ => State.Kept.ite (fun _ => State.Kept.ite (fun _ => ?_) (fun _ => ?_)) (fun _ => State.Kept.refl _)) (fun _ => ?_)
      · exact State.Kept.trans (ha _ _ _) (hd _ _)
      · exact ha _ _ _
      · exact State.Kept.trans (ha _ _ _) (hd _ _)
seal State.sqHandle

theorem State.batchEnd_kept (s : State) (f : Nat) (q : Nat) : s.Kept (State.batchEnd s f q) := by
  unfold State.batchEnd
  try dsimp only
  repeat'
    first
    | (with_reducible refine State.Kept.ite (fun _ => ?_) (fun _ => ?_))
    | (with_reducible exact State.Kept.refl _)
    | (with_reducible refine State.Kept.trans ?_ (State.agentWrite_kept ..))
    | (with_reducible refine State.Kept.trans ?_ (State.onDev_kept ..))
seal State.batchEnd

theorem State.sqRun_kept (s : State) (f : Nat) (q : Nat) : s.Kept (State.sqRun s f q) := by
  unfold State.sqRun
  try dsimp only
  repeat'
    first
    | (with_reducible exact State.Kept.refl _)
    | (with_reducible refine State.Kept.trans ?_ (State.batchEnd_kept ..))
    | (with_reducible refine State.Kept.trans ?_ (State.sqHandle_kept ..))
    | (with_reducible refine State.Kept.trans ?_ (State.onDev_kept ..))
seal State.sqRun

theorem State.cqCopy_kept (f : Nat) (q : Nat) (a2 : Nat) (a3 : State) : a3.Kept (State.cqCopy f q a2 a3) := by
  fun_induction State.cqCopy f q a2 a3 <;> (repeat' first
    | (with_reducible exact State.Kept.refl _)
    | (with_reducible refine State.Kept.trans ?_ (State.readNote_kept ..))
    | (with_reducible refine State.Kept.trans ?_ (State.onDev_kept ..))
    | (with_reducible refine State.Kept.trans ?_ (by assumption)))
seal State.cqCopy

theorem State.cqRun_kept (s : State) (f : Nat) (q : Nat) : s.Kept (State.cqRun s f q) := by
  unfold State.cqRun
  try dsimp only
  repeat'
    first
    | (with_reducible refine State.Kept.ite (fun _ => ?_) (fun _ => ?_))
    | (with_reducible exact State.Kept.refl _)
    | (with_reducible refine State.Kept.trans ?_ (State.cqCopy_kept ..))
    | (with_reducible refine State.Kept.trans ?_ (State.agentWrite_kept ..))
    | (with_reducible refine State.Kept.trans ?_ (State.onDev_kept ..))
seal State.cqRun

theorem State.fnRun_kept (s : State) (f : Nat) : s.Kept (State.fnRun s f) := by
  unfold State.fnRun
  try dsimp only
  repeat'
    first
    | (with_reducible refine State.Kept.ite (fun _ => ?_) (fun _ => ?_))
    | (with_reducible exact State.Kept.refl _)
    | (with_reducible refine State.Kept.trans ?_ (State.cqRun_kept ..))
    | (with_reducible refine State.Kept.trans ?_ (State.sqRun_kept ..))
    | (with_reducible refine State.Kept.trans ?_ (State.onDev_kept ..))
    | (with_reducible refine State.Kept.trans ?_ (State.Kept.foldl ?_ _))
    | intro _
seal State.fnRun

theorem State.readDone_kept (s : State) (r : PRead) (st : Nat) (data : List Byte) : s.Kept (State.readDone s r st data) := by
  unfold State.readDone
  try dsimp only
  repeat'
    first
    | (with_reducible exact State.Kept.refl _)
    | (with_reducible refine State.Kept.trans ?_ (State.sqRun_kept ..))
    | (with_reducible refine State.Kept.trans ?_ (State.onDev_kept ..))
    | split
seal State.readDone

theorem State.cfgChanged_kept (s : State) (was : Dev) : s.Kept (State.cfgChanged s was) := by
  unfold State.cfgChanged
  try dsimp only
  repeat'
    first
    | (with_reducible exact State.Kept.refl _)
    | (with_reducible refine State.Kept.trans ?_ (State.fnRun_kept ..))
    | (with_reducible refine State.Kept.trans ?_ (State.onDev_kept ..))
    | (with_reducible refine State.Kept.trans ?_ (State.Kept.foldl ?_ _))
    | intro _
seal State.cfgChanged

/-! ### HostEvents -/

theorem State.bar0Read_kept (s : State) (f : Nat) (o : Nat) : s.Kept (State.bar0Read s f o).2 := by
  unfold State.bar0Read
  try dsimp only
  repeat'
    first
    | (with_reducible refine State.Kept.ite2 (fun _ => ?_) (fun _ => ?_))
    | (with_reducible exact State.Kept.refl _)
    | (with_reducible refine State.Kept.trans ?_ (State.regRead_kept ..))
seal State.bar0Read

theorem State.qctlWrite_kept (s : State) (f : Nat) (q : Nat) (o : Nat) (size : Nat) (v : Word) : s.Kept (State.qctlWrite s f q o size v) := by
  unfold State.qctlWrite
  try dsimp only
  repeat'
    first
    | (with_reducible refine State.Kept.ite (fun _ => ?_) (fun _ => ?_))
    | (with_reducible exact State.Kept.refl _)
    | (with_reducible refine State.Kept.trans ?_ (State.cqRun_kept ..))
    | (with_reducible refine State.Kept.trans ?_ (State.sqRun_kept ..))
    | (with_reducible refine State.Kept.trans ?_ (State.onDev_kept ..))
seal State.qctlWrite

theorem State.sqtdbWrite_kept (s : State) (f : Nat) (q : Nat) (tail : Nat) : s.Kept (State.sqtdbWrite s f q tail) := by
  unfold State.sqtdbWrite
  try dsimp only
  repeat'
    first
    | (with_reducible refine State.Kept.ite (fun _ => ?_) (fun _ => ?_))
    | (with_reducible exact State.Kept.refl _)
    | (with_reducible refine State.Kept.trans ?_ (State.sqRun_kept ..))
    | (with_reducible refine State.Kept.trans ?_ (State.onDev_kept ..))
seal State.sqtdbWrite

theorem State.cqhdbWrite_kept (s : State) (f : Nat) (q : Nat) (head : Nat) : s.Kept (State.cqhdbWrite s f q head) := by
  unfold State.cqhdbWrite
  try dsimp only
  repeat'
    first
    | (with_reducible refine State.Kept.ite (fun _ => ?_) (fun _ => ?_))
    | (with_reducible exact State.Kept.refl _)
    | (with_reducible refine State.Kept.trans ?_ (State.cqRun_kept ..))
    | (with_reducible refine State.Kept.trans ?_ (State.sqRun_kept ..))
    | (with_reducible refine State.Kept.trans ?_ (State.onDev_kept ..))
seal State.cqhdbWrite

theorem State.bar0Write_kept (s : State) (f : Nat) (o : Nat) (size : Nat) (v : Word) : s.Kept (State.bar0Write s f o size v) := by
  unfold State.bar0Write
  try dsimp only
  repeat'
    first
    | (with_reducible refine State.Kept.ite (fun _ => ?_) (fun _ => ?_))
    | (with_reducible exact State.Kept.refl _)
    | (with_reducible refine State.Kept.trans ?_ (State.cqhdbWrite_kept ..))
    | (with_reducible refine State.Kept.trans ?_ (State.sqtdbWrite_kept ..))
    | (with_reducible refine State.Kept.trans ?_ (State.qctlWrite_kept ..))
    | (with_reducible refine State.Kept.trans ?_ (State.devReset_kept ..))
    | (with_reducible refine State.Kept.trans ?_ (State.regWrite_kept ..))
    | (with_reducible refine State.Kept.trans ?_ (State.nvRecord_kept ..))
    | (with_reducible refine State.Kept.trans ?_ (State.onDev_kept ..))
seal State.bar0Write

theorem State.hostAns_kept (s : State) (a : HostAns) : s.Kept (State.hostAns s a) := by
  unfold State.hostAns
  try dsimp only
  repeat'
    first
    | (with_reducible exact State.Kept.refl _)
    | (with_reducible refine State.Kept.trans ?_ (State.onDev_kept ..))
seal State.hostAns

theorem State.bar0_kept (s : State) (f : Nat) (o : Nat) (size : Nat) (wr : Bool) (v : Word) : s.Kept (State.bar0 s f o size wr v) := by
  unfold State.bar0
  try dsimp only
  repeat'
    first
    | (with_reducible refine State.Kept.ite (fun _ => ?_) (fun _ => ?_))
    | (with_reducible exact State.Kept.refl _)
    | (with_reducible refine State.Kept.trans ?_ (State.hostAns_kept ..))
    | (with_reducible refine State.Kept.trans ?_ (State.bar0Write_kept ..))
    | (with_reducible refine State.Kept.trans ?_ (State.bar0Read_kept ..))
    | (with_reducible refine State.Kept.trans ?_ (State.onDev_kept ..))
seal State.bar0

/-! ### WeirEvents -/

theorem State.respond_kept (s : State) (pk : Sys2Proof.Pkt) (port : Option Nat) (status : Nat) (detail : Nat) (late : Nat) (data : List Byte) : s.Kept (State.respond s pk port status detail late data) := by
  unfold State.respond
  try dsimp only
  repeat'
    first
    | (with_reducible refine State.Kept.ite (fun _ => ?_) (fun _ => ?_))
    | (with_reducible exact State.Kept.refl _)
    | (with_reducible refine State.Kept.trans ?_ (State.onDev_kept ..))
seal State.respond

theorem State.performIn_kept (s : State) (r : InReq) : s.Kept (State.performIn s r) := by
  unfold State.performIn
  try dsimp only
  repeat'
    first
    | (with_reducible refine State.Kept.ite (fun _ => ?_) (fun _ => ?_))
    | (with_reducible exact State.Kept.refl _)
    | (with_reducible refine State.Kept.trans ?_ (State.respond_kept ..))
    | (with_reducible refine State.Kept.trans ?_ (State.readNote_kept ..))
    | (with_reducible refine State.Kept.trans ?_ (State.agentWrite_kept ..))
seal State.performIn

theorem State.drainIn_kept (s : State) (g : Nat) : s.Kept (State.drainIn s g) := by
  unfold State.drainIn
  try dsimp only
  repeat'
    first
    | (with_reducible exact State.Kept.refl _)
    | (with_reducible refine State.Kept.trans ?_ (State.performIn_kept ..))
    | (with_reducible refine State.Kept.trans ?_ (State.onDev_kept ..))
    | (with_reducible refine State.Kept.trans ?_ (State.Kept.foldl ?_ _))
    | intro _
seal State.drainIn

theorem State.enqueueIn_kept (s : State) (g : Nat) (n : Nat) (r : InReq) (stall : Bool) : s.Kept (State.enqueueIn s g n r stall) := by
  unfold State.enqueueIn
  try dsimp only
  repeat'
    first
    | (with_reducible refine State.Kept.ite (fun _ => ?_) (fun _ => ?_))
    | (with_reducible exact State.Kept.refl _)
    | (with_reducible refine State.Kept.trans ?_ (State.drainIn_kept ..))
    | (with_reducible refine State.Kept.trans ?_ (State.respond_kept ..))
    | (with_reducible refine State.Kept.trans ?_ (State.onDev_kept ..))
seal State.enqueueIn

theorem State.checkExport_kept (s : State) (pk : Sys2Proof.Pkt) (port : Option Nat) (f : Nat → Nat → State → State) (hf : ∀ a b, ∀ u : State, u.Kept (f a b u)) : s.Kept (State.checkExport s pk port f) := by
  unfold State.checkExport
  try dsimp only
  repeat'
    first
    | (with_reducible exact State.Kept.refl _)
    | (with_reducible refine State.Kept.trans ?_ (hf _ _ _))
    | (with_reducible refine State.Kept.trans ?_ (State.respond_kept ..))
    | split
seal State.checkExport

theorem State.serveReq_kept (s : State) (pk : Sys2Proof.Pkt) (port : Option Nat) (f : State → State) (hf : ∀ u : State, u.Kept (f u)) : s.Kept (State.serveReq s pk port f) := by
  unfold State.serveReq
  try dsimp only
  repeat'
    first
    | (with_reducible refine State.Kept.ite (fun _ => ?_) (fun _ => ?_))
    | (with_reducible exact State.Kept.refl _)
    | (with_reducible refine State.Kept.trans ?_ (hf _))
    | (with_reducible refine State.Kept.trans ?_ (State.respond_kept ..))
    | (with_reducible refine State.Kept.trans ?_ (State.onDev_kept ..))
seal State.serveReq

theorem State.arrive_kept (s : State) (port : Nat) (pk : Sys2Proof.Pkt) (want : Dev → Bool) (f : State → State) (hf : ∀ u : State, u.Kept (f u)) : s.Kept (State.arrive s port pk want f) := by
  unfold State.arrive
  try dsimp only
  repeat'
    first
    | (with_reducible refine State.Kept.ite (fun _ => ?_) (fun _ => ?_))
    | (with_reducible exact State.Kept.refl _)
    | (with_reducible refine State.Kept.trans ?_ (hf _))
    | (with_reducible refine State.Kept.trans ?_ (State.onDev_kept ..))
seal State.arrive

theorem State.weirWrite_kept (s : State) (pk : Sys2Proof.Pkt) (port : Option Nat) (stall : Bool) : s.Kept (State.weirWrite s pk port stall) := by
  unfold State.weirWrite
  try dsimp only
  repeat'
    first
    | (with_reducible exact State.Kept.refl _)
    | (with_reducible refine State.Kept.trans ?_ (State.serveReq_kept (hf := ?_) ..))
    | (with_reducible refine State.Kept.trans ?_ (State.checkExport_kept (hf := ?_) ..))
    | (with_reducible refine State.Kept.trans ?_ (State.enqueueIn_kept ..))
    | intro _
seal State.weirWrite

theorem State.fireTdb_kept (s : State) (e : TdbEnt) : s.Kept (State.fireTdb s e).2 := by
  unfold State.fireTdb
  try dsimp only
  repeat'
    first
    | (with_reducible exact State.Kept.refl _)
    | (with_reducible refine State.Kept.trans ?_ (State.agentWrite_kept ..))
    | (with_reducible refine State.Kept.trans ?_ (State.onDev_kept ..))
    | split
seal State.fireTdb

theorem State.timed_kept (s : State) (pk : Sys2Proof.Pkt) (port : Option Nat) (e : TdbEnt) : s.Kept (State.timed s pk port e) := by
  unfold State.timed
  try dsimp only
  repeat'
    first
    | (with_reducible refine State.Kept.ite (fun _ => ?_) (fun _ => ?_))
    | (with_reducible exact State.Kept.refl _)
    | (with_reducible refine State.Kept.trans ?_ (State.fireTdb_kept ..))
    | (with_reducible refine State.Kept.trans ?_ (State.respond_kept ..))
    | (with_reducible refine State.Kept.trans ?_ (State.onDev_kept ..))
seal State.timed

theorem State.weirTwrite_kept (s : State) (pk : Sys2Proof.Pkt) (port : Option Nat) : s.Kept (State.weirTwrite s pk port) := by
  unfold State.weirTwrite
  try dsimp only
  repeat'
    first
    | (with_reducible refine State.Kept.ite (fun _ => ?_) (fun _ => ?_))
    | (with_reducible exact State.Kept.refl _)
    | (with_reducible refine State.Kept.trans ?_ (State.timed_kept ..))
    | (with_reducible refine State.Kept.trans ?_ (State.serveReq_kept (hf := ?_) ..))
    | (with_reducible refine State.Kept.trans ?_ (State.checkExport_kept (hf := ?_) ..))
    | (with_reducible refine State.Kept.trans ?_ (State.respond_kept ..))
    | (with_reducible refine State.Kept.trans ?_ (State.onDev_kept ..))
    | intro _
seal State.weirTwrite

theorem State.weirBell_kept (s : State) (pk : Sys2Proof.Pkt) (port : Option Nat) : s.Kept (State.weirBell s pk port) := by
  unfold State.weirBell
  try dsimp only
  repeat'
    first
    | (with_reducible exact State.Kept.refl _)
    | (with_reducible assumption)
    | (with_reducible refine State.Kept.trans ?_ (State.serveReq_kept (hf := ?_) ..))
    | (with_reducible refine State.Kept.trans ?_ (State.respond_kept ..))
    | (simp only [State.kept_mk] <;> first | refine State.Kept.both ?_ | intro _ | refine ⟨?_, fun _ => ?_⟩)
    | intro _
seal State.weirBell

theorem State.weirTbell_kept (s : State) (pk : Sys2Proof.Pkt) (port : Option Nat) : s.Kept (State.weirTbell s pk port) := by
  unfold State.weirTbell
  try dsimp only
  repeat'
    first
    | (with_reducible refine State.Kept.ite (fun _ => ?_) (fun _ => ?_))
    | (with_reducible exact State.Kept.refl _)
    | (with_reducible refine State.Kept.trans ?_ (State.timed_kept ..))
    | (with_reducible refine State.Kept.trans ?_ (State.serveReq_kept (hf := ?_) ..))
    | (with_reducible refine State.Kept.trans ?_ (State.respond_kept ..))
    | intro _
seal State.weirTbell

theorem State.sendReq_kept (s : State) (pk : Sys2Proof.Pkt) : s.Kept (State.sendReq s pk) := by
  unfold State.sendReq
  try dsimp only
  repeat'
    first
    | (with_reducible exact State.Kept.refl _)
    | (with_reducible refine State.Kept.trans ?_ (State.weirTbell_kept ..))
    | (with_reducible refine State.Kept.trans ?_ (State.weirBell_kept ..))
    | (with_reducible refine State.Kept.trans ?_ (State.weirTwrite_kept ..))
    | (with_reducible refine State.Kept.trans ?_ (State.weirWrite_kept ..))
    | (with_reducible refine State.Kept.trans ?_ (State.onDev_kept ..))
    | split
seal State.sendReq

theorem State.sendStaged_kept (s : State) (slot : Nat) (mark : Option Word) : s.Kept (State.sendStaged s slot mark) := by
  unfold State.sendStaged
  try dsimp only
  repeat'
    first
    | (with_reducible exact State.Kept.refl _)
    | (with_reducible assumption)
    | (with_reducible refine State.Kept.trans ?_ (State.sendReq_kept ..))
    | (with_reducible refine State.Kept.trans ?_ (State.onDev_kept ..))
    | (simp only [State.kept_mk] <;> first | refine State.Kept.both ?_ | intro _ | refine ⟨?_, fun _ => ?_⟩)
    | split
seal State.sendStaged

theorem State.sendSlot_kept (s : State) (slot : Nat) (mark : Option Word) : s.Kept (State.sendSlot s slot mark) := by
  unfold State.sendSlot
  try dsimp only
  repeat'
    first
    | (with_reducible refine State.Kept.ite (fun _ => ?_) (fun _ => ?_))
    | (with_reducible exact State.Kept.refl _)
    | (with_reducible refine State.Kept.trans ?_ (State.sendStaged_kept ..))
    | (with_reducible refine State.Kept.trans ?_ (State.onDev_kept ..))
seal State.sendSlot

theorem State.reservedPkt_kept (s : State) (port : Nat) (pk : Sys2Proof.Pkt) : s.Kept (State.reservedPkt s port pk) := by
  unfold State.reservedPkt
  try dsimp only
  repeat'
    first
    | (with_reducible exact State.Kept.refl _)
    | (with_reducible refine State.Kept.trans ?_ (State.arrive_kept (hf := ?_) ..))
    | (with_reducible refine State.Kept.trans ?_ (State.respond_kept ..))
    | intro _
seal State.reservedPkt

theorem State.mgmtIn_kept (s : State) (port : Nat) (pk : Sys2Proof.Pkt) (f : Dev → Dev) : s.Kept (State.mgmtIn s port pk f) := by
  unfold State.mgmtIn
  try dsimp only
  repeat'
    first
    | (with_reducible refine State.Kept.ite (fun _ => ?_) (fun _ => ?_))
    | (with_reducible exact State.Kept.refl _)
    | (with_reducible refine State.Kept.trans ?_ (State.respond_kept ..))
    | (with_reducible refine State.Kept.trans ?_ (State.onDev_kept ..))
seal State.mgmtIn

theorem State.asyncIn_kept (s : State) (port : Nat) (pk : Sys2Proof.Pkt) (sub : Nat) (f : Dev → Dev) : s.Kept (State.asyncIn s port pk sub f) := by
  unfold State.asyncIn
  try dsimp only
  repeat'
    first
    | (with_reducible exact State.Kept.refl _)
    | (with_reducible refine State.Kept.trans ?_ (State.arrive_kept (hf := ?_) ..))
    | (with_reducible refine State.Kept.trans ?_ (State.onDev_kept ..))
    | intro _
seal State.asyncIn

/-! ### MarkEvents -/

theorem State.snapshot_kept (s : State) (angle : Word) : s.Kept (State.snapshot s angle) := by
  unfold State.snapshot
  try dsimp only
  repeat'
    first
    | (with_reducible assumption)
    | (with_reducible refine State.Kept.trans ?_ (State.onDev_kept ..))
    | (simp only [State.kept_mk] <;> first | refine State.Kept.both ?_ | intro _ | refine ⟨?_, fun _ => ?_⟩)
seal State.snapshot

theorem State.markAct_kept (s : State) (ctl : Nat) (angle : Word) : s.Kept (State.markAct s ctl angle) := by
  unfold State.markAct
  try dsimp only
  repeat'
    first
    | (with_reducible exact State.Kept.refl _)
    | (with_reducible assumption)
    | (with_reducible refine State.Kept.trans ?_ (State.snapshot_kept ..))
    | (with_reducible refine State.Kept.trans ?_ (State.sendSlot_kept ..))
    | (with_reducible refine State.Kept.trans ?_ (State.wakeSource_kept ..))
    | (with_reducible refine State.Kept.trans ?_ (State.dmaStart_kept ..))
    | (with_reducible refine State.Kept.trans ?_ (State.onDev_kept ..))
    | (simp only [State.kept_mk] <;> first | refine State.Kept.both ?_ | intro _ | refine ⟨?_, fun _ => ?_⟩)
    | split
seal State.markAct

theorem State.markApply_kept (s : State) (p : Nat → Bool) : s.Kept (State.markApply s p) := by
  unfold State.markApply
  try dsimp only
  repeat'
    first
    | (with_reducible exact State.Kept.refl _)
    | (with_reducible refine State.Kept.trans ?_ (State.regWriteNow_kept ..))
    | (with_reducible refine State.Kept.trans ?_ (State.onDev_kept ..))
    | (with_reducible refine State.Kept.trans ?_ (State.Kept.foldl ?_ _))
    | intro _
seal State.markApply

/-! ### NocEvents -/

theorem State.flitRequest_kept (s : State) (stop : Nat) (f : NocFlit) (wr : Bool) : s.Kept (State.flitRequest s stop f wr) := by
  unfold State.flitRequest
  try dsimp only
  repeat'
    first
    | (with_reducible exact State.Kept.refl _)
    | (with_reducible assumption)
    | (with_reducible refine State.Kept.trans ?_ (State.Kept.snd (State.gate_kept ..) (by assumption)))
    | (with_reducible refine State.Kept.trans ?_ (State.onDev_kept ..))
    | (with_reducible refine State.Kept.trans ?_ (State.onMem_kept _ _ ?_))
    | simp only [MemSt.wf_mk, MemSt.wf_setDir, MemSt.wf_setL2, MemSt.wf_setPoison, MemSt.wf_clean, MemSt.wf_markDirty, MemSt.wf_setPois, MemSt.wf_dropL2, MemSt.wf_setLlcVal, MemSt.wf_freeWb, MemSt.wf_setInput, MemSt.wf_llcDrop, MemSt.wf_poisonNewest, MemSt.wf_keepLlc, MemSt.wf_poisonIn]
    | intro _
    | split
seal State.flitRequest

theorem State.deliver_kept (s : State) (stop : Nat) (f : NocFlit) : s.Kept (State.deliver s stop f) := by
  unfold State.deliver
  try dsimp only
  repeat'
    first
    | (with_reducible exact State.Kept.refl _)
    | (with_reducible refine State.Kept.trans ?_ (State.flitRequest_kept ..))
    | (with_reducible refine State.Kept.trans ?_ (State.onDev_kept ..))
    | split
seal State.deliver

theorem State.offerAgain_kept (s : State) (stop : Nat) : s.Kept (State.offerAgain s stop) := by
  unfold State.offerAgain
  try dsimp only
  repeat'
    first
    | (with_reducible exact State.Kept.refl _)
    | (with_reducible refine State.Kept.trans ?_ (State.flitRequest_kept ..))
    | (with_reducible refine State.Kept.trans ?_ (State.onDev_kept ..))
    | (with_reducible refine State.Kept.trans ?_ (State.Kept.foldl ?_ _))
    | intro _
seal State.offerAgain

theorem State.flitAccept_kept (s : State) (stop : Nat) (port : Nat) (f : NocFlit) : s.Kept (State.flitAccept s stop port f) := by
  unfold State.flitAccept
  try dsimp only
  repeat'
    first
    | (with_reducible refine State.Kept.ite (fun _ => ?_) (fun _ => ?_))
    | (with_reducible exact State.Kept.refl _)
    | (with_reducible refine State.Kept.trans ?_ (State.offerAgain_kept ..))
    | (with_reducible refine State.Kept.trans ?_ (State.deliver_kept ..))
    | (with_reducible refine State.Kept.trans ?_ (State.onDev_kept ..))
seal State.flitAccept

end Sys2Proof.Machine
end

