-- ==== Sys2Proof/Tests/Slice0.lean ====
section
/-! SUPPORT. The model's own tests: ill-formed commands that WellFormed refuses, worked examples of the spec, and for each statement states that
meet its hypotheses. -/

open Sys2Proof Sys2Proof.Machine

namespace Sys2Proof.Tests

set_option Elab.async false

/-- Channel 0 with one rank, in use. -/
def chan0 : Chan := { Chan.off with ranks := 1, pos := [0] }

/-- The device up, felted by some records, with some registers. -/
def dev (cfg : List Rec) (regs : Tab Word) : Dev :=
  { Dev.off Part.model 1 with
    regs := regs, chans := [(0, chan0)]
    felt := { Felt.none with cfg := cfg, felted := true, iver := 1 }, pwr := { PwrSt.off with mode := .up, step := 12 } }

def st (cfg : List Rec) (regs : Tab Word) : State := { State.reset with dev := dev cfg regs }

/-- Pond 0, secure, owns cluster 0 and the lowest 64 KiB of DRAM. -/
def cfg0 : List Rec := [.pond 0 1 0 1 0 0 0, .dramRange 0 1 0 0x10000]

/-- Application core 0 running at offset 0, after a change. -/
def app (c : Core → Core) : State := { st cfg0 [] with cores := [(0, c (Core.reset true false 0 .running))] }

/-- The service core of quadrant 0 running at offset 0 of its boot ROM, after a change. -/
def svc (c : Core → Core) : State := { st cfg0 [] with cores := [(256, c (Core.reset true true 0 .running))] }

def h16 (k : Nat) : Hd := { core := k, cond := 0, short := true }
def h32 (k : Nat) : Hd := { core := k, cond := 0, short := false }
/-- The head of a 32-bit instruction before which an L1 instruction TLB entry leaves. -/
def hGone : Hd := { core := 0, cond := 0, short := false, gone := [(1, 0)] }

/-! ### How the hypotheses of the statements are met -/

theorem unpoisoned {m : MemSt} (h : m.poison = [] ∧ m.dir = [] ∧ m.pois = [] ∧ m.wb = []) (line : Nat) : m.Unpoisoned line :=
  ⟨by simp [h.1], by simp [h.2.1], by simp [h.2.2.1], by simp [h.2.2.2]⟩

def blank (m : MemSt) : Bool := decide (m.poison = [] ∧ m.dir = [] ∧ m.pois = [] ∧ m.wb = [])

def openB (s : State) (rq : Req) (pa n : Nat) : Bool :=
  decide (prange pa = .dram) && s.dev.dramAdmit rq pa n && !(s.dev.domLost (s.dev.targetDom pa) rq) &&
  decide (s.dev.domState (5 + quadOf (s.dev.home pa)) = 0) && decide (s.dev.domState (s.dev.targetDom pa) = 0)

theorem open_of {s : State} {rq : Req} {pa n : Nat} (h : openB s rq pa n = true) : s.Open rq pa n := by
  simp only [openB, Bool.and_eq_true, decide_eq_true_eq, Bool.not_eq_true'] at h
  exact ⟨h.1.1.1.1, h.1.1.1.2, h.1.1.2, h.1.2, h.2⟩

def reachB (s : State) (k pa n : Nat) : Bool := openB s (s.dev.coreReq k (s.core k).secure) pa n && blank s.mem

theorem reach_of {s : State} {k pa n : Nat} (h : reachB s k pa n = true) : s.Reaches k pa n := by
  simp only [reachB, blank, Bool.and_eq_true, decide_eq_true_eq] at h
  exact ⟨open_of h.1, unpoisoned h.2 _⟩

def isGiven {α : Type} : Except Trap α → Bool
  | .ok _ => true
  | _ => false

/-- What a check gives. -/
def res {α : Type} : Except Trap α → Option α
  | .ok v => some v
  | _ => none

theorem res_eq {α : Type} {m : Except Trap α} {v : α} (h : res m = some v) : m = .ok v := by
  cases m with
  | ok w => exact congrArg _ (Option.some.inj h)
  | error t => cases h

def operandB (s : State) (k seg : Nat) (off : Word) (n : Nat) (kind : AKind) (al : Option Nat) (atomic : Bool) : Bool :=
  match res ((s.core k).resolve seg off n kind al atomic) with
  | some (lin, ps) => !(s.watch k lin n kind) && ps.all (fun p => reachB s k p.pa p.len)
  | none => false

theorem operand_of {s : State} {k seg : Nat} {off : Word} {n : Nat} {kind : AKind} {al : Option Nat} {atomic : Bool}
    (h : operandB s k seg off n kind al atomic = true) : s.Operand k seg off n kind al atomic := by
  simp only [operandB] at h
  split at h
  · next lin ps e =>
      simp only [Bool.and_eq_true, List.all_eq_true, Bool.not_eq_true'] at h
      exact ⟨lin, ps, res_eq e, h.1, fun p hp => reach_of (h.2 p hp)⟩
  · cases h

def loadB (s : State) (k seg : Nat) (off : Word) (n : Nat) : Bool := operandB s k seg off n .read none false
def storeB (s : State) (k seg : Nat) (off : Word) (n : Nat) : Bool := operandB s k seg off n .write none false
theorem load_of {s : State} {k seg : Nat} {off : Word} {n : Nat} (h : loadB s k seg off n = true) : s.CanLoad k seg off n := operand_of h
theorem store_of {s : State} {k seg : Nat} {off : Word} {n : Nat} (h : storeB s k seg off n = true) : s.CanStore k seg off n := operand_of h

/-- The parcels of an instruction that no page boundary cuts. -/
def fetchB (s : State) (k : Nat) (pc : Word) (len : Nat) : Bool :=
  match res ((s.core k).segCheck 0 pc len .fetch) with
  | some lin => decide (lin % 4096 ≠ 4094) && (match res ((s.core k).xlate 0 len .fetch false 0 lin) with
    | some (p, _) => isSvc k || (reachB s k p 2 && reachB s k (p + 2) 2)
    | none => false)
  | none => false

theorem fetch_of {s : State} {k : Nat} {pc : Word} {len : Nat} (h : fetchB s k pc len = true) : s.Fetchable k pc len := by
  simp only [fetchB] at h
  split at h
  · next lin e =>
      simp only [Bool.and_eq_true, decide_eq_true_eq] at h
      obtain ⟨hl, h⟩ := h
      split at h
      · next p a e2 =>
          refine ⟨lin, p, a, p + 2, res_eq e, res_eq e2, ?_, ?_⟩
          · rw [if_neg (fun x => hl x.2)]
          · simp only [Bool.or_eq_true, Bool.and_eq_true] at h
            exact h.imp id (fun x => ⟨reach_of x.1, fun _ => reach_of x.2⟩)
      · cases h
  · cases h

/-- The same where a page boundary cuts the instruction: its second parcel is translated by itself. -/
def cutB (s : State) (k : Nat) (pc : Word) : Bool :=
  match res ((s.core k).segCheck 0 pc 4 .fetch) with
  | some lin => decide (lin % 4096 = 4094) && (match res ((s.core k).xlate 0 4 .fetch false 0 lin), res ((s.core k).xlate 0 4 .fetch false 1 ((lin + 2) % 2 ^ 64)) with
    | some (p, _), some (q, _) => reachB s k p 2 && reachB s k q 2
    | _, _ => false)
  | none => false

theorem cut_of {s : State} {k : Nat} {pc : Word} (h : cutB s k pc = true) : s.Fetchable k pc 4 := by
  simp only [cutB] at h
  split at h
  · next lin e =>
      simp only [Bool.and_eq_true, decide_eq_true_eq] at h
      obtain ⟨hl, h⟩ := h
      split at h
      · next p a q b e1 e2 =>
          rw [Bool.and_eq_true] at h
          refine ⟨lin, p, a, q, res_eq e, res_eq e1, ?_, Or.inr ⟨reach_of h.1, fun _ => reach_of h.2⟩⟩
          rw [if_pos ⟨rfl, hl⟩]
          exact ⟨b, res_eq e2⟩
      · cases h
  · cases h

def calmB (s : State) : Bool := s.mem.dir.all (fun e => decide (e.2.busy = none ∧ e.2.waitq = [])) && decide (s.mem.inq = [])
theorem calm_of {s : State} (h : calmB s = true) : s.Calm := by
  simp only [calmB, Bool.and_eq_true, List.all_eq_true, decide_eq_true_eq] at h
  exact ⟨h.1, h.2⟩

def beginsB (s : State) (h : Hd) (abs : Bool) : Bool :=
  s.runs h.core && !(!(isSvc h.core) && s.dev.domLost (clusterDom (h.core / 8)) (s.dev.coreReq h.core (s.core h.core).secure)) && !(s.breakAt h.core (s.pc h)) &&
  (decide ((s.core h.core).pfx = none) || abs) && decide ((s.core h.core).wpHit = none) && calmB s && fetchB s h.core (s.pc h) h.len && h.spelt && condLegal h

theorem begins_of {s : State} {h : Hd} {abs : Bool} (e : beginsB s h abs = true) : s.Begins h abs := by
  simp only [beginsB, Bool.and_eq_true, decide_eq_true_eq, Bool.not_eq_true', Bool.or_eq_true] at e
  obtain ⟨⟨⟨⟨⟨⟨⟨⟨h1, h2⟩, h3⟩, h4⟩, h5⟩, h6⟩, h7⟩, h8⟩, h9⟩ := e
  exact ⟨h1, h2, h3, h4, h5, calm_of h6, fetch_of h7, h8, h9⟩

def execB (s : State) (h : Hd) (abs : Bool) : Bool :=
  beginsB s h abs && decide ((s.core h.core).lops = []) && condHolds h.cond (s.core h.core).bank.fl

theorem executes_of {s : State} {h : Hd} {abs : Bool} (e : execB s h abs = true) : s.Executes h abs := by
  simp only [execB, Bool.and_eq_true, decide_eq_true_eq] at e
  exact { toBegins := begins_of e.1.1, lops := e.1.2, cond := e.2 }

def areaB (s : State) (k : Nat) (secure : Bool) (area : Nat) : Bool :=
  decide (prange area = .dram) && s.dev.dramAdmit (s.dev.coreReq k secure) area 192 && blank s.mem

theorem area_of {s : State} {k : Nat} {secure : Bool} {area : Nat} (h : areaB s k secure area = true) : s.Area k secure area := by
  simp only [areaB, blank, Bool.and_eq_true, decide_eq_true_eq] at h
  exact ⟨h.1.1, h.1.2, fun l _ => unpoisoned h.2 l⟩

def drainedB (s : State) : Bool := s.cores.all (fun e => decide (e.2.sbuf = []))
theorem drained_of {s : State} (h : drainedB s = true) : s.Drained := by
  intro e he
  simpa using List.all_eq_true.mp h e he

theorem copied_of {c : Core} (h : decide (c.itlb = [] ∧ c.dtlb = [] ∧ c.tlb = []) = true) : c.TlbCopied := by
  simp only [decide_eq_true_eq] at h
  exact ⟨by simp [h.1, h.2.1], by simp [h.2.2]⟩

def shapedB (c : Core) : Bool :=
  decide ((c.b0.ls.length = 4 ∧ c.b0.le.length = 4 ∧ c.b0.lc.length = 4) ∧ (c.b1.ls.length = 4 ∧ c.b1.le.length = 4 ∧ c.b1.lc.length = 4) ∧
    c.q.length = 8 ∧ (c.nrm.segs.length = 8 ∧ c.sec.segs.length = 8) ∧ c.lops = [])
theorem shaped_of {c : Core} (h : shapedB c = true) : c.Shaped := by
  simp only [shapedB, decide_eq_true_eq] at h
  exact ⟨h.1, h.2.1, h.2.2.1, h.2.2.2.1, by simp [h.2.2.2.2]⟩

/-- An access that is answered. -/
def isOk {α : Type} : M α → Bool
  | .ok _ _ => true
  | _ => false

theorem ok_of {α : Type} {m : M α} (h : isOk m = true) : ∃ v s, m = .ok v s := by
  cases m <;> first | exact ⟨_, _, rfl⟩ | cases h

/-- The state in which an access leaves the device, and what it answers. -/
def after {α : Type} (m : M α) (s : State) : State :=
  match m with
  | .ok _ u => u
  | _ => s
def value (m : M Nat) : Nat :=
  match m with
  | .ok v _ => v
  | _ => 0

/-- The state once an instruction of a core has been fetched. -/
def fetched (s : State) (h : Hd) : State := after (s.fetch h.core (s.pc h) h.len) s

theorem fetches_of {s : State} {h : Hd} (e : (match s.fetch h.core (s.pc h) h.len with
    | .ok () _ => true
    | _ => false) = true) : s.Fetches h (fetched s h) := by
  simp only [State.Fetches, fetched]
  generalize s.fetch h.core (s.pc h) h.len = m at e ⊢
  cases m <;> first | rfl | cases e

/-! ### Instructions of a core that executes them -/

theorem app16_executes : (app id).Executes (h16 0) false := executes_of (by decide +kernel)
theorem app32_executes : (app id).Executes (h32 0) false := executes_of (by decide +kernel)
theorem svc16_executes : (svc id).Executes (h16 256) false := executes_of (by decide +kernel)
theorem svc32_executes : (svc id).Executes (h32 256) false := executes_of (by decide +kernel)
/-- With a mode-8 operand, which a PFX may precede. -/
theorem app32_executesAbs : (app id).Executes (h32 0) true := executes_of (by decide +kernel)
theorem pfx_executesAbs : (app (fun c => { c with pfx := some 3 })).Executes (h32 0) true := executes_of (by decide +kernel)
/-- With no TLB entry to leave, and with one. -/
theorem app_shed : app id = (app id).shed (h32 0) ∧ app id = (app id).shed (h16 0) ∧ ((app id).shed hGone).Executes hGone false :=
  ⟨rfl, rfl, executes_of (by decide +kernel)⟩

theorem witness_StepRunsFront : State.reset.pending = [] := rfl

theorem witness_ImmediateInstructionsComplete :
    (app id).Executes (h16 0) false ∧ (app id).Executes (h32 0) false ∧ immLegal (h16 0) 0x7F = true ∧ immLegal (h32 0) 0xFFFF = true ∧ (h16 0).short = true ∧
    (h32 0).short = false := ⟨app16_executes, app32_executes, by decide, by decide, rfl, rfl⟩

theorem witness_ShiftAndBitInstructionsComplete :
    (63#7).toNat < 64 ∧ (63#16).toNat < 64 ∧ (app id).dev.part.b0 = true ∧ (0xFC0#16).toNat < 4096 ∧
    (0xFC0#16).toNat % 64 + (0xFC0#16).toNat / 64 + 1 ≤ 64 := by decide +kernel

theorem witness_RegisterInstructionsComplete : 1 ≤ (8#4).toNat ∧ (8#4).toNat ≤ 8 ∧ 1 ≤ (1#4).toNat := by decide +kernel

theorem witness_ResultsAndFlagsOfArithmetic : (63 < 64) ∧ (0 < 63) ∧ immLegal (h32 0) 0x8000 = true ∧ immLegal (h16 0) 0x7F = true := by decide +kernel

/-- A doubleword at X + 0, and at the absolute offset 64. -/
def ldX : MemOp := { size := 3, mode := 0, disp := 0, seg := 0, ov := false }
def ldAbs : MemOp := { size := 3, mode := 8, disp := 64, seg := 1, ov := true }
def eaX : Ea := ((app id).core 0).memEa (h16 0) ldX
def eaAbs : Ea := ((app id).core 0).memEa (h32 0) ldAbs

theorem witness_MemoryReadInstructionsComplete :
    memLegal ldX true = true ∧ memLegal ldX false = true ∧ memLegal ldAbs false = true ∧ (!(h32 0).short && decide (ldAbs.mode = 8#4)) = true ∧
    (app id).CanLoad 0 eaX.seg eaX.off 8 ∧ (app id).CanLoad 0 eaAbs.seg eaAbs.off 8 ∧ (app id).CanLoad 0 1 0xFFFF 1 :=
  ⟨by decide, by decide, by decide, by decide, load_of (by decide +kernel), load_of (by decide +kernel), load_of (by decide +kernel)⟩

theorem witness_MemoryWriteInstructionsComplete :
    (app id).CanStore 0 eaAbs.seg eaAbs.off 8 ∧ (app id).CanStore 0 eaX.seg eaX.off 8 ∧ (app id).CanModify 0 eaAbs.seg eaAbs.off 8 none false ∧
    ldX.size = 3#2 ∧ ¬ (4 ≤ ldX.mode.toNat ∧ ldX.mode.toNat ≤ 7) :=
  ⟨store_of (by decide +kernel), store_of (by decide +kernel), operand_of (by decide +kernel), rfl, by decide⟩

def cell (w : Nat) (pa : Nat) : Piece := { pa := pa, attr := w, len := 8 }

/-- Core 0 with a store of eight bytes waiting. -/
def store8 : Store := { pa := 0x40, bytes := bytesLE 8 5, wb := true, lag := none, old := [], grp := 0, must := false }
def appStore : State := app (fun c => { c with sbuf := [store8] })

theorem witness_StoresAreBufferedThenVisible :
    ((cell 1 0xFFF8).attr ≤ 1 ∧ (app id).Reaches 0 0xFFF8 8 ∧ (((app (fun c => { c with sbuf := List.replicate 63 store8 })).core 0).sbuf.filter (fun x => decide (x.lag = none))).length < 64) ∧
    (appStore.core 0).sbuf[0]? = some store8 ∧ store8.lag = none ∧ 0 < store8.bytes.length ∧
    store8.pa / 64 = (store8.pa + store8.bytes.length - 1) / 64 ∧ prange store8.pa = .dram ∧ appStore.mem.wf = true ∧ appStore.Calm ∧
    appStore.mem.Unpoisoned (store8.pa / 64) ∧ (∀ o ∈ (appStore.core 0).sbuf.take 0, o.lag = none → o.hits store8.pa store8.bytes.length = false) :=
  ⟨⟨by decide, reach_of (by decide +kernel), by decide +kernel⟩, by decide +kernel, by decide +kernel, by decide +kernel, by decide +kernel, by decide +kernel,
    by decide +kernel, calm_of (by decide +kernel), unpoisoned (by decide +kernel) _, by decide +kernel⟩

theorem witness_LoadsReadMemory :
    (cell 1 0xFFF8).attr ≤ 1 ∧ ((app id).core 0).early = [] ∧ (app id).Calm ∧ (app id).Reaches 0 0xFFF8 8 ∧ (∀ e ∈ (app id).cores, ∀ x ∈ e.2.sbuf, x.lag = none) :=
  ⟨by decide, by decide +kernel, calm_of (by decide +kernel), reach_of (by decide +kernel), by decide +kernel⟩

theorem witness_FetchChangesNoValue : (app id).Calm ∧ (app id).Fetches (h16 0) (fetched (app id) (h16 0)) :=
  ⟨calm_of (by decide +kernel), fetches_of (by decide +kernel)⟩

theorem witness_CompletionChangesOnlyLoopState :
    (let s1 := fetched (app id) (h16 0)
     (s1.core 0).stepHalt = false ∧ (s1.core 0).run = .running ∧ (s1.core 0).inB1 = false) ∧
    ((fetched (app (fun c => { c with inB1 := true })) (h16 0)).core 0).inB1 = true := by decide +kernel

theorem witness_DivisionsAreHandedOff :
    (app id).CanLoad 0 eaAbs.seg eaAbs.off 8 ∧ bit ((app id).core 0).lopstat 63 = false ∧ isSvc 0 = false ∧ sextM 1 8 ≠ 0 ∧ zextM 1 ≠ 0 ∧ sextM 0 8 = 0 ∧ zextM 0 = 0 :=
  ⟨load_of (by decide +kernel), by decide +kernel, by decide +kernel, by decide +kernel, by decide +kernel, by decide +kernel, by decide +kernel⟩

theorem witness_FloatingPointCompletes :
    2 ≤ ldAbs.size.toNat ∧ fpTrap 0 (fpAdd f64 0 false (unpack f64 0) (unpack f64 0)).2 = 0 ∧ (∀ z, unpack f64 0 ≠ .nan z) ∧
    (∃ z, unpack f64 0x7FF8000000000000 = .nan z) ∧ fpTrap 0 (fpAdd f64 0 false (unpack f64 0) (unpack f64 0x7FF8000000000000)).2 = 0 ∧
    fpTrap 0 (fpMul f64 0 false (unpack f64 0) (unpack f64 0)).2 = 0 ∧
    fpTrap 0 (fpDiv f64 0 false (unpack f64 0) (unpack f64 0)).2 = 0 ∧ fpTrap 0 (fpCmp (unpack f64 0) (unpack f64 0)).2 = 0 ∧
    fpTrap 0 (fpToInt 0 (fpArg f64 0)).2 = 0 ∧ fpTrap 0 (fpSqrt f64 0 false (fpArg f64 0)).2 = 0 ∧ fpTrap 0 (fpConv f32 0 false (fpArg f64 0)).2 = 0 ∧
    fpTrap 0 (fpOfInt f64 0 0).2 = 0 :=
  ⟨by decide +kernel, by decide +kernel, (fun _ h => nomatch h), ⟨_, rfl⟩, by decide +kernel, by decide +kernel, by decide +kernel, by decide +kernel,
    by decide +kernel, by decide +kernel, by decide +kernel, by decide +kernel⟩

def lop : LongOp := { LongOp.new 1 tA 0 with a := some 7 }
def appLop : State := app (fun c => { c with lops := [lop] })

theorem witness_LongOperationsWriteWhatTheyOwn :
    lop.block = none ∧ lop.fail = none ∧ ((app id).core 0).run = .running ∧ bit ((app id).core 0).lopstat 63 = false ∧
    bit ((svc id).core 256).lopstat 63 = true ∧ ((svc id).core 256).lops = [] ∧ (appLop.core 0).lops = [lop] ∧ (appLop.core 0).run = .running ∧
    appLop.Begins (h16 0) false ∧ (h16 0).cond = 0 ∧ (∀ o ∈ (appLop.core 0).lops, o.block = none ∧ o.fail = none) :=
  ⟨by decide +kernel, by decide +kernel, by decide +kernel, by decide +kernel, by decide +kernel, by decide +kernel, by decide +kernel, by decide +kernel,
    begins_of (by decide +kernel), rfl, by decide +kernel⟩

/-- Core 0 with its stack at 0x200, and the same after a change. -/
def appSp' (f : Core → Core) : State := app (fun c => f { c with b0 := { c.b0 with sp := 0x200 } })
def appSp : State := appSp' id

theorem frame_stored (n : Nat) (h : ((List.range n).all (fun i => storeB appSp 0 2 ((appSp.core 0).bank.sp - word (8 * (i + 1))) 8)) = true) :
    ∀ i, i < n → appSp.CanStore 0 2 ((appSp.core 0).bank.sp - word (8 * (i + 1))) 8 :=
  fun i hi => store_of (List.all_eq_true.mp h i (List.mem_range.mpr hi))

theorem frame_loaded (n : Nat) (h : ((List.range n).all (fun i => loadB appSp 0 2 ((appSp.core 0).bank.sp + 16 + word (8 * i)) 8)) = true) :
    ∀ i, i < n → appSp.CanLoad 0 2 ((appSp.core 0).bank.sp + 16 + word (8 * i)) 8 :=
  fun i hi => load_of (List.all_eq_true.mp h i (List.mem_range.mpr hi))

theorem witness_BranchesCallsAndThePrefixComplete :
    appSp.Executes (h32 0) false ∧ appSp.Executes (h16 0) false ∧ (appSp.core 0).Shaped ∧ (appSp.core 0).TlbCopied ∧ maskStream 0 = false ∧ maskStream 64 = true ∧
    isSvc 0 = false ∧ (appSp.dev.cslu 0).strNeed = false ∧
    (∀ i, i < 2 + maskLen 127 → appSp.CanStore 0 2 ((appSp.core 0).bank.sp - word (8 * (i + 1))) 8) ∧
    (127#8).toNat < 128 ∧ (3#4).toNat ≤ 3 ∧ appSp.CanLoad 0 1 0 8 ∧ appSp.CanLoad 0 2 0x200 8 ∧ appSp.CanLoad 0 2 0x208 8 ∧ (127 : Nat).testBit 7 = false ∧
    (∀ i, i < maskLen 127 → appSp.CanLoad 0 2 ((appSp.core 0).bank.sp + 16 + word (8 * i)) 8) ∧
    (appSp.core 0).run = .running ∧ (appSp.core 0).stepHalt = false ∧ (h32 0).cond = 0 ∧ ldAbs.mode = 8#4 :=
  ⟨executes_of (by decide +kernel), executes_of (by decide +kernel), shaped_of (by decide +kernel), copied_of (by decide +kernel), by decide +kernel, by decide +kernel,
    by decide +kernel, by decide +kernel, frame_stored _ (by decide +kernel), by decide, by decide, load_of (by decide +kernel), load_of (by decide +kernel),
    load_of (by decide +kernel), by decide, frame_loaded _ (by decide +kernel), by decide +kernel, by decide +kernel, rfl, rfl⟩

/-- Core 0 with A = 3 and four open loops. -/
def loopFull : State := app (fun c => { c with b0 := { c.b0 with a := 3 }.setLdepth 4 })

theorem witness_LoopsOpenAndClose :
    loopFull.Executes (h32 0) false ∧ (loopFull.core 0).bank.ldepth = 4 ∧ (loopFull.core 0).bank.a ≠ 0 ∧ ((app id).core 0).bank.ldepth = 0 ∧ ((app id).core 0).bank.a = 0 ∧
    2 ≤ (0xFFFF#16).toNat % 256 ∧ (0xFFFF#16).toNat / 256 ≠ 0 ∧ 2 ≤ (0x00FF#16).toNat % 256 ∧ (0x00FF#16).toNat / 256 = 0 ∧ ((app id).core 0).TlbCopied ∧
    (app id).Fetchable 0 (((app id).core 0).bank.pc + word (2 * (2#16).toNat)) 2 ∧ (app id).Fetchable 0 (((app id).core 0).bank.pc + word (2 * (0x00FF#16).toNat)) 4 ∧
    (loopFull.core 0).bank.le.getD 3 0 = 0 ∧ (loopFull.core 0).bank.lc.getD 3 0 ≠ 1 ∧
    ({ (loopFull.core 0).bank with lc := [1, 1, 1, 1] } : Bank).lc.getD 3 0 = 1 ∧ (loopFull.core 0).bank.le.getD 3 0 ≠ 4 :=
  ⟨executes_of (by decide +kernel), by decide +kernel, by decide +kernel, by decide +kernel, by decide +kernel, by decide, by decide, by decide, by decide,
    copied_of (by decide +kernel), fetch_of (by decide +kernel), fetch_of (by decide +kernel), by decide +kernel, by decide +kernel, by decide +kernel, by decide +kernel⟩

/-- An instruction that a page boundary cuts can be fetched. -/
theorem cut_fetchable : (app id).Fetchable 0 0xFFE 4 := cut_of (by decide +kernel)

theorem witness_StackInstructionsComplete :
    appSp.Executes (h16 0) false ∧ appSp.CanStore 0 2 ((appSp.core 0).bank.sp - 8) 8 ∧ appSp.CanLoad 0 2 (appSp.core 0).bank.sp 8 :=
  ⟨executes_of (by decide +kernel), store_of (by decide +kernel), load_of (by decide +kernel)⟩

/-- Memory with a saved lower half of supervisor mode at 0x1000: its header's kind and world, and its MS. -/
def areas : Tab Byte := [(0x100F, 0x60), (0x10A0, 0x25)]

/-- Core 0 with that area at CSH and a secure free list that begins at 0x2000 and counts 8. -/
def appMem (c : Core → Core) : State :=
  let s := app (fun k => c { k with sec := { k.sec with csh := 0x1000, cfl := 0x2000, cfc := 8 } })
  { s with mem := { s.mem with img := areas } }

/-- Core 0 running in B1, with B0 stopped at 0x20. -/
def appB1 : State := app (fun c => { c with inB1 := true, b0 := { c.b0 with pc := 0x20 } })

theorem witness_ExceptionInstructionsComplete :
    (appMem id).Executes (h16 0) false ∧ ((appMem id).core 0).mode = 1 ∧ ((appMem id).core 0).cw.csh ≠ 0 ∧ areaAddr ((appMem id).core 0).cw.csh = 0x1000 ∧
    (appMem id).Area 0 true 0x1000 ∧ (appMem id).Drained ∧ fld (areaHdr ((appMem id).mem.bytes 0x1000 192)) 63 62 = 1 ∧
    msAdmits ((appMem id).core 0) (isSvc 0) ((areaWords ((appMem id).mem.bytes 0x1000 192)).getD 18 0) = true ∧ appB1.Executes (h16 0) false ∧ (appB1.core 0).inB1 = true :=
  ⟨executes_of (by decide +kernel), by decide +kernel, by decide +kernel, by decide +kernel, area_of (by decide +kernel), drained_of (by decide +kernel),
    by decide +kernel, by decide +kernel, executes_of (by decide +kernel), by decide +kernel⟩

/-- An area is saved: the state after it. -/
def savedIn : SaveRes → Option State
  | .saved _ _ s => some s
  | _ => none

theorem saved_of {r : SaveRes} (h : (savedIn r).isSome = true) : ∃ area link s, r = .saved area link s ∧ savedIn r = some s := by
  cases r <;> first | exact ⟨_, _, _, rfl, rfl⟩ | cases h

/-- The save of the lower half for a trap that enters supervisor mode. -/
def entrySave : SaveRes :=
  (appMem id).saveArea 0 true (((appMem id).core 0).wr true).csh (lowerHdr true false) (lowerWords ((appMem id).core 0).bank 0x10
    ((appMem id).core 0).bank.ms (esynOf ((appMem id).core 0) (Trap.plain 16)) (Trap.plain 16).eaddr)

theorem witness_ExceptionEntry :
    (appMem id).mem.wf = true ∧ ((appMem id).core 0).run = .running ∧
    (∃ area link s1, entrySave = .saved area link s1 ∧ savedIn entrySave = some s1) ∧
    (∃ ob sb, (((savedIn entrySave).getD (appMem id)).core 0) = { (appMem id).core 0 with opbuf := ob, sbuf := sb }) ∧
    ((appMem id).core 0).bank.ls.length = 4 ∧ ((appMem id).core 0).bank.le.length = 4 ∧ ((appMem id).core 0).bank.lc.length = 4 :=
  ⟨by decide +kernel, by decide +kernel, saved_of (by decide +kernel),
    ⟨(((savedIn entrySave).getD (appMem id)).core 0).opbuf, (((savedIn entrySave).getD (appMem id)).core 0).sbuf, by decide +kernel⟩,
    by decide +kernel, by decide +kernel, by decide +kernel⟩

/-- A drain that lets the core go on, and what it leaves. -/
def drained : DrainRes → Option State
  | .clear s => some s
  | _ => none

theorem clear_of {r : DrainRes} (h : (drained r).isSome = true) : ∃ s, r = .clear s := by
  cases r <;> first | exact ⟨_, rfl⟩ | cases h

/-- X = 0x40; an address in the record store's window, which is no DRAM; a segment that refuses. -/
def appX : State := app (fun c => { c with b0 := { c.b0 with x := 0x40 } })
def appNv : State := app (fun c => { c with b0 := { c.b0 with x := 0x400100000000 } })
def cop : CacheOp := { ov := true, seg := 1, z := 0 }
def noSeg : State := app (fun c => { c with sec := { c.sec with segs := List.replicate 8 { base := 0, lim := 0, rgt := 0 } } })

/-- A posted exchange-window write of core 0 that has not completed. -/
def posted : ExtAcc :=
  { agent := 0, weir := true, pond := 0, secure := true, qos := 0, pa := 0x8000000000000, write := true, size := 8, data := bytesLE 8 0, st := .sent
    status := 0, tag := 0, timed := none, detail := 0, otag := 0, strict := false, host := 0 }

/-- Core 0 while it is outstanding. -/
def appPosted : State := (app id).onDev (fun d => { d with ext := [posted] })

def mac64 : MacOp := { n := 64, bit7 := false, xov := true, xseg := 1, yov := false, yseg := 0 }

theorem mac_loads : ∀ x ∈ macOpds 1 1 64 ((app id).core 0).bank.x ((app id).core 0).bank.y,
    (app id).CanLoad 0 x.seg x.off 8 ∧ ((app id).core 0).opdLin x % 8 = 0 := by
  have h : (macOpds 1 1 64 ((app id).core 0).bank.x ((app id).core 0).bank.y).all (fun x => loadB (app id) 0 x.seg x.off 8 && decide (((app id).core 0).opdLin x % 8 = 0)) = true := by
    decide +kernel
  intro x hx
  have := List.all_eq_true.mp h x hx
  simp only [Bool.and_eq_true, decide_eq_true_eq] at this
  exact ⟨load_of this.1, this.2⟩

theorem witness_FenceCacheAndStreamInstructionsComplete :
    (app id).dev.postedOut 0 = false ∧ appPosted.Executes (h16 0) false ∧ appPosted.dev.postedOut 0 = true ∧ ((app id).core 0).run = .running ∧
    appX.Executes (h32 0) false ∧ cop.z = 0 ∧ cop.ov = true ∧
    (appX.core 0).resolve 1 0x40 1 .read none false = .ok (0x40, [{ pa := 0x40, attr := 0, len := 1 }]) ∧ openB appX (appX.dev.coreReq 0 true) 0x40 1 = true ∧
    (appX.core 0).resolve 1 0x40 1 .write none false = .ok (0x40, [{ pa := 0x40, attr := 0, len := 1 }]) ∧ (appX.core 0).mode ≠ 0 ∧
    appNv.Executes (h32 0) false ∧ (∃ lin p ps, (appNv.core 0).resolve 1 0x400100000000 1 .read none false = .ok (lin, p :: ps) ∧ prange p.pa ≠ .dram) ∧
    ((app id).dev.cslu 0).strNeed = false ∧ isSvc 0 = false ∧ 1 ≤ mac64.n.toNat ∧ mac64.n.toNat ≤ 64 ∧ mac64.bit7 = false ∧ mac64.xov = true ∧ mac64.yseg = 0 ∧
    (∀ x ∈ macOpds 1 1 64 ((app id).core 0).bank.x ((app id).core 0).bank.y, (app id).CanLoad 0 x.seg x.off 8 ∧ ((app id).core 0).opdLin x % 8 = 0) ∧
    fpTrap 0 (macLanes 0 false [(0, 0)] 0 (List.replicate 8 0) 0).2 = 0 ∧ fpTrap 0 (redSum 0 false (List.replicate 8 0)).2 = 0 :=
  ⟨by decide +kernel, executes_of (by decide +kernel), by decide +kernel, by decide +kernel, executes_of (by decide +kernel), rfl, rfl,
    res_eq (by decide +kernel), by decide +kernel, res_eq (by decide +kernel), by decide +kernel, executes_of (by decide +kernel),
    ⟨0x400100000000, { pa := 0x400100000000, attr := 2, len := 1 }, [], res_eq (by decide +kernel), by decide +kernel⟩,
    by decide +kernel, by decide, by decide, by decide, rfl, rfl, rfl, mac_loads, by decide +kernel, by decide +kernel⟩

/-- A prefetch whose checks fail. -/
theorem witness_PrefetchWithoutEffect : noSeg.dev.felt.felted = true ∧ isGiven ((noSeg.core 0).resolve 1 0x40 1 .read none false) = false := by decide +kernel

/-- A context of pond 0 in a state, in slot 0 of cluster 0, with an event waiting or none. -/
def ctxDev (st : Nat) (evs : List QEv) (run : Option Nat) (d : Dev) : Dev :=
  { d with slu := { d.slu with
      ctxs := [(0, { Ctx.free 0 with d := [setBit (setFld 0 63 61 st) 59 true, 0x1000, 0, 0, 0, 0, 0, 0] })]
      evq := if evs = [] then [] else [(0, evs)]
      core := if run = none then [] else [(0, { CoreSlu.off with ctx := run })] } }

def ev0 : QEv := { kind := 5, src := 1, angle := 2, slot := 0 }

/-- Core 0 running the context in slot 0, with CFC = 4. -/
def appCtx (st : Nat) (evs : List QEv) : State :=
  (app (fun c => { c with sec := { c.sec with cfc := 4, cfl := 0x2000 } })).onDev (ctxDev st evs (some 0))

theorem witness_WaitAndSluiceInstructionsComplete :
    (appCtx stRunning []).Executes (h16 0) false ∧ (appCtx stRunning []).Executes (h32 0) false ∧ ((app id).dev.cslu 0).ctx = none ∧ isSvc 0 = false ∧ isSvc 256 = true ∧
    ((svc id).dev.cslu 256).ctx = none ∧ ((appCtx stRunning []).dev.cslu 0).ctx = some 0 ∧ (appCtx stRunning [ev0]).dev.consume 0 ≠ none ∧
    (appCtx stRunning []).dev.consume 0 = none ∧ (appCtx stRunning []).dev.ctxState 0 ≠ stStopped ∧ (appCtx stRunning []).dev.ctxState 0 = stRunning ∧
    4 ≤ (appCtx stRunning []).cfcNow 0 ∧ (0#16).toNat < 16 ∧ (0#16).toNat ≤ (appCtx stRunning []).dev.rf (R.cluPriomax 0) 3 0 ∧ (15#16).toNat < 16 :=
  ⟨executes_of (by decide +kernel), executes_of (by decide +kernel), by decide +kernel, by decide +kernel, by decide +kernel, by decide +kernel, by decide +kernel,
    by decide +kernel, by decide +kernel, by decide +kernel, by decide +kernel, by decide +kernel, by decide, by decide +kernel, by decide⟩

theorem witness_SystemRegisterInstructionsComplete :
    sysReg 0 false false = some (1, true, true) ∧ sysReg 1 false false = some (1, false, true) ∧ ((app id).core 0).mode = 1 ∧
    (∃ need rd, sysReg 0x78 false false = some (need, rd, true) ∧ need ≤ 1) ∧ isStreamReg 0x78 = true ∧ isSegReg 0x40 = true ∧
    (∃ need rd, sysReg 0x57 false false = some (need, rd, true) ∧ need ≤ 1) ∧ isSegReg 0x57 = true ∧ isStreamReg 1 = false ∧ isSegReg 1 = false ∧
    (∃ need rd, sysReg 0x6B false false = some (need, rd, true) ∧ need ≤ 1) ∧ (0x60 ≤ 0x6B ∧ 0x6B < 0x6C) ∧ isStreamReg 0x6B = false ∧ isSegReg 0x6B = false ∧
    (∃ need rd wr, sysReg 0x18 false false = some (need, rd, wr) ∧ need ≤ 1) ∧ ((app id).dev.cslu 0).strNeed = false ∧
    ((app id).core 0).run = .running ∧ ((app id).core 0).cw.segs.length = 8 ∧ ((app id).core 0).q.length = 8 ∧
    ((app id).core 0).bank.ls.length = 4 ∧ ((app id).core 0).bank.le.length = 4 ∧ ((app id).core 0).bank.lc.length = 4 :=
  ⟨by decide +kernel, by decide +kernel, by decide +kernel, ⟨_, _, rfl, by decide⟩, by decide +kernel, by decide +kernel, ⟨_, _, rfl, by decide⟩, by decide +kernel,
    by decide +kernel, by decide +kernel, ⟨_, _, rfl, by decide⟩, by decide, by decide +kernel, by decide +kernel, ⟨_, _, _, rfl, by decide⟩, by decide +kernel, by decide +kernel,
    by decide +kernel, by decide +kernel, by decide +kernel, by decide +kernel, by decide +kernel⟩

/-- Memory with a saved upper half at 0x1000. -/
def upperMem : State :=
  let s := appMem id
  { s with mem := { s.mem with img := [(0x100F, 0xA0)] } }

theorem witness_TranslationAndSaveInstructionsComplete :
    ((app id).core 0).mode ≠ 0 ∧ 0x3FFFFFFFFF8 / 8 * 8 ≤ 0x3FFFFFFFFFF ∧ (app id).Reaches 0 0 8 ∧ ((app id).core 0).guard = false ∧ bit ((app id).core 0).bank.a 0 = false ∧
    (app (fun c => { c with guard := true })).Executes (h32 0) false ∧ bit (1 : Word) 0 = true ∧ bit (1 : Word) 1 = false ∧ bit (2 : Word) 1 = true ∧
    (app id).tlbTargets 0 = [] ∧ ((app id).core 0).tlbOut = none ∧
    (app (fun c => { c with tlbOut := some [] })).Executes (h32 0) false ∧ ((app (fun c => { c with tlbOut := some [] })).core 0).tlbOut = some [] ∧
    (appMem id).Executes (h32 0) false ∧ ((appMem id).dev.cslu 0).strNeed = false ∧ ((appMem id).core 0).cw.cfc ≠ 0 ∧ ((appMem id).core 0).cw.cfl ≠ 0 ∧
    fld ((appMem id).core 0).cw.cfc 15 0 ≠ 3 ∧ (appMem id).Area 0 true (areaAddr ((appMem id).core 0).cw.cfl) ∧
    ((appMem id).core 0).cw.csh ≠ 0 ∧ (appMem id).Area 0 true 0x1000 ∧ (appMem id).Drained ∧ fld (areaHdr ((appMem id).mem.bytes 0x1000 192)) 63 62 = 1 ∧
    upperMem.Executes (h32 0) false ∧ (upperMem.core 0).cw.csh ≠ 0 ∧ upperMem.Area 0 true 0x1000 ∧ upperMem.Drained ∧ fld (areaHdr (upperMem.mem.bytes 0x1000 192)) 63 62 = 2 :=
  ⟨by decide +kernel, by decide, reach_of (by decide +kernel), by decide +kernel, by decide +kernel, executes_of (by decide +kernel), by decide, by decide, by decide,
    by decide +kernel, by decide +kernel, executes_of (by decide +kernel), by decide +kernel, executes_of (by decide +kernel), by decide +kernel, by decide +kernel,
    by decide +kernel, by decide +kernel, area_of (by decide +kernel), by decide +kernel, area_of (by decide +kernel), drained_of (by decide +kernel), by decide +kernel,
    executes_of (by decide +kernel), by decide +kernel, area_of (by decide +kernel), drained_of (by decide +kernel), by decide +kernel⟩

/-- A doubleword atomic at X + 0. -/
def atX : AtomOp := { ord := 3, size := 3, mode := 0, ov := true, seg := 1, d5 := 0 }

theorem witness_AtomicInstructionsComplete :
    atX.mode.toNat ≤ 7 ∧ 2 ≤ atX.size.toNat ∧ atX.ov = true ∧ atX.mode.toNat ≤ 2 ∧ (app id).CanModify 0 1 0 8 (some 1) true :=
  ⟨by decide, by decide, rfl, by decide, operand_of (by decide +kernel)⟩

theorem witness_AtomicsReadAndWriteOnce :
    (app id).Calm ∧ (app id).mem.wf = true ∧ ((app id).core 0).sbuf = [] ∧ ((app id).core 0).run = .running ∧
    ((app id).core 0).resolve 1 0 8 .rmw (some 1) true = .ok (0, [cell 0 0]) ∧ (app id).Reaches 0 0 8 :=
  ⟨calm_of (by decide +kernel), by decide +kernel, by decide +kernel, by decide +kernel, res_eq (by decide +kernel), reach_of (by decide +kernel)⟩

def bop : BlockOp := { dov := true, dseg := 1, sov := true, sseg := 1, bit19 := false, dir := false, size := 3 }
def blk (op : Nat) : LongOp := { LongOp.new 6 (tA + tX + tY + tZN + tV + tCT) 0 with block := some (op, bop) }

/-- Core 0 with a block instruction of some elements outstanding. -/
def appBlk (op : Nat) (n : Word) : State := app (fun c => { c with b0 := { c.b0 with a := n, y := 0x100 }, lops := [blk op] })

theorem witness_BlockInstructionsComplete :
    bop.bit19 = false ∧ bop.dov = true ∧ bop.sov = true ∧ bit ((app id).core 0).lopstat 63 = false ∧ isSvc 0 = false ∧ ((appBlk 0 0).core 0).lops = [blk 0] ∧
    (blk 3).block = some (3, bop) ∧ ((appBlk 0 0).core 0).bank.a = 0 ∧ ((appBlk 0 1).core 0).bank.a ≠ 0 ∧ (appBlk 0 1).Calm ∧ ((appBlk 0 1).core 0).wpHit = none ∧
    ((appBlk 0 1).core 0).TlbCopied ∧ (appBlk 0 1).CanLoad 0 (blkSrc bop) 0 8 ∧ (appBlk 0 1).CanStore 0 (blkDst bop) 0x100 8 ∧ (appBlk 2 1).CanLoad 0 (blkDst bop) 0x100 8 :=
  ⟨rfl, rfl, rfl, by decide +kernel, by decide, by decide +kernel, by decide +kernel, by decide +kernel, by decide +kernel, calm_of (by decide +kernel), by decide +kernel,
    copied_of (by decide +kernel), load_of (by decide +kernel), store_of (by decide +kernel), load_of (by decide +kernel)⟩

/-- Core 0 with a status, its segments open to every mode. -/
def openSegs (w : WorldRegs) : WorldRegs := { w with segs := List.replicate 8 { base := 0, lim := ~~~0, rgt := 0x1F } }
def appMode (ms : Word) : State := app (fun c => { c with b0 := { c.b0 with ms := ms }, nrm := openSegs c.nrm, sec := openSegs c.sec })

theorem witness_SystemCallsByMode :
    ((appMode 0x4).core 0).mode = 0 ∧ ((appMode 0x5).core 0).mode = 1 ∧ ((appMode 0x7).core 0).mode = 3 ∧ (appMode 0x4).Executes (h16 0) false ∧
    (appMode 0x5).Executes (h16 0) false ∧ (appMode 0x7).Executes (h16 0) false :=
  ⟨by decide +kernel, by decide +kernel, by decide +kernel, executes_of (by decide +kernel), executes_of (by decide +kernel), executes_of (by decide +kernel)⟩

/-- Pond 0 normal, and core 0 in supervisor mode of the normal world. -/
def appNormal : State :=
  { appMode 0x1 with dev := { (dev cfg0 []) with felt := { (dev cfg0 []).felt with cfg := [.pond 0 0 0 1 0 0 0, .dramRange 0 1 0 0x10000] } } }

theorem witness_StatusRegisterByModeAndWorld :
    ((appMode 0x4).core 0).mode = 0 ∧ (appMode 0x4).Executes (h32 0) false ∧ (appNormal.core 0).mode ≠ 0 ∧ (appNormal.core 0).secure = false ∧ appNormal.Executes (h32 0) false :=
  ⟨by decide +kernel, executes_of (by decide +kernel), by decide +kernel, by decide +kernel, executes_of (by decide +kernel)⟩

theorem witness_UnnamedRegisterOffsets :
    regAt 0x0FFFF8 = none ∧ (regAt (R.ethCtl 0)).isSome = true ∧ (regAt (R.ethCtl 0)).map (fun r => (app id).dev.present r.1 r.2.1 r.2.2.1) = some false ∧
    (exports (app id).dev.felt.cfg).length ≤ 255 ∧ 134 % 17 ≠ 16 ∧ 0 % 17 ≠ 16 := by decide +kernel

/-- Core 0 with source 5 pending and assigned to it, with a configuration word, and with the status given. -/
def appIrq (cfg ms : Word) : State :=
  (appMode ms).onDev (fun d => { d with regs := Tab.set regReset (Tab.set regReset (Tab.set regReset [] (R.icSrccfg 5) cfg) (R.icPendset 0) 0x20) (R.icMaskset 0) 0, ic := { d.ic with asg := [(5, some 0)] } })

def irqNormal : State := appIrq 0 0x29
def irqFast : State := appIrq 0x30000000000000 0x35
def irqB1 : State := irqFast.modCore 0 (fun c => { c with inB1 := true, b1 := { c.b1 with ms := 0x55 } })
def appMc : State := app (fun c => { c with mcPend := [{ secure := true, seq := 7, addr := 0x40 }] })
def appSs : State := app (fun c => { c with ssPend := true })
def appHalt : State := (app (fun c => { c with haltReq := true })).onDev (fun d => { d with regs := Tab.set regReset [] (R.secDbgen 0) (~~~0) })

theorem witness_CoreEventsAreTaken :
    appLop.atBoundary 0 = true ∧ (∀ o ∈ (appLop.core 0).lops, o.block = none ∧ o.fail = none) ∧
    irqNormal.atBoundary 0 = true ∧ (irqNormal.core 0).mcNext = none ∧ irqNormal.fastNext 0 = none ∧ irqNormal.irqNext 0 = some 5 ∧
    (svc id).atBoundary 256 = true ∧ isSvc 256 = true ∧ isSvc 0 = false ∧
    irqFast.atBoundary 0 = true ∧ (irqFast.core 0).mcNext = none ∧ irqFast.fastNext 0 = some 5 ∧ (irqFast.core 0).inB1 = false ∧
    irqB1.atBoundary 0 = true ∧ (irqB1.core 0).mcNext = none ∧ irqB1.fastNext 0 = some 5 ∧ (irqB1.core 0).inB1 = true ∧
    appMc.atBoundary 0 = true ∧ (appMc.core 0).mcNext = some { secure := true, seq := 7, addr := 0x40 } ∧
    appSs.atBoundary 0 = true ∧ (appSs.core 0).ssPend = true ∧ (appSs.core 0).mcNext = none ∧ appSs.fastNext 0 = none ∧ appSs.irqNext 0 = none ∧
    appHalt.atBoundary 0 = true ∧ (appHalt.core 0).haltReq = true ∧ appHalt.invasive 0 = true := by decide +kernel

def inval : TlbReq := { issuer := 1, form := 2, lin := 0, asid := 0, secure := true, id := 0 }
/-- A request of the debug port for pond 0's secure world. -/
def dbgReq : Req := { pond := 0, secure := true, dev := false, dbg := true }
def appPort : State := appHalt.onDev (fun d => { d with pins := { d.pins with jins := .debug } })
def appTlb : State := app (fun c => { c with tlbWait := [inval] })

theorem witness_CoresAreReachedFromOutside :
    (app id).runs 0 = true ∧ 7 % 8 + 1 ≤ 8 ∧ (app id).Calm ∧ (app id).Reaches 0 7 1 ∧ ((app id).core 0).sbuf = [] ∧ ((app id).core 0).early = [] ∧ isSvc 0 = false ∧
    appPort.dev.pins.jins = .debug ∧ openB appPort dbgReq 0x40 8 = true ∧ appPort.dev.portAdmits 0 true 0x40 true = true ∧ appPort.dev.portAdmits 0 true 0x40 false = true ∧
    (∀ l, appPort.mem.Unpoisoned l) ∧
    ((app id).onDev (fun d => d.setReg (R.cluCorectl 0 0) 0x8000000000000000)).resetDue 0 = true ∧
    (appTlb.core 0).tlbWait = [inval] ∧ (∀ e ∈ appTlb.dev.ext, e.agent = 0 → e.st = .finished) ∧
    (∃ e ∈ (appTlb.onDev (fun d => { d with ext := [posted] })).dev.ext, e.agent = 0 ∧ e.st ≠ .finished) ∧
    ((app (fun c => { c with tlbOut := some [1] })).core 0).tlbOut = some [1] :=
  ⟨by decide +kernel, by decide, calm_of (by decide +kernel), reach_of (by decide +kernel), by decide +kernel, by decide +kernel, by decide, by decide +kernel,
    by decide +kernel, by decide +kernel, by decide +kernel, unpoisoned (by decide +kernel), by decide +kernel, by decide +kernel, by decide +kernel,
    ⟨posted, by decide +kernel⟩, by decide +kernel⟩

/-- Cluster 0 whose CTXCMD has GO and a command on slot 0, which is in a state. -/
def clu (cmd st : Nat) : State :=
  (appMem id).onDev (fun d => (ctxDev st [] none d).setReg (R.cluCtxcmd 0) (setBit (word cmd) 63 true))

/-- Core 0 idle with slot 0 assigned to it; core 0 running slot 0 with a ready context of the same priority in slot 1. -/
def cluAssigned : State := (app (fun c => { c with run := .idle })).onDev (fun d => { ctxDev stReady [] none d with slu := { (ctxDev stReady [] none d).slu with core := [(0, { CoreSlu.off with assigned := some 0 })] } })
def cluSlice : State :=
  (appCtx stRunning []).onDev (fun d => ({ d with slu := { d.slu with ready := [(0, [(1, 0)])] } }).setReg (R.cluSlice 0) 1)
/-- Core 0 idle while its context is to leave: it waits, or another is assigned, with the chain long enough or too short. -/
def leaving (st : Nat) (cfc : Word) : State :=
  ((appCtx st []).modCore 0 (fun c => { c with run := .idle, sec := { c.sec with cfc := cfc } })).onDev (fun d => d.setCslu 0 { d.cslu 0 with assigned := some 1 })

theorem witness_SluiceCommandsComplete_cores :
    ((leaving stWaiting 4).dev.cslu 0).ctx = some 0 ∧ (leaving stWaiting 4).eligible 0 = true ∧ (leaving stWaiting 4).leaveDue 0 0 = true ∧
    cfcOf ((leaving stWaiting 3).core 0) ((leaving stWaiting 3).dev.ctxSecure 0) < 4 ∧ (leaving stWaiting 3).eligible 0 = true ∧
    4 ≤ cfcOf ((leaving stWaiting 4).core 0) ((leaving stWaiting 4).dev.ctxSecure 0) ∧ ((leaving stWaiting 4).core 0).lops = [] ∧
    (leaving stWaiting 4).dev.ctxState 0 ≠ stRunning ∧ (leaving stRunning 4).dev.ctxState 0 = stRunning ∧ (leaving stRunning 4).leaveDue 0 0 = true ∧
    (leaving stRunning 4).eligible 0 = true ∧
    (cluAssigned.dev.cslu 0).assigned = some 0 ∧ cluAssigned.eligible 0 = true ∧ (cluAssigned.dev.cslu 0).ctx = none ∧ (cluAssigned.core 0).run = .idle ∧
    (cluSlice.dev.cslu 0).ctx = some 0 ∧ cluSlice.dev.rf (R.cluSlice 0) 15 0 ≠ 0 ∧ (cluSlice.dev.cslu 0).assigned = none ∧ cluSlice.dev.ctxState 0 = stRunning ∧
    (cluSlice.dev.ready 0).find? (fun e => decide (e.2 = cluSlice.dev.ctxPrio 0) && decide (cluSlice.dev.runner e.1 = none)) = some (1, 0) ∧
    4 ≤ cfcOf (cluSlice.core 0) (cluSlice.dev.ctxSecure 0) := by decide +kernel

/-- A CTXCMD of MOVE to cluster 1, which pond 0 owns beside cluster 0; and to the home of a context that is away from it. -/
def cluMove (st : Nat) : State :=
  (clu (6 + 2 ^ 32) st).onDev (fun d => { d with felt := { d.felt with cfg := [.pond 0 1 0 3 0 0 0, .dramRange 0 1 0 0x10000] } })
def cluBack : State := (cluMove stStopped).onDev (fun d => { d with slu := { d.slu with ctxs := d.slu.ctxs.map (fun e => (e.1, { e.2 with home := 1024 + 1023 })) } })

theorem witness_SluiceCommandsComplete_commands :
    bit ((app id).onDev (fun d => d.setReg (R.cluPlacectl 0) 0x8000000000000000) |>.dev.reg (R.cluPlacectl 0)) 63 = true ∧ (app id).dev.heldSlots 0 = [] ∧
    bit ((clu 1 stFree).dev.reg (R.cluCtxcmd 0)) 63 = true ∧ fld ((clu 1 stFree).dev.reg (R.cluCtxcmd 0)) 3 0 = 1 ∧ (clu 1 stFree).dev.selHolder 0 = 0 ∧
    (clu 1 stFree).dev.ctxState 0 = stFree ∧ (clu 1 stFree).Open ((clu 1 stFree).createReq 0 0) (areaAddr ((clu 1 stFree).dev.cd 0 1)) 192 ∧
    (∀ l ∈ linesOf (areaAddr ((clu 1 stFree).dev.cd 0 1)) 192, (clu 1 stFree).mem.Unpoisoned l) ∧ bit ((clu 1 stFree).dev.reg (R.cluCtxcmd 0)) 8 = false ∧
    (fld (areaHdr ((clu 1 stFree).mem.bytes 0x1000 192)) 63 62 = 1 ∧ areaAddr ((clu 1 stFree).dev.cd 0 1) = 0x1000 ∧
      bit (areaHdr ((clu 1 stFree).mem.bytes 0x1000 192)) 61 = (clu 1 stFree).dev.ctxSecure 0 ∧
      bit ((areaWords ((clu 1 stFree).mem.bytes 0x1000 192)).getD 18 0) 2 = (clu 1 stFree).dev.ctxSecure 0 ∧ fld ((areaWords ((clu 1 stFree).mem.bytes 0x1000 192)).getD 18 0) 1 0 ≠ 3) ∧
    fld ((clu 2 stWaiting).dev.reg (R.cluCtxcmd 0)) 3 0 = 2 ∧ fld ((clu 3 stWaiting).dev.reg (R.cluCtxcmd 0)) 3 0 = 3 ∧ (clu 3 stWaiting).dev.ctxState 0 = stWaiting ∧
    (clu 3 stWaiting).dev.runner 0 = none ∧ (clu 3 stReady).dev.ctxState 0 = stReady ∧ (clu 3 stReady).dev.runner 0 = none ∧ (clu 3 stReady).dev.assignee 0 = none ∧
    (clu 3 stWaiting).dev.assignee 0 = none ∧ (clu 4 stStopped).dev.ctxState 0 = stStopped ∧ (clu 4 stStopped).dev.runner 0 = none ∧ fld ((clu 4 stStopped).dev.reg (R.cluCtxcmd 0)) 3 0 = 4 ∧
    fld ((clu 5 stStopped).dev.reg (R.cluCtxcmd 0)) 3 0 = 5 := by
  refine ⟨?_, ?_, ?_, ?_, ?_, ?_, open_of ?_, fun l _ => unpoisoned ?_ l, ?_⟩ <;> decide +kernel

theorem witness_SluiceCommandsComplete_moves :
    (∀ st, st = stWaiting ∨ st = stReady ∨ st = stStopped → bit ((cluMove st).dev.reg (R.cluCtxcmd 0)) 63 = true ∧ fld ((cluMove st).dev.reg (R.cluCtxcmd 0)) 3 0 = 6 ∧
      (cluMove st).dev.ctxState 0 = st ∧ (cluMove st).dev.runner 0 = none ∧ (cluMove st).dev.assignee 0 = none) ∧
    (cluMove stReady).dev.rf (R.cluCtxcmd 0) 36 32 = 1 ∧ clusterOwner (cluMove stReady).dev.felt.cfg 1 = clusterOwner (cluMove stReady).dev.felt.cfg 0 ∧
    (cluMove stReady).dev.part.order.cluster 1 = true ∧ 1 ≠ (0 : Nat) / 1024 ∧ (cluMove stReady).dev.freeSlot 1 = some 1024 ∧ ((cluMove stReady).dev.ctx 0).home / 1024 = 0 ∧
    (cluBack.dev.ctx 0).home = 2047 ∧ cluBack.dev.selHolder 0 = 0 := by
  refine ⟨?_, ?_⟩
  · rintro st (rfl | rfl | rfl) <;> decide +kernel
  · decide +kernel

def tmr (ctl : Word) : State := (app id).onDev (fun d => d.setReg (R.cluTmrctl 0 15) ctl)

theorem witness_SluiceCommandsComplete_timers :
    bit ((tmr 0x8000000000000000).dev.reg (R.cluTmrctl 0 15)) 63 = true ∧ (tmr 0x8000000000000000).dev.rf (R.cluTmrcnt 0 15) 31 0 = 0 ∧
    bit ((tmr 0xC000000000000000).dev.reg (R.cluTmrctl 0 15)) 62 = true ∧ (tmr 0xC000000000000000).dev.rf (R.cluTmrcnt 0 15) 31 0 = 0 := by decide +kernel

def evOf (pond : Nat) : SluiceEv := { kind := 5, src := 0, angle := 0, cluster := 0, slot := 0, pond := pond }

theorem witness_SluiceReceptionOfAnEvent :
    (let d := (clu 0 stReady).dev
     (evOf 0).cluster < 32 ∧ (evOf 0).slot < 1024 ∧ d.holder (slotKey 0 0) = 0 ∧ clusterOwner d.felt.cfg 0 = some (evOf 0).pond ∧ d.ctxState 0 = stReady ∧ (d.evq 0).length < 256 ∧
       fld (d.cd 0 0) 31 24 < 255) ∧
    (let d := (appCtx stRunning []).dev
     d.holder (slotKey 0 0) = 0 ∧ clusterOwner d.felt.cfg 0 = some (evOf 0).pond ∧ d.ctxState 0 = stRunning ∧ (d.evq 0).length < 256 ∧ fld (d.cd 0 0) 31 24 < 255) ∧
    (∀ st, st = stFree ∨ st = stStopped ∨ st = stAway → (clu 0 st).dev.ctxState 0 = st ∧ (clu 0 st).dev.holder (slotKey 0 0) = 0) ∧
    clusterOwner (clu 0 stReady).dev.felt.cfg 0 ≠ some (evOf 31).pond ∧
    (let d := ((clu 0 stWaiting).dev.setEvq 0 (List.replicate 256 ev0))
     d.holder (slotKey 0 0) = 0 ∧ d.ctxState 0 = stWaiting ∧ 256 ≤ (d.evq 0).length) := by
  refine ⟨?_, ?_, ?_, ?_⟩
  case refine_3 => rintro st (rfl | rfl | rfl) <;> decide +kernel
  all_goals decide +kernel

def active5 : State := (app id).onDev (fun d => d.setIcBit R.icActive 5 true)

theorem witness_InterruptRowsComplete :
    (active5.dev.evq 0).length < 256 ∧ active5.dev.active 5 = true ∧ Tab.rising 0 active5.dev.regs = true ∧ 2047 < 2048 ∧ 31 < 32 ∧
    ({ pond := 0, secure := true, dev := true, dbg := false } : Req).dev = true := by decide +kernel

/-- The device with time-base source 0 of a kind. -/
def atbSt (kind nominal : Nat) : State := st [.atbSource 0 kind 0 nominal 1] []
def cycle (amp rate : Nat) : CycleObs := { freq := 50000000, ago := 0, amp := amp, clipped := false, rate := rate, expected := 1, syncAge := 0 }

/-- Sources 0 and 1 valid, the ATB in a state with a source followed, and the good cycles of source 0. -/
def followAt (state sel good : Nat) : State :=
  (atbSt 1 50000).onDev (fun d => (((d.setSrcValid 0 true).setSrcValid 1 true).atbEnter state sel).setRf (R.atbSrcstat 0) 23 16 good)
def following (state : Nat) : State := (atbSt 1 50000).onDev (fun d => (d.setSrcValid 0 true).atbEnter state 0)
/-- Mark 63 of the device armed and due, and mark 15 of cluster 31. -/
def marked (rep : Word) : State := (app id).onDev (fun d => d.setReg (R.atbMkctl 63) (0x80000000 ||| rep))
def markedClu : State := (app id).onDev (fun d => d.setReg (R.cluMkctl 31 15) 0x80000000)

theorem witness_TimeBaseCommandsComplete_sources :
    atbSource (atbSt 1 50000).dev.felt.cfg 0 = some (1, 0, 50000, 1) ∧ (atbSt 1 50000).dev.srcDead 1 0 = false ∧ (atbSt 1 50000).dev.atb.uncal = false ∧
    (atbSt 1 50000).dev.cycleReason 0 1 0 50000 1 (cycle 49 0) ≠ 0 ∧ (atbSt 1 50000).dev.cycleReason 0 1 0 50000 1 (cycle 50 0) = 0 ∧
    atbSource (atbSt 4 50000).dev.felt.cfg 0 = some (4, 0, 50000, 1) ∧ (atbSt 4 50000).dev.srcDead 4 0 = false ∧
    (atbSt 4 50000).dev.cycleReason 0 4 0 50000 1 (cycle 0 0) ≠ 0 ∧
    ((atbSt 4 50000).onDev (fun d => { d with atb := { d.atb with enc := 4 } })).dev.cycleReason 0 4 0 50000 1 (cycle 0 0) = 0 ∧
    (atbSt 5 50000).dev.cycleReason 0 5 0 50000 1 (cycle 0 0) ≠ 0 ∧ ((atbSt 5 50000).onDev (fun d => { d with atb := { d.atb with sync := 1 } })).dev.cycleReason 0 5 0 50000 1 (cycle 0 0) = 0 ∧
    (followAt 1 0 0).dev.atbState = 1 ∧ (followAt 1 0 0).dev.atbSel = 0 ∧ (followAt 2 1 50).dev.atbState = 2 ∧ (followAt 2 1 50).dev.atbSel = 1 ∧ (followAt 2 0 0).dev.atbSel < 1 ∧
    (followAt 2 1 50).dev.srcValid 0 = true ∧ 50 ≤ (followAt 2 1 50).dev.rf (R.atbSrcstat 0) 23 16 ∧ (followAt 0 0 0).dev.atbState = 0 ∧
    (followAt 3 0 0).dev.atbState = 3 ∧ (followAt 3 0 0).dev.bestSrc = some 0 ∧ (atbSt 1 50000).dev.atbState = 0 ∧ (atbSt 1 50000).dev.bestSrc = none := by decide +kernel

/-- A device of which source p falls silent. -/
def silent (d : Dev) (p : Nat) : Dev :=
  let d0 := (d.setSrcValid p false).setRf (R.atbSrcstat p) 23 16 0
  if d0.rf (R.atbSrcstat p) 27 24 = 0 then d0.setRf (R.atbSrcstat p) 27 24 1 else d0

theorem witness_TimeBaseCommandsComplete_marks :
    (followAt 2 0 0).dev.srcValid 0 = true ∧ (silent (followAt 2 0 0).dev 0).atbState = 2 ∧ (silent (followAt 2 0 0).dev 0).atbSel = 0 ∧ (silent (followAt 2 0 0).dev 0).bestSrc = some 1 ∧
    (following 1).dev.srcValid 0 = true ∧ (silent (following 1).dev 0).atbState = 1 ∧ (silent (following 1).dev 0).atbSel = 0 ∧ (silent (following 1).dev 0).bestSrc = none ∧
    (silent (following 2).dev 0).atbState = 2 ∧ (followAt 2 0 0).dev.srcValid 1 = true ∧ (silent (followAt 2 0 0).dev 1).atbSel ≠ 1 ∧ (followAt 3 0 0).dev.atbState = 3 ∧
    (marked 0).dev.markDue (mkCtl 0xFF 63) = true ∧ (∀ c ∈ (marked 0).dev.armed, markBefore c (mkCtl 0xFF 63) = true → (marked 0).dev.markDue c = false) ∧
    (marked 0x40000000).dev.markDue (mkCtl 0xFF 63) = true ∧ (∀ c ∈ (marked 0x40000000).dev.armed, markBefore c (mkCtl 0xFF 63) = true → (marked 0x40000000).dev.markDue c = false) ∧
    markedClu.dev.markDue (mkCtl 31 15) = true ∧ (∀ c ∈ markedClu.dev.armed, markBefore c (mkCtl 31 15) = true → markedClu.dev.markDue c = false) := by decide +kernel

/-- A window of a quarter turn from angle 0 on. -/
def windowed (level : Nat) : State := (st [.window 0 0 0x40000000 0] []).onDev (fun d => d.setRf R.atbWinstat 8 8 level)
def windowPast : State := (windowed 1).onDev (fun d => d.setReg R.atbNow 0x80000000)

theorem witness_TickAdvancesTheTimeBase :
    (app id).dev.domState 1 = 0 ∧ 1 < (app id).dev.pwr.step ∧ (app id).dev.pins.resetLow = false ∧ Tab.rising 0 (app id).dev.regs = true ∧ (app id).dev.atb.held = [] ∧
    (windowed 0).dev.protectDue = true ∧ (windowed 0).dev.protect = false ∧ windowPast.dev.protectDue = false ∧ windowPast.dev.protect = true := by decide +kernel

/-- Memory in which core 0 owns line 1 and core 1 has asked its home for it; and the states of the line in core 0's caches. -/
def askedFor (kind : TxnKind) (out : Nat) : MemSt :=
  { MemSt.empty with dir := [(1, { DirEnt.none with owner := some 0, busy := some { Txn.plain kind 1 with out := [out] } })] }
def askedSt (kind : TxnKind) (out : Nat) : State := { app id with mem := askedFor kind out }
def withLine (x : LineSt) : State := (app id).onMem (fun m => m.setL2 0 1 x)
def flit0 : Flit := { head := 0, hchk := flitCheck 0, pay := [] }
def flitBad : Flit := { flit0 with hchk := flitCheck 0 + 1 }
/-- DMA channel 63 owned by pond 0. -/
def dmaOwned : State := (app id).onDev (fun d => { d with felt := { d.felt with cfg := cfg0 ++ [.dma 63 1 0 1] } })
/-- Core 0 keeping line 1 for an atomic, with a snoop of it waiting or not. -/
def held (w : Bool) : State := app (fun c => { c with hold := [(1, w)] })
def heldAsked : State := { held true with mem := askedFor .getOwn 0 }

theorem witness_CoherenceMessagesComplete_requests :
    (app id).maySend 0 = true ∧ (app id).Open ((app id).dev.coreReq 0 ((app id).core 0).secure) (0x3FF * 64) 64 ∧ (app id).mem.l2st 0 0x3FF = .i ∧ (withLine .s).maySend 0 = true ∧
    (withLine .s).Open ((withLine .s).dev.coreReq 0 ((withLine .s).core 0).secure) (1 * 64) 64 ∧ (withLine .s).mem.l2st 0 1 = .s ∧
    (∀ f, f = Sender.core 0 ∨ f = .dma 63 ∨ f = .eth 127 3 ∨ f = .weir 127 3 ∨ f = .host →
      dmaOwned.Open (dmaOwned.senderReq f { pond := 0, secure := true, dev := false, dbg := false }) (0x3FF * 64) 64 ∧
      dmaOwned.Open (dmaOwned.senderReq f { pond := 0, secure := true, dev := false, dbg := false }) 0xFFFF 1) ∧ 0xFFFF % 64 + 1 ≤ 64 := by
  refine ⟨?_, open_of ?_, ?_, ?_, open_of ?_, ?_, ?_, ?_⟩
  case refine_7 => rintro f (rfl | rfl | rfl | rfl | rfl) <;> exact ⟨open_of (by decide +kernel), open_of (by decide +kernel)⟩
  all_goals decide +kernel

theorem witness_CoherenceMessagesComplete_answers :
    (askedSt .getOwn 0).snoopDue 0 1 [.getOwn, .promote] = true ∧ (askedSt .getOwn 0).holding 0 1 = [] ∧ (askedSt .getCopy 0).snoopDue 0 1 [.getCopy] = true ∧
    (askedSt .peek 0).snoopDue 0 1 [.peek] = true ∧ (askedSt .put 0).snoopDue 0 1 [.put] = true ∧ (askedSt .put 0).snoopDue 0 1 [.getOwn, .promote, .put] = true ∧
    heldAsked.snoopDue 0 1 [.getOwn, .promote] = true ∧ heldAsked.holding 0 1 ≠ [] ∧ (app id).snoopDue 0 1 [.getOwn, .promote, .put] = false ∧
    (app id).snoopDue 0x300 1 [.getOwn, .promote, .put] = false ∧ (askedSt .getOwn 0x300).snoopDue 0 1 [.getOwn, .promote, .put] = false ∧
    (askedSt .getOwn 0x300).snoopDue 0x300 1 [.getOwn, .promote, .put] = true ∧ (askedSt .getOwn 0x300).holding 0x300 1 = [] ∧
    ((held false).core 0).hold = [(1, false)] ∧ (heldAsked.core 0).hold = [(1, true)] ∧
    (heldAsked.modCore 0 (fun c => { c with hold := [] })).snoopDue 0 1 [.getCopy, .getOwn, .promote, .peek, .put] = true ∧
    (heldAsked.modCore 0 (fun c => { c with hold := [] })).holding 0 1 = [] ∧ (app id).dev.isCache 0 = true ∧ (app id).dev.isCache 0x1FF = true ∧ (withLine .m).mem.l2st 0 1 = .m ∧
    (withLine .e).mem.l2st 0 1 = .e ∧ (app id).mem.evq = [] ∧ ((app id).onMem (fun m => { m with evq := [(0, 1)] })).mem.evq ≠ [] ∧
    bit (((app id).onDev (fun d => d.setReg (R.llcDirprobe 31) 0x8000000000000000)).dev.reg (R.llcDirprobe 31)) 63 = true ∧
    Tab.get (fun _ => 0) (app id).dev.net (4 * 63 + 3) < 2 ∧ flit0.hchk = flitCheck flit0.head ∧ flitBad.hchk ≠ flitCheck flitBad.head := by decide +kernel

theorem witness_GrantOfALine :
    (app id).mem.dirE 1 = DirEnt.none ∧ (app id).mem.l2st 0 1 = .i ∧ (app id).Calm ∧ (app id).mem.wb = [] ∧ (app id).dev.trkFree ((app id).dev.home (1 * 64)) false 1 = true ∧
    (sameSet (app id).mem.l2 0 1 ((app id).dev.l2Geom 0).1).length < ((app id).dev.l2Geom 0).2 ∧
    ((app id).mem.dir.filter (fun e => decide (e.1 % 8192 = 1 % 8192))).length < (app id).dev.waysLeft 3 ((app id).dev.home (1 * 64)) 8 16 :=
  ⟨by decide +kernel, by decide +kernel, calm_of (by decide +kernel), by decide +kernel, by decide +kernel, by decide +kernel, by decide +kernel⟩

/-- Words into consecutive registers. -/
def words (base : Nat) (ws : List Word) (t : Tab Word) : Tab Word :=
  (ws.foldl (fun (p : Nat × Tab Word) w => (p.1 + 8, Tab.set regReset p.2 p.1 w)) (base, t)).2

/-- The device with an amendment's record next to apply. -/
def amending (a : ARec) : State := (app id).onDev (fun d => { d with felt := { d.felt with todo := [a], busy := true } })
def feltGo (n : Nat) : State := (app id).onDev (fun d => (d.setRf R.feltCmdstat 31 31 1).setRf R.feltCmd 3 0 n)
/-- Pond 1 beside pond 0. -/
def twoPonds (a : ARec) : State :=
  (amending a).onDev (fun d => { d with felt := { d.felt with cfg := d.felt.cfg ++ [.pond 1 1 0 0 0 0 0] } })

/-- An amendment to version 1 with sequence number 1 whose one record sets the cap to 300 W, signed with the key whose public point is the
generator (made outside the model). -/
def amendment : List Word :=
  [0x200001444d4146, 0x100000090, 0x100000001, 0x1, 0x12c0004090b, 0x30444e4546,
   0xd9d2a37b0599d908, 0xf0975bc545002669, 0xd634f4a659590289, 0x9e6eb99fd107d251, 0xf8640ebe6ee8e04f, 0x61df9552c7a9965b,
   0x7be4dd02e64baa1d, 0x7753b19896cd9018, 0xd39d368c2b5afcd6, 0x4c6e92b88d83a3a8, 0x96fd60e40658aa56, 0x26c63099362b9c13]

def amendSt : State :=
  (feltGo 3).onDev (fun d => { d with regs := words (R.feltAmdbuf 0) amendment d.regs, felt := { d.felt with cfg := d.felt.cfg ++ [.watermark 0 0x1000] } })

theorem amendment_accepted :
    (checkAmendment amendSt.dev.part amendSt.fuses amendSt.dev.felt (amendSt.dev.regBytes R.feltAmdbuf 512)).code = 0 := by decide +kernel

theorem amendment_ready :
    amendSt.dev.feltGo 3 = true ∧ amendSt.dev.belowFloor = false ∧
    (checkAmendment amendSt.dev.part amendSt.fuses amendSt.dev.felt (amendSt.dev.regBytes R.feltAmdbuf 512)).recs = [.setCap 300] ∧
    (scanLog (fun p n => amendSt.mem.bytes p n) 8192 logBase).2 +
      logSpan (checkAmendment amendSt.dev.part amendSt.fuses amendSt.dev.felt (amendSt.dev.regBytes R.feltAmdbuf 512)).len ≤ logEnd := by decide +kernel

/-- What SET_HOLD leaves in force of a domain. -/
def heldDom (lowest : Nat) : Dev := ((amending (.setHold 52 lowest 1 0)).dev.recApply (.setHold 52 lowest 1 0)).loadHold 52
/-- The same in retention. -/
def domAt (st : Nat) : State := (amending (.setHold 52 0 1 0)).onDev (fun d => d.setRf (R.pwrDomctl 52) 55 53 st)

theorem witness_AmendmentCommandsComplete :
    (feltGo 1).dev.feltGo 1 = true ∧ (feltGo 2).dev.feltGo 2 = true ∧
    (twoPonds (.moveCluster 0 0 1)).dev.nextRec = some (.moveCluster 0 0 1) ∧ (twoPonds (.moveCluster 0 0 1)).dev.ext = [] ∧
    (∀ i, i < 8 → (twoPonds (.moveCluster 0 0 1)).midInsn (8 * 0 + i) = false ∧ ((twoPonds (.moveCluster 0 0 1)).core (8 * 0 + i)).lops = []) ∧
    (twoPonds (.moveFunction 1 0 1 1)).dev.nextRec = some (.moveFunction 1 0 1 1) ∧ (twoPonds (.moveFunction 1 0 1 1)).dev.pep.reads = [] ∧
    (twoPonds (.moveDma 3 0 1 1)).dev.nextRec = some (.moveDma 3 0 1 1) ∧ (twoPonds (.moveDma 3 0 1 1)).dev.job 3 = none ∧
    (twoPonds (.moveIrq 2047 0 1 1 0)).dev.nextRec = some (.moveIrq 2047 0 1 1 0) ∧ (amending (.setBound 1 0 400 800)).dev.nextRec = some (.setBound 1 0 400 800) ∧
    (amending (.clearHold 3)).dev.nextRec = some (.clearHold 3) ∧ (amending (.setMark 0xFF 0 0 1 0 0 0 0)).dev.nextRec = some (.setMark 0xFF 0 0 1 0 0 0 0) ∧
    (amending (.setCap 300)).dev.nextRec = some (.setCap 300) ∧ (amending (.setDebug 0 3)).dev.nextRec = some (.setDebug 0 3) ∧
    (amending (.setShare 0 50)).dev.nextRec = some (.setShare 0 50) ∧ (amending (.setHold 52 0 1 0)).dev.nextRec = some (.setHold 52 0 1 0) ∧
    (heldDom 0).transOf 52 = none ∧ (heldDom 0).domState 52 ≤ 0 ∧ (domAt 2).dev.nextRec = some (.setHold 52 0 1 0) ∧
    (((domAt 2).dev.recApply (.setHold 52 0 1 0)).loadHold 52).transOf 52 = none ∧ 0 < (((domAt 2).dev.recApply (.setHold 52 0 1 0)).loadHold 52).domState 52 := by decide +kernel

/-- The device in a mode, with some registers. -/
def inMode (m : DevMode) (regs : Tab Word) : State :=
  (app id).onDev (fun d => { d with regs := regs, pwr := { d.pwr with mode := m } })

def obs0 : StartObs := { rom := true, uncore := true, pcie := none, chans := [], groups := 0, lanes := [], sense := true, rails := 15, cores := [], l1i := [] }
def wk : Tab Word := Tab.set regReset [] R.pwrWakeen 1
def go2 : Tab Word := Tab.set regReset [] R.pwrDevcmd 0x8000000000000002
def go1 : Tab Word := Tab.set regReset [] R.pwrDevcmd 0x8000000000000001

theorem witness_StartAndResetCommandsComplete :
    State.reset.dev.pwr.mode = .reset ∧ State.reset.dev.pins.resetLow = false ∧ obs0.rom = true ∧ (inMode .stopping []).dev.pwr.mode = .stopping ∧
    ((app id).onDev (fun d => { d with pins := { d.pins with resetLow := true } })).dev.pins.resetLow = true ∧ (app id).dev.pwr.mode ≠ .off ∧
    (inMode .off wk).dev.pwr.mode = .off ∧ (inMode .off wk).dev.pins.therm = false ∧ bit ((inMode .off wk).dev.reg R.pwrWakeen) 0 = true ∧
    (inMode .watch []).dev.pwr.mode = .watch ∧ bit (((app id).onDev (fun d => d.setRf R.errStartctl 63 63 1)).dev.reg R.errStartctl) 63 = true ∧
    (inMode .up go2).dev.devGo 2 = true ∧ (inMode .up go2).dev.alive = true ∧ (∀ e ∈ (inMode .up go2).dev.pwr.trans, 21 ≤ e.1 → e.2.req = false) ∧
    ((app id).dev.tlimMax : Int) + 15 ≤ 125 ∧ 39 < 40 := by decide +kernel

theorem witness_ResetKeepsWhatItMust : ∃ s : State, s = State.reset := ⟨_, rfl⟩

def secReq : Req := { pond := 0, secure := true, dev := true, dbg := false }

/-- An error record of a class, of unit 4, at the service core of quadrant 0; one of a core's arrays; one of an SRAM. -/
def rec0 (cls : Nat) : ErrRec :=
  { quad := 0, unit := 4, kind := 1, inst := 0, sev := 1, cls := cls, act := 0, stat := 0, pond := 0xFF, flags := 0, count := 1, addr := 0, angle := 0, tick := 0, detail := [] }
def recCore : ErrRec := { rec0 0 with unit := 1, kind := 3 }
def waitingRec (r : ErrRec) : State := (app id).onDev (fun d => { d with err := { d.err with waiting := [r] } })
def testing (also : List ErrRec) : State := (app id).onDev (fun d => { d with err := { d.err with waiting := also, testing := [(rec0 0, false)] } })

theorem witness_RecordsErrorsAndDigestComplete_writes :
    [(1 : Byte)] ≠ [] ∧ 0x3FFFFFF + [(1 : Byte)].length ≤ nvSize ∧ (app id).dev.domLost 2 secReq = false ∧ (app id).dev.nvAdmit secReq true 0 1 = true ∧ (app id).dev.belowFloor = false ∧
    (app id).dev.domState 2 = 0 ∧ (app id).dev.nvAdmit { secReq with pond := 1, secure := false, dev := false } true 0 1 = false ∧ (app id).dev.pwr.mode = .up := by decide +kernel

theorem witness_RecordsErrorsAndDigestComplete_errors :
    3 < 4 ∧ (app id).dev.alive = true ∧ (app id).dev.starting = false ∧ (app id).dev.domState (5 + 3) ≤ 1 ∧ ((app id).dev.err.waiting.find? (fun r => decide (r.quad = 3))) = none ∧
    (waitingRec (rec0 1)).dev.err.waiting.find? (fun r => decide (r.quad = 0)) = some (rec0 1) ∧ (rec0 1).cls ≠ 0 ∧
    (waitingRec (rec0 0)).dev.err.waiting.find? (fun r => decide (r.quad = 0)) = some (rec0 0) ∧ (waitingRec (rec0 0)).dev.err.testing = [] ∧ (rec0 0).arrays = false ∧
    (waitingRec recCore).dev.err.waiting.find? (fun r => decide (r.quad = 0)) = some recCore ∧ recCore.cls = 0 ∧ recCore.arrays = true ∧
    ((waitingRec recCore).dev.cslu recCore.inst).ctx = none ∧ (waitingRec recCore).midInsn recCore.inst = false ∧ ((waitingRec recCore).core recCore.inst).lops = [] ∧
    (testing [rec0 0]).dev.err.waiting.find? (fun r => decide (r.quad = 0)) = some (rec0 0) ∧ (testing [rec0 0]).dev.err.testing = [(rec0 0, false)] ∧ (rec0 0).sameTest (rec0 0) = true ∧
    (testing []).dev.err.testing.find? (fun t => decide (t.1.quad = 0) && (testing []).dev.testReady t.1) = some (rec0 0, false) ∧ (rec0 0).unit ≠ 5 ∧
    Tab.get (fun _ => 0) (testing []).dev.err.bucket (rec0 0).bucket.2 + 1 ≤ (testing []).dev.rf (R.errBktcfg (rec0 0).bucket.1) 63 48 ∧
    Tab.get (fun _ => 0) ((app id).onDev (fun d => { d with err := { d.err with bucket := [(3, 1)] } })).dev.err.bucket 3 = 0 + 1 ∧
    ((app id).onDev (fun d => { d with pwr := { d.pwr with snap := some d.digest } })).dev.pwr.snap = some (app id).dev.digest ∧ 0x11 ≤ 0x17 := by decide +kernel

def below : State := (app id).onDev (fun d => d.setRf R.pwrStatus 5 5 1)
/-- The cap at 5 W and the device power measured at some mW, with the steps so far that were low. -/
def capped (watts : Nat) (low : Nat) : State := (app id).onDev (fun d => ({ d with pwr := { d.pwr with capLow := low } } : Dev).setRf R.pwrCap 15 0 watts)

theorem witness_PowerLimitCommandsComplete :
    (app id).dev.belowFloor = false ∧ below.dev.belowFloor = true ∧ below.dev.err.defer = [] ∧ (app id).dev.alive = true ∧ (app id).dev.part.order.cluster 31 = true ∧
    (capped 0 0).dev.rf R.pwrCap 15 0 * 1000 < (capped 0 0).dev.powerMean 1000 ∧
    (capped 100 0).dev.powerMean 100000 = 100000 ∧ (capped 100 0).dev.powerMean 100000 ≤ (capped 100 0).dev.rf R.pwrCap 15 0 * 1000 ∧
    (capped 100 0).dev.rf R.pwrCap 15 0 * 1000 * 95 ≤ (capped 100 0).dev.powerMean 100000 * 100 ∧
    (capped 100 9).dev.powerMean 0 * 100 < (capped 100 9).dev.rf R.pwrCap 15 0 * 1000 * 95 ∧ 9 ≤ (capped 100 9).dev.pwr.capLow ∧
    ((app id).dev.rf R.pwrThermctl 7 0 : Int) ≤ 255 ∧ 0 - 2 ≤ (0 : Int) := by decide +kernel

/-- A transition of a domain that is under way. -/
def transTo (dom tgt : Nat) (req idle : Bool) : State := (app id).onDev (fun d => d.beginTrans dom { tgt := tgt, req := req, exit := false, idle := idle })
/-- No core runs; cluster 0 may enter an AUTO state. -/
def clusterIdle (auto : Nat) : State := (st cfg0 []).onDev (fun d => d.setRf (R.pwrDomctl 21) 42 40 auto)
def clusterOff : State := (st cfg0 []).onDev (fun d => ((d.setRf (R.pwrDomctl 21) 55 53 3).setRf (R.pwrDomctl 21) 23 12 1).setReg (R.cluMkctl 0 15) 0x80000000)
def wantsOn : State := clusterOff.onDev (fun d => d.wake 21)
def watching : State := inMode .watch (Tab.set regReset [] R.pwrWatchctl 0x8000000000000000)
/-- The highest state of cluster 0's domain asked for, by a write of DOMCTL. -/
def domReq (f : State → State) (stt : Nat) : State :=
  (f (app id)).regWrite secReq (R.pwrDomctl 52) 8 (setFld (setBit ((f (app id)).dev.reg (R.pwrDomctl 52)) 63 true) 62 60 stt)

theorem witness_DomainCommandsComplete_requests :
    (∀ stt, stt < 4 → stt ≠ 0 → (app id).dev.transOf 52 = none ∧ ((domReq id stt).dev.transOf 52).isSome = true) ∧ (domReq id 0).dev.transOf 52 = none ∧
    (transTo 52 1 true false).dev.transOf 52 = some { tgt := 1, req := true, exit := false, idle := false } ∧
    (transTo 52 1 true false).dev.exitWaits 52 { tgt := 1, req := true, exit := false, idle := false } = false ∧
    (transTo 0 0 false false).dev.transOf 0 = some { tgt := 0, req := false, exit := false, idle := false } ∧
    (transTo 52 3 true true).dev.transOf 52 = some { tgt := 3, req := true, exit := false, idle := true } ∧ (app id).dev.transOf 0 = none := by
  refine ⟨?_, ?_⟩
  · intro n h1 h2
    have : n = 1 ∨ n = 2 ∨ n = 3 := by omega
    rcases this with rfl | rfl | rfl <;> decide +kernel
  · decide +kernel

theorem witness_DomainCommandsComplete_idle :
    (clusterIdle 1).dev.alive = true ∧ (clusterIdle 1).clusterIdle 0 = true ∧ (clusterIdle 1).dev.transOf 21 = none ∧ (clusterIdle 1).dev.domState 21 = 0 ∧
    1 ≤ (clusterIdle 1).dev.rf (R.pwrDomctl 21) 42 40 ∧ 1 ≤ (clusterIdle 1).dev.domLowest 21 ∧
    2 ≤ (clusterIdle 3).dev.rf (R.pwrDomctl 21) 42 40 ∧ (clusterIdle 3).dev.domState 21 < min ((clusterIdle 3).dev.rf (R.pwrDomctl 21) 42 40) ((clusterIdle 3).dev.domLowest 21) ∧
    2 ≤ min ((clusterIdle 3).dev.rf (R.pwrDomctl 21) 42 40) ((clusterIdle 3).dev.domLowest 21) ∧ (clusterIdle 3).clusterIdle 31 = true ∧
    (app id).dev.domPermits 2 1 = true ∧ (app id).domQuiet 2 = true ∧ (app id).dev.transOf 2 = none ∧ (app id).dev.domState 2 = 0 ∧ (app id).dev.domLowest 2 ≠ 0 ∧
    wantsOn.dev.pwr.mode = .up ∧ wantsOn.dev.domState 21 ≠ 0 ∧ Tab.get (fun _ => false) wantsOn.dev.wakes 21 = true ∧
    clusterOff.dev.rf (R.pwrDomctl 21) 23 12 ≠ 0 ∧ bit (clusterOff.dev.reg (R.cluMkctl 0 15)) 31 = true ∧ fld (clusterOff.dev.reg (R.cluMkctl 0 15)) 29 27 = 0 ∧
    atOrAfter clusterOff.dev.now (clusterOff.dev.reg (R.cluMkangle 0 15) - word ((clusterOff.dev.rf (R.pwrDomctl 21) 23 12 * 1000 * atbRate clusterOff.dev.atbFreq + 2 ^ 31) / 2 ^ 32)) = true := by
  decide +kernel

/-- WATCH commanded with every cluster in its watch state. -/
def watchReady : State :=
  (List.range 32).foldl (fun s c => s.onDev (fun d => d.setRf (R.pwrDomctl (21 + c)) 55 53 (d.watchState c))) (inMode .up go1)

theorem witness_DomainCommandsComplete_watch :
    watchReady.dev.devGo 1 = true ∧ watchReady.dev.pwr.mode = .up ∧ watchReady.dev.watchLeft = [] ∧
    (inMode .up go1).dev.devGo 1 = true ∧ (inMode .up go1).dev.pwr.mode = .up ∧ 0 ∈ (inMode .up go1).dev.watchLeft ∧ (inMode .up go1).clusterIdle 0 = false ∧
    watching.dev.pwr.mode = .watch ∧ bit (watching.dev.reg R.pwrWatchctl) 63 = true ∧
    (∀ i, i < 6 → bit (watching.dev.reg (R.pwrWatchthr i)) 0 = false) ∧ (∀ i, i < 6 → Tab.get (fun _ => 0) watching.dev.pwr.seqRun i = 0) ∧
    Tab.get (fun _ => false) ((app id).onDev (fun d => { d with pwr := { d.pwr with down := [(52, true)] } })).dev.pwr.down 52 = true := by decide +kernel

/-- A token for pond 0 with every enable and a zero nonce, signed with the key whose public point is the generator (made outside the model). -/
def token : List Word :=
  [0x14c554244, 0x1, 0x0, 0x0, 0x0, 0x0,
   0xf00000001, 0x0, 0xd9d2a37b0599d908, 0xf0975bc545002669, 0xd634f4a659590289, 0x9e6eb99fd107d251,
   0xf8640ebe6ee8e04f, 0x61df9552c7a9965b, 0x4256ca831f91f7aa, 0x935dd623d4ce05a0, 0x94c28de0f853470a, 0x9a74990c3351d639,
   0x19507d0c6bba343d, 0x150b9c38e41173d5]

def tokenSt : State :=
  (app id).onDev (fun d => { d with regs := words (R.secDbutok 0) token (words R.secDbucmd [0x8000000000000002, 0x10000] []) })

theorem token_accepted : tokenSt.tokenCode (tokenSt.dev.regBytes R.secDbutok 20) = 0 := by decide +kernel

theorem token_ready : tokenSt.dev.dbuGo 2 = true ∧ bit (tokenSt.dev.reg R.secDbustat) 17 = false := by decide +kernel

def keyGo (n slot : Nat) (regs : Tab Word) : State := (app id).onDev (fun d => { d with regs := Tab.set regReset regs R.secKeycmd (word (2 ^ 63 + 16 * slot + n)) })
/-- KEYBUF with the generator's coordinates, big-endian. -/
def genBytes : List Byte := bytesBE 48 p384Gx ++ bytesBE 48 p384Gy
def keyBuf : Tab Word := words (R.secKeybuf 0) ((List.range 12).map (fun i => word (leAt genBytes (8 * i) 8))) []
def dbuGo (n : Nat) : State := (app id).onDev (fun d => { d with regs := Tab.set regReset [] R.secDbucmd (word (2 ^ 63 + n)) })

theorem witness_SecurityCommandsComplete :
    (keyGo 1 3 keyBuf).dev.keyGo 1 = true ∧ (keyGo 1 3 keyBuf).dev.rf R.secKeycmd 5 4 = 3 ∧ (keyGo 1 3 keyBuf).fuses.keys.getD 3 none = none ∧
    (let bs := (keyGo 1 3 keyBuf).dev.regBytes R.secKeybuf 12
     onCurve (ofBytesBE (bs.take 48)) (ofBytesBE (bs.drop 48)) = true) ∧ (keyGo 1 3 keyBuf).dev.belowFloor = false ∧
    (keyGo 1 0 []).dev.rf R.secKeycmd 5 4 = 0 ∧ (keyGo 1 0 []).fuses.keys.getD 0 none ≠ none ∧
    (let bs := (keyGo 1 3 []).dev.regBytes R.secKeybuf 12
     onCurve (ofBytesBE (bs.take 48)) (ofBytesBE (bs.drop 48)) = false) ∧ (keyGo 2 1 []).dev.keyGo 2 = true ∧ 0 ∈ (keyGo 2 1 []).fuses.live ∧
    (keyGo 2 1 []).dev.rf R.secKeycmd 5 4 = 1 ∧ (∀ j ∈ (keyGo 2 0 []).fuses.live, j = 0) ∧ (dbuGo 1).dev.dbuGo 1 = true ∧ (dbuGo 3).dev.dbuGo 3 = true := by decide +kernel

/-- Channel 0 running, after a change. -/
def chanSt (f : Dev → Dev) : State := (app id).onDev (fun d => f (d.setRf (R.dmcStatus 0) 2 0 3))
def chanC (f : Chan → Chan) : State := chanSt (fun d => d.modChan 0 f)
def rq0 : Req := { pond := 0, secure := true, dev := false, dbg := false }
def read1 (line : Nat) : ChanReq := { line := line, wr := false, part := false, pond := 0, qos := 1, arr := 0 }
def wrEnt (line : Nat) : WrEnt := { line := line, merging := false, urgent := false, reqs := [] }
/-- Channel 0 with two ranks, of which the second is the spare of the first. -/
def chanMig (mig : Option (Nat × Nat)) (spare : Option Nat) : State := chanC (fun c => { c with ranks := 3, spare := spare, mig := mig })

theorem witness_DramCommandsComplete_requests :
    (chanSt id).dev.chanRuns 0 = true ∧ (chanSt id).dev.chanGets 0 0xFFC0 = true ∧ ((chanSt id).dev.chan 0).inq = [] ∧
    ((chanC (fun c => { c with wq := [wrEnt 0x3FF] })).dev.chan 0).wq.find? (fun w => decide (w.line = 0xFFC0 / 64)) = some (wrEnt 0x3FF) ∧ (wrEnt 0x3FF).merging = false ∧
    (chanC (fun c => { c with wq := [wrEnt 0x3FF] })).dev.chanGets 0 0xFFC0 = true ∧
    ((chanSt id).dev.chan 0).wq.find? (fun w => decide (w.line = 0xFFC0 / 64)) = none ∧ ((chanSt id).dev.chan 0).rq.length < 64 ∧ ((chanSt id).dev.chan 0).wq.length < 64 ∧
    64 ≤ ((chanC (fun c => { c with rq := List.replicate 64 { req := read1 1, wait := false } })).dev.chan 0).rq.length ∧
    (chanC (fun c => { c with rq := List.replicate 64 { req := read1 1, wait := false } })).dev.chanGets 0 0xFFC0 = true ∧
    64 ≤ ((chanC (fun c => { c with wq := List.replicate 64 (wrEnt 1) })).dev.chan 0).wq.length ∧
    ((chanC (fun c => { c with wq := List.replicate 64 (wrEnt 1) })).dev.chan 0).wq.find? (fun w => decide (w.line = 0xFFC0 / 64)) = none ∧ 0 < 64 ∧ 64 ≤ 64 := by decide +kernel

theorem witness_DramCommandsComplete_upkeep :
    ((chanC (fun c => { c with ranks := 15 })).dev.chan 0).ranks.testBit 3 = true ∧ ((chanSt id).dev.chan 0).ranks.testBit 0 = true ∧
    (chanSt (fun d => d.setRf R.atbWinstat 8 8 1)).dev.protect = true ∧ (chanSt id).dev.protect = false ∧
    ((chanSt id).dev.chan 0).owedOf 0 + 1 = 1 ∧ ((chanC (fun c => c.setOwed 0 4)).dev.chan 0).owedOf 0 + 1 = 5 ∧ ((chanC (fun c => c.setOwed 0 3)).dev.chan 0).owedOf 0 + 1 = 4 ∧
    (chanSt id).dev.criticalRead 0 0 = false ∧ (chanC (fun c => { c with rq := [{ req := { read1 0 with qos := 0 }, wait := false }] })).dev.criticalRead 0 0 = true ∧
    bit ((chanSt (fun d => d.setRf (R.dmcScrub 0) 63 63 1)).dev.reg (R.dmcScrub 0)) 63 = true ∧ (chanSt (fun d => d.setRf (R.dmcScrub 0) 63 63 1)).dev.demand 0 = false ∧
    ((chanSt id).dev.chan 0).capacity ≠ 0 ∧ ((chanSt id).dev.chan 0).wq = [] ∧ dramUnmap (chanSt id).dev.felt.cfg 0 0 = some 0 ∧ wrEnt 0 ∈ ((chanC (fun c => { c with wq := [wrEnt 0] })).dev.chan 0).wq ∧
    (chanC (fun c => { c with wq := [wrEnt 0] })).dev.demand 0 = false ∧
    bit ((chanSt (fun d => d.setReg (R.dmcSparecmd 0) 0x8000000000000000)).dev.reg (R.dmcSparecmd 0)) 63 = true ∧
    ((chanMig none none).dev.chan 0).mig = none ∧ ((chanMig none none).dev.chan 0).spareFor 0 = none ∧ ((chanMig none (some 1)).dev.chan 0).spareFor 0 = some 1 ∧
    ((chanMig (some (0, 1)) none).dev.chan 0).mig = some (0, 1) ∧ (chanMig (some (0, 1)) none).dev.demand 0 = false ∧
    ((chanMig (some (0, 1)) none).dev.chan 0).cmdFail = false ∧ (chanMig (some (0, 1)) none).dev.rf (R.dmcMigptr 0) 36 6 + 1 < ((chanMig (some (0, 1)) none).dev.chan 0).rankSize / 64 := by
  decide +kernel

/-- The device a member of a fabric at address 0x10 with weir port 0 up and an export of 0x100 bytes of pond 0 at offset 0x1000. -/
def weirSt (f : Dev → Dev) : State :=
  (app id).onDev (fun d => f ((({ d with felt := { d.felt with cfg := d.felt.cfg ++ [.port 0 1 1 0xFF 0, .expo 0 1 0x1000 0x2000 0x100, .role 2 0 1] } } : Dev).setReg R.wxStatus
    (setFld (setFld 0 63 48 0x10) 3 0 2)).setRf (R.wptStatus 0) 2 0 4))

/-- A packet of a type with its checks, from address 0x20. -/
def pkt (typ flags dst hops : Nat) (ws : List Word) : Pkt :=
  Pkt.seal { ver := 1, typ := typ, qos := 0, secure := true, pond := 0, dst := dst, src := 0x20, hops := hops, flags := flags, len := ws.length, seq := 9, stamp := 0, hcrc := 0
             words := ws, crc := 0 }

theorem arrives {typ flags dst hops : Nat} {ws : List Word} {f : Dev → Dev}
    (h : ((weirSt f).dev.weirPort 0 && decide ((pkt typ flags dst hops ws).hcrc = (pkt typ flags dst hops ws).hcrcOf) && decide ((weirSt f).dev.linkState 0 = 4) &&
      decide ((pkt typ flags dst hops ws).crc = (pkt typ flags dst hops ws).crcOf) && pktLenOk (pkt typ flags dst hops ws)) = true) :
    (weirSt f).Arrives 0 (pkt typ flags dst hops ws) := by
  simp only [Bool.and_eq_true, decide_eq_true_eq] at h
  exact ⟨h.1.1.1.1, h.1.1.1.2, h.1.1.2, h.1.2, h.2⟩

/-- A write of eight bytes at offset 0x1000, a timed one, a read, a doorbell, a timed doorbell, a response and a completion. -/
def w0 : Word := setFld 0x1000 47 40 7
def outs9 : Dev → Dev := fun d => { d with weir := { d.weir with outs := [{ tag := 9, dst := 0x20, slot := none }] } }
/-- A way to device 0x11 by port 0. -/
def toward (d : Dev) : Dev := { d with weir := { d.weir with tab := [(2 * 512 + 2 * 0x11, 1)] } }

theorem witness_FabricRequestsComplete :
    (weirSt id).Arrives 0 (pkt 1 0 0x10 0 [w0, 5]) ∧ (weirSt id).Arrives 0 (pkt 2 0 0x10 0 [w0, 0, 0, 5]) ∧ (weirSt id).Arrives 0 (pkt 3 0 0x10 0 [w0]) ∧
    (weirSt id).Arrives 0 (pkt 6 0 0x10 0 [0]) ∧ (weirSt id).Arrives 0 (pkt 0xA 0 0x10 0 [0, 0]) ∧ (weirSt outs9).Arrives 0 (pkt 4 0 0x10 0 [5]) ∧
    (weirSt outs9).Arrives 0 (pkt 5 0 0x10 0 [0]) ∧ (weirSt id).Arrives 0 (pkt 1 0 0x11 15 [w0, 5]) ∧ (weirSt toward).Arrives 0 (pkt 6 0 0x11 14 [0]) := by
  refine ⟨?_, ?_, ?_, ?_, ?_, ?_, ?_, ?_, ?_⟩ <;> exact arrives (by decide +kernel)

def tdb0 : TdbEnt := { angle := 0, pond := 0, secure := true, pa := 0x2000, data := [], bell := none, src := 0x20, stash := none }
/-- After the packet's credit has gone back. -/
def credited (f : Dev → Dev) (pk : Pkt) : Dev := (weirSt f).dev.credit 0 pk

theorem witness_FabricRequestsComplete_states :
    (weirSt id).dev.wxAddr = 0x10 ∧ (pkt 1 0 0x10 0 [w0, 5]).dst = 0x10 ∧ (pkt 1 0 0x11 15 [w0, 5]).hops = 15 ∧ (credited outs9 (pkt 4 0 0x10 0 [5])).answers (pkt 4 0 0x10 0 [5]) = true ∧
    (credited outs9 (pkt 5 0 0x10 0 [0])).answers (pkt 5 0 0x10 0 [0]) = true ∧ (credited toward (pkt 6 0 0x11 14 [0])).route 0x20 0x11 = some 0 ∧
    verHas ((credited toward (pkt 6 0 0x11 14 [0])).linkVer 0) 6 = true ∧ (weirSt id).dev.weirPort 0 = true ∧
    ({ pkt 1 0 0x10 0 [w0, 5] with hcrc := 0 } : Pkt).hcrc ≠ ({ pkt 1 0 0x10 0 [w0, 5] with hcrc := 0 } : Pkt).hcrcOf ∧
    ((weirSt (fun d => d.setTdb 7 [tdb0])).dev.tdb 7).filter (fun e => atOrAfter ((weirSt (fun d => d.setTdb 7 [tdb0])).dev.reg R.atbNow) e.angle) = [tdb0] := by decide +kernel

def tdbAt (a : Word) : TdbEnt := { tdb0 with angle := a }

theorem witness_FabricChecksOfARequest :
    exportOf (weirSt id).dev.felt.cfg (pktAddr [w0]).1 (pktAddr [w0]).2 = some (0, 0, true, 0x2000) ∧ exportOf (weirSt id).dev.felt.cfg 0x10FC 8 = none ∧
    exportOf (weirSt id).dev.felt.cfg 0x10F8 8 = some (0, 0, true, 0x20F8) ∧ (pkt 1 0 0x10 0 [w0, 5]).pond = 0 ∧ (pkt 1 0 0x10 0 [w0, 5]).secure = true ∧
    ({ pkt 1 0 0x10 0 [w0, 5] with pond := 1 } : Pkt).pond ≠ 0 ∧
    (let d := (weirSt (fun d => (d.setReg (R.wxExpctl 0) 1).setInq 0 [{ expo := 0, pa := 0x2000, pk := pkt 1 0 0x10 0 [w0, 5], port := some 0 }])).dev
     d.rf (R.wxExpctl 0) 8 0 ≤ ((d.inq 0).filter (fun x => decide (x.expo = 0))).length) ∧
    0 < ((tdbAt (256 * 2 ^ 32)).angle - (weirSt id).dev.reg R.atbNow).toNat ∧ ((tdbAt (256 * 2 ^ 32)).angle - (weirSt id).dev.reg R.atbNow).toNat ≤ 256 * 2 ^ 32 ∧
    256 * 2 ^ 32 < ((tdbAt (256 * 2 ^ 32 + 1)).angle - (weirSt id).dev.reg R.atbNow).toNat ∧ ((weirSt id).dev.tdb (groupOf (some 0))).length < 256 := by decide +kernel

def locked (f : Link → Link) : State := weirSt (fun d => d.modLink 0 (fun l => f { l with lock := true }))
def headwater (d : Dev) : Dev := ({ d with weir := { d.weir with head := some d.part.uid } } : Dev).setRf R.wxStatus 44 44 1
def child (d : Dev) : Dev := { d with weir := { d.weir with head := some 7 } }
def electing : State := weirSt (fun d => d.setReg R.wxStatus 1)
/-- What a codeword finds of the link: its word times are counted, and a NAK is repeated where one is due; a long wait for one drops the link. -/
def reached (f : Link → Link) : Dev := (((locked f).dev.wordTimes 0).modLink 0 (fun l => { l with line := [] })).nakAgain 0

theorem witness_FabricLinksAndFormationComplete_links :
    (locked id).dev.weirPort 0 = true ∧ ((locked id).dev.link 0).lock = true ∧ ((reached id).link 0).lock = true ∧
    ((reached (fun l => { l with nakWait := some 447 })).link 0).lock = false ∧ ((locked (fun l => { l with age := 4 })).dev.link 0).age = 4 ∧ ((locked id).dev.link 0).age < 4 ∧
    (List.replicate 80 (1 : Word)).length = 80 ∧ List.replicate 80 (1 : Word) ≠ List.replicate 80 0 ∧ (0#20).toNat / 1024 = ((reached id).link 0).rxNext ∧
    ((weirSt id).dev.link 0).lock = false ∧ (weirSt (fun d => d.setLane 0 2)).dev.portLocked 0 = true ∧
    electing.dev.weir.head = none ∧ electing.dev.wxState = 1 ∧ electing.dev.candidate.map (·.1) = some electing.dev.part.uid ∧
    (weirSt headwater).dev.isHead = true ∧ (weirSt headwater).dev.wxState = 2 ∧ (weirSt child).dev.weir.head ≠ none ∧ (weirSt child).dev.isHead = false ∧
    (weirSt id).dev.linkUp 0 = true ∧ (weirSt id).dev.member = true ∧
    bit ((weirSt id).dev.reg R.wxStatus) 45 = false ∧ (weirSt (fun d => (d.setRf R.wxStatus 3 0 3).setReg R.wxEpoch 1)).dev.wxState = 3 ∧
    ((weirSt (fun d => (d.setRf R.wxStatus 3 0 3).setReg R.wxEpoch 1)).dev.reg R.wxEpoch).toNat ≠ (weirSt id).dev.weir.drainEp ∧ (weirSt id).dev.weir.outs = [] ∧
    (weirSt id).dev.weir.inq = [] ∧ (weirSt id).dev.weir.tdb = [] ∧
    bit ((weirSt (fun d => d.setRf (R.wxTsctl 63) 56 56 1)).dev.reg (R.wxTsctl 63)) 56 = true := by decide +kernel

theorem witness_FabricLinksAndFormationComplete_packets :
    (weirSt id).Arrives 0 (pkt 9 0 0x10 0 [0, 0, 0, 0]) ∧ (weirSt id).Arrives 0 (pkt 7 1 0x10 0 [1, 2]) ∧ (weirSt id).Arrives 0 (pkt 7 1 0x10 0 [2, 2]) ∧
    (weirSt id).Arrives 0 (pkt 7 1 0x10 0 [3, 1]) ∧ (weirSt id).Arrives 0 (pkt 7 1 0x10 0 [4, 1]) ∧ (weirSt id).Arrives 0 (pkt 7 1 0x10 0 [5, 2]) ∧
    (weirSt id).Arrives 0 (pkt 7 1 0x10 0 [6, 2]) ∧ (weirSt id).Arrives 0 (pkt 7 0 0x10 0 [7, 2]) ∧ (weirSt id).Arrives 0 (pkt 7 0 0x10 0 [8, 2, 3]) ∧
    (weirSt id).Arrives 0 (pkt 8 0 0x10 0 [1, 0, 0]) ∧ (weirSt id).Arrives 0 (pkt 8 0 0x10 0 [2, 0]) ∧ (weirSt id).Arrives 0 (pkt 8 0 0x10 0 [3, 0, 0, 0]) := by
  refine ⟨?_, ?_, ?_, ?_, ?_, ?_, ?_, ?_, ?_, ?_, ?_, ?_⟩ <;> exact arrives (by decide +kernel)

/-- An acknowledgement has been sent. -/
def acked (pk : Pkt) : Dev := (((weirSt id).onDev (fun d => d.credit 0 pk)).respond pk (some 0) 0 0 0 []).dev

theorem witness_FabricLinksAndFormationComplete_fields :
    forMe (pkt 7 1 0x10 0 [3, word Part.model.uid]) (acked (pkt 7 1 0x10 0 [3, word Part.model.uid])) = true ∧ (acked (pkt 7 1 0x10 0 [5, 2])).isHead = false ∧
    (pkt 7 1 0x10 0 [5, 2]).typ = 7 ∧ (pkt 7 1 0x10 0 [5, 2]).flags % 2 = 1 ∧ fld ((pkt 7 1 0x10 0 [5, 2]).words.getD 0 0) 7 0 = 5 ∧
    ((weirSt (fun d => { d with weir := { d.weir with timeP := some 0 } })).dev.credit 0 (pkt 8 0 0x10 0 [1, 0, 0xF00000000])).weir.timeP = some 0 ∧
    fld ((pkt 8 0 0x10 0 [1, 0, 0xF00000000]).words.getD 2 0) 39 32 ≤ 15 := by decide +kernel

/-- An access of core 0 to device 0x20 that the outbound path has accepted. -/
def toWeir (wr : Bool) (timed : Option (Word × Word)) : ExtAcc := { posted with pa := 0x8000000000000 + 0x20 * 2 ^ 35, write := wr, st := .accepted, timed := timed }
def toWeirNext : ExtAcc := { toWeir true none with pa := 0x8000000000000 + 0x20 * 2 ^ 35 + 8, st := .waiting }
def kept9 : MgmtOut := { tag := 9, port := 0, pk := pkt 7 1 0x10 0 [1, 2], tries := 8 }
def waitingOut (l : List ExtAcc) : State := weirSt (fun d => { d with ext := l, weir := { d.weir with tab := [(2 * 512 + 2 * 0x20, 1)] } })
def ofAgent0 (s : State) : List ExtAcc := s.dev.ext.filter (fun e => e.weir && decide (e.agent = 0) && (decide (e.st = .accepted) || decide (e.st = .waiting)))

theorem witness_FabricLinksAndFormationComplete_outbound :
    ofAgent0 (waitingOut [toWeir true none, toWeirNext]) = [toWeir true none, toWeirNext] ∧ mergeRun (toWeir true none) 1 8 [toWeirNext] = [toWeirNext] ∧
    ofAgent0 (waitingOut [toWeir false none]) = [toWeir false none] ∧ ofAgent0 (waitingOut [toWeir true (some (1, 2))]) = [toWeir true (some (1, 2))] ∧
    (toWeir true none).pa / 2 ^ 35 % 65536 = 0x20 ∧ (weirSt (fun d => d.setRf R.wxStatus 3 0 3)).dev.outLocal 0x20 1 = some (5, 7) ∧ (waitingOut []).dev.outLocal 0x20 3 = none ∧
    (waitingOut []).dev.outLocal 0x20 2 = none ∧ (waitingOut []).dev.outLocal 0x20 1 = none ∧ (weirSt id).dev.weir.outs.length < 8192 ∧ (weirSt id).dev.takeTag.1 = 0 ∧
    (weirSt (fun d => { d with weir := { d.weir with mgmt := [kept9] } })).dev.weir.mgmt.find? (fun m => decide (m.tag = 9)) = some kept9 ∧ 8 ≤ kept9.tries := by decide +kernel

/-- Group 0's spare in reserve for the neighbour of port 0; lane 135 under test. -/
def spared : State := weirSt (fun d => d.setRf (spareReg 0) 62 60 2)
def spareAsked (l : Nat) : State := spared.onDev (fun d => d.setReg (spareReg 0) (setFld (setBit (d.reg (spareReg 0)) 63 true) 3 0 l))
def testLane (mode st port : Nat) : State :=
  (app id).onDev (fun d => ((d.setReg (R.laneTest 135) (setFld 0x8000000000000000 62 60 mode)).setLane 135 st).setRf (R.laneStatus 135) 15 8 port)
/-- Lane 16, the spare of group 0, and lane 0 of port 0 in training. -/
def trainLane (l : Nat) : State := weirSt (fun d => ((d.setLane l 1).setRf (R.laneStatus 16) 15 8 0xFF).setRf (R.laneStatus 0) 15 8 0)

theorem witness_LaneAndEthernetCommandsComplete_lanes :
    (trainLane 16).dev.laneState 16 = 1 ∧ (trainLane 16).dev.part.order.lane 16 = true ∧ 16 = (trainLane 16).dev.spareLane (16 / 17) ∧ (trainLane 16).dev.lanePort 16 = 0xFF ∧
    (trainLane 0).dev.laneState 0 = 1 ∧ 0 ≠ (trainLane 0).dev.spareLane (0 / 17) ∧
    bit (((app id).onDev (fun d => (d.setLane 135 1).setRf (R.laneStatus 135) 1 1 1)).dev.reg (R.laneStatus 135)) 1 = true ∧
    ((app id).onDev (fun d => (d.setLane 135 1).setRf (R.laneStatus 135) 1 1 1)).dev.laneState 135 = 1 ∧ spared.dev.spareState 0 = 2 ∧
    ((spared.onDev (fun d => d.askSpare 0 0 false)).dev.spare 0).ask.isSome = true ∧ bit ((spareAsked 0).dev.reg (spareReg 0)) 63 = true ∧ ((spareAsked 0).dev.spare 0).ask = none ∧
    ((spareAsked 0).dev.spare 0).sw = none ∧ (spareAsked 0).dev.rf (spareReg 0) 3 0 = 0 ∧ (spareAsked 0).dev.spareUsable 0 0 = true ∧ (spareAsked 15).dev.rf (spareReg 0) 3 0 = 15 ∧
    (spareAsked 15).dev.spareUsable 0 15 = false ∧ ((app id).onDev (fun d => d.setLane 135 2)).dev.laneState 135 = 2 ∧ (app id).dev.part.order.lane 135 = true ∧
    (∀ mode, mode ∈ [1, 2, 3] → (testLane mode 5 0xFF).dev.rf (R.laneTest 135) 62 60 = mode ∧ bit ((testLane mode 5 0xFF).dev.reg (R.laneTest 135)) 63 = true ∧
      (testLane mode 5 0xFF).dev.laneState 135 ≠ 4 ∧ (testLane mode 5 0xFF).dev.laneFree 135 = true ∧ (testLane mode 2 0).dev.laneFree 135 = false) ∧
    bit ((testLane 3 4 0xFF).dev.reg (R.laneTest 135)) 63 = true ∧ (testLane 3 4 0xFF).dev.laneState 135 = 4 := by decide +kernel

/-- Port 3 an Ethernet port of pond 0, its link up, receiver and transmitter on. -/
def eth (f : Dev → Dev) : State :=
  (app id).onDev (fun d => f ((({ d with felt := { d.felt with cfg := d.felt.cfg ++ [.port 3 1 2 0 0] } } : Dev).setReg (R.ethCtl 3) 7).setRf (R.ethStatus 3) 63 63 1))
/-- A broadcast frame of 60 zero bytes after its addresses, with its FCS. -/
def frame : List Byte := let f := List.replicate 6 0xFF#8 ++ List.replicate 54 0; f ++ bytesLE 4 (crc32 f)
/-- Ring 0's one descriptor at 0x1000: a frame of 64 bytes at 0x2000. -/
def sending : State :=
  let s := eth (fun d => (d.setReg (R.ethTxbase 3 0) 0x1000).setRf (R.ethTxtail 3 0) 11 0 1)
  { s with mem := { s.mem with img := [(0x1001, 0x20), (0x1008, 0x40), (0x100F, 0x80)] } }
/-- The descriptor's ring beyond the pond's DRAM. -/
def sendingBad : State := eth (fun d => (d.setReg (R.ethTxbase 3 0) 0x100000).setRf (R.ethTxtail 3 0) 11 0 1)

theorem witness_LaneAndEthernetCommandsComplete_frames :
    (ethOwner (eth id).dev.felt.cfg 3).isSome = true ∧ (eth id).dev.part.order.port 3 = true ∧ bit ((eth id).dev.reg (R.ethStatus 3)) 63 = true ∧
    frame.length = 64 ∧ leAt frame (frame.length - 4) 4 = crc32 (frame.take (frame.length - 4)) ∧ (ethHead (frame.take 60)).etype ≠ 0x8808 ∧
    leAt (List.replicate 64 0 : List Byte) 60 4 ≠ crc32 (List.replicate 60 0) ∧
    (eth id).dev.felt.cfg.filter (fun r => match r with
      | .atbSource _ 2 i _ sel => decide (i = 3) && decide ((ethHead (frame.take 60)).etype = 0x88BA) && decide ((ethHead (frame.take 60)).appid = some sel)
      | .atbSource _ 3 i _ _ => decide (i = 3) && decide ((ethHead (frame.take 60)).etype = 0x88F7)
      | _ => false) = [] ∧
    ((eth id).onDev (fun d => d.wrapAdd (R.ethAtbfeed 3) 63 0 0)).dev.ethFilter 3 (ethHead (frame.take 60)) = true ∧
    ((eth (fun d => d.setReg (R.ethCtl 3) 3)).onDev (fun d => d.wrapAdd (R.ethAtbfeed 3) 63 0 0)).dev.ethFilter 3 { ethHead (frame.take 60) with dst := 2 } = false ∧
    (∀ k, k < 16 → ((eth id).onDev (fun d => d.wrapAdd (R.ethAtbfeed 3) 63 0 0)).dev.ruleHit 3 k (ethHead (frame.take 60)) = false) ∧
    bit (((eth id).onDev (fun d => d.wrapAdd (R.ethAtbfeed 3) 63 0 0)).dev.reg (R.ethCtl 3)) 0 = true ∧
    (eth (fun d => d.setPtpQueue 3 [frame.take 60])).dev.ptpQueue 3 = [frame.take 60] ∧ Tab.get (fun _ => 0) (eth (fun d => { d with lane := { d.lane with wback := [(15, 1)] } })).dev.lane.wback (4 * 3 + 3) ≠ 0 ∧
    (eth (fun d => d.setRf (R.ethRxctl 3 3) 43 32 1)).dev.rf (R.ethRxctl 3 3) 43 32 ≠ 0 := by decide +kernel

theorem witness_LaneAndEthernetCommandsComplete_transmit :
    sending.dev.ptpQueue 3 = [] ∧ bit (sending.dev.reg (R.ethCtl 3)) 1 = true ∧ sending.dev.txRing 3 = some 0 ∧ sending.Open (sending.dev.ethReq 3) 0x1000 32 ∧
    (∀ l ∈ linesOf 0x1000 32, sending.mem.Unpoisoned l) ∧ (sending.dev.reg (R.ethTxbase 3 0)).toNat + 32 * (sending.dev.rf (R.ethTxhead 3 0) 11 0 % ringSize (sending.dev.rf (R.ethTxctl 3 0) 3 0)) = 0x1000 ∧
    word (leAt (sending.mem.bytes 0x1000 32) 8 8) = 0x8000000000000040 ∧ bit (sending.dev.reg (R.ethStatus 3)) 63 = true ∧ leAt (sending.mem.bytes 0x1000 32) 0 8 / 64 * 64 % 2 ^ 52 = 0x2000 ∧
    sending.Open (sending.dev.ethReq 3) 0x2000 64 ∧ (∀ l ∈ linesOf 0x2000 64, sending.mem.Unpoisoned l) ∧
    sendingBad.dev.ptpQueue 3 = [] ∧ sendingBad.dev.txRing 3 = some 0 ∧ prange 0x100000 = .dram ∧ sendingBad.dev.dramAdmit (sendingBad.dev.ethReq 3) 0x100000 32 = false :=
  ⟨by decide +kernel, by decide +kernel, by decide +kernel, open_of (by decide +kernel), fun l _ => unpoisoned (by decide +kernel) l, by decide +kernel, by decide +kernel,
    by decide +kernel, by decide +kernel, open_of (by decide +kernel), fun l _ => unpoisoned (by decide +kernel) l, by decide +kernel, by decide +kernel, by decide +kernel,
    by decide +kernel⟩

/-- The endpoint reached: function 0 of pond 0 with Memory Space Enable, 2 MiB of BAR2 onto DRAM from 0. -/
def host (f : Dev → Dev) : State :=
  (app id).onDev (fun d => f (((({ d with felt := { d.felt with cfg := d.felt.cfg ++ [.function 0 2 0 1] } } : Dev).setRf R.pepStatus 63 63 1).setCfg 0 4 6).setRf (R.pepSizes 0) 47 32 1))

theorem witness_HostRequestsComplete :
    (host id).dev.hostReach = true ∧ (host id).dev.hostServes = true ∧ (host id).dev.mse 0 = true ∧ (host id).dev.flrBusy 0 = false ∧ 0xFFF8 + 8 ≤ bar0Size 0 ∧ 0xFFF8 % 8 = 0 ∧
    0xFFC0 + 64 ≤ (host id).dev.bar2Size 0 ∧ (host id).dev.bar2At 0 0xFFC0 64 = some 0xFFC0 ∧ (host id).Open ((host id).dev.fnReq 0) 0xFFC0 64 ∧
    (∀ l ∈ linesOf 0xFFC0 64, (host id).mem.Unpoisoned l) ∧ (host id).dev.bar2At 0 0x10000 64 = some 0x10000 ∧ prange 0x10000 = .dram ∧
    (host id).dev.dramAdmit ((host id).dev.fnReq 0) 0x10000 64 = false ∧
    (host (fun d => d.setRf (R.pepSizes 0) 47 32 2)).dev.bar2At 0 0x3FFFC0 64 = some 0x3FFFC0 ∧
    (host (fun d => d.setCfg 0 0x44 3)).dev.bar2At 0 0 1 = none ∧ ((host (fun d => d.setCfg 0 0x30 1)).dev.cfg 0 0x30).testBit 0 = true ∧ 0xEFFFF + 1 ≤ 0xF0000 ∧
    (0 : Word) ≠ 0x44455652 ∧ fld (0 : Word) 31 0 ≠ 0x44455652 ∧ fld (0 : Word) 31 0 ≠ 0x50575243 :=
  ⟨by decide +kernel, by decide +kernel, by decide +kernel, by decide +kernel, by decide +kernel, by decide, by decide +kernel, by decide +kernel, open_of (by decide +kernel),
    fun l _ => unpoisoned (by decide +kernel) l, by decide +kernel, by decide +kernel, by decide +kernel, by decide +kernel, by decide +kernel, by decide +kernel, by decide,
    by decide, by decide, by decide⟩

/-- A queue command or doorbell of the pond's side waits for function 0, pair 3. -/
def qcmd (c limit : Nat) (on : Bool) : State :=
  host (fun d => (({ d with pep := { d.pep with qcmd := [(0, 3, c, limit)] } } : Dev).setRf (R.pepFncfg 0) 45 39 4).setQp 0 3 { QPair.off with on := on })
def qdb (kind v : Nat) : State := host (fun d => ({ d with pep := { d.pep with qdb := [(0, 3, kind, v)] } } : Dev).setQp 0 3 { QPair.off with on := true, ctx := List.replicate 8 0 })
/-- The command that waits has been taken. -/
def taken (x : Option (Nat × Nat × Nat × Dev)) : Option (Nat × Nat × Nat) := x.map (fun y => (y.1, y.2.1, y.2.2.1))

theorem witness_HostFunctionsAndQueuesComplete :
    (host id).dev.fnExists 0 = true ∧ (host (fun d => (d.setCfg 0 0x158 9).setCfg 0 0x160 128)).dev.fnExists 128 = true ∧
    (host (fun d => { d with pep := { d.pep with flr := [(1, true)] } })).dev.flrBusy 1 = true ∧ (host id).dev.pep.reads = [] ∧ (host id).dev.vfEnable = false ∧
    (host (fun d => d.setCfg 0 0x158 9)).dev.vfEnable = true ∧ (host id).dev.domState 4 = 0 ∧
    taken ((qcmd 2 0 true).dev.nextQcmd 2) = some (0, 3, 0) ∧ taken ((qcmd 3 65 false).dev.nextQcmd 3) = some (0, 3, 65) ∧ taken ((qcmd 3 64 false).dev.nextQcmd 3) = some (0, 3, 64) ∧
    taken ((qcmd 3 0 false).dev.nextQcmd 3) = some (0, 3, 0) ∧ (∀ k, k < 64 → ((qcmd 3 0 false).dev.qp 0 k).on = false) ∧
    taken ((qcmd 1 0 false).dev.nextQcmd 1) = some (0, 3, 0) ∧ 3 < (qcmd 1 0 false).dev.qlimit 0 ∧ ((qcmd 1 0 false).onDev (fun d => d.setRf (R.pepFncfg 0) 45 39 3)).dev.qlimit 0 ≤ 3 ∧
    ((qcmd 1 0 false).dev.qp 0 3).on = false ∧ ((qcmd 1 0 true).dev.qp 0 3).on = true ∧ ((qcmd 1 0 false).dev.reg (R.pepQctxbase 0)).toNat / 64 * 64 + 64 * 3 = 0xC0 ∧
    (qcmd 1 0 false).Open ((qcmd 1 0 false).dev.fnReq 0) 0xC0 64 ∧ (∀ l ∈ linesOf 0xC0 64, (qcmd 1 0 false).mem.Unpoisoned l) ∧
    taken ((qdb 0 1).dev.nextQdb 0) = some (0, 3, 1) ∧ taken ((qdb 1 1).dev.nextQdb 1) = some (0, 3, 1) ∧ ((qdb 1 1).dev.qp 0 3).on = true := by
  refine ⟨?_, ?_, ?_, ?_, ?_, ?_, ?_, ?_, ?_, ?_, ?_, ?_, ?_, ?_, ?_, ?_, ?_, ?_, open_of ?_, fun l _ => unpoisoned ?_ l, ?_, ?_, ?_⟩ <;> decide +kernel

/-- An access of core 0 to host memory of function 0 that the endpoint has accepted. -/
def toHost (qos : Nat) (wr : Bool) : ExtAcc := { posted with weir := false, pa := hostBase + 0xFF8, write := wr, qos := qos, st := .accepted }
def hostOut (e : List ExtAcc) (bme : Bool) : State :=
  host (fun d => ((({ d with ext := e } : Dev).setRf (R.pepSizes 0) 24 0 1).setCfg 0 4 (if bme then 6 else 2)))
def read9 : PRead := { tag := 9, fn := 0, addr := 0, len := 8, got := [], use := .access 0 0 0 }
def nextOut (s : State) : Option ExtAcc := s.dev.outNext.map (·.1)

theorem witness_OutboundAndDmaCommandsComplete :
    (hostOut [] true).dev.outReady = [] ∧ (hostOut [toHost 1 true, toHost 0 false] true).dev.outReady.find? (fun e => decide (e.qos = 0)) = some (toHost 0 false) ∧
    nextOut (hostOut [toHost 0 true] true) = some (toHost 0 true) ∧ nextOut (hostOut [toHost 1 false] true) = some (toHost 1 false) ∧
    ((toHost 1 true).pa - hostBase) / 2 ^ 36 = 0 ∧ (hostOut [toHost 0 true] true).dev.mayBus 0 = true ∧ (hostOut [toHost 0 true] false).dev.mayBus 0 = false ∧
    nextOut (hostOut [toHost 0 true] false) = some (toHost 0 true) ∧
    (host (fun d => { d with pep := { d.pep with reads := [read9] } })).dev.pep.reads.find? (fun r => decide (r.tag = 9)) = some read9 ∧
    read9.len ≤ (read9.got ++ bytesLE 8 5).length ∧
    (host (fun d => { d with pep := { d.pep with squash := [(9, 0)] } })).dev.pep.squash.find? (fun x => decide (x.1 = 9)) = some (9, 0) ∧
    (host (fun d => { d with pep := { d.pep with squash := [(9, 0)] } })).dev.pep.reads.find? (fun r => decide (r.tag = 9)) = none ∧ 128 ≤ 128 ∧ 63 < 64 ∧
    ((app id).onDev (fun d => d.setJob 63 (some { src := 0, dst := 0, ctl := 0, posted := none }))).dev.job 63 = some { src := 0, dst := 0, ctl := 0, posted := none } := by
  decide +kernel

/-- Pin 255 an input of pond 0, high, with a stuck time and the longest filter. -/
def pinned : State :=
  (app id).onDev (fun d => (({ d with felt := { d.felt with cfg := d.felt.cfg ++ [.pin 255 0 1 0] }, pins := { d.pins with inp := [(255, true)] } } : Dev).setRf (R.pinCfg 255) 31 16 1).setRf
    (R.pinCfg 255) 43 40 15)

theorem witness_PinsAndRegistersComplete :
    255 < 256 ∧ pinned.dev.pinFilter 255 ≤ 20 * 2 ^ 14 ∧ 20 * 2 ^ 14 - 1 < pinned.dev.pinFilter 255 ∧ pinOwner pinned.dev.felt.cfg 255 = some (0, true, 0) ∧ pinned.dev.pinIn 255 = true ∧
    pinned.dev.rf (R.pinCfg 255) 31 16 ≠ 0 ∧ bit (pinned.dev.reg (R.pinCfg 255)) 0 = false ∧ 3 < 4 ∧ (app id).dev.felt.felted = true ∧ (app id).dev.pins.resetLow = false ∧
    State.reset.dev.felt.felted = false := by decide +kernel

/-- A step of core 0 that runs an instruction. -/
def running : State := { app id with pending := [.nop (h16 0)] }

theorem step_runs {s : State} (h : (match step s with
    | .next _ => true
    | _ => false) = true) : ∃ t, step s = .next t := by
  split at h
  · next t e => exact ⟨t, e⟩
  · cases h

theorem witness_StepsKeepSoundness : State.reset.Sound ∧ running.Sound ∧ step State.reset = .next State.reset ∧ ∃ t, step running = .next t := by
  refine ⟨⟨?_, ?_, ?_⟩, ⟨?_, ?_, ?_⟩, rfl, step_runs ?_⟩ <;> decide +kernel

theorem witness_StepsKeepCoresShaped : (∀ k, (running.core k).Shaped) ∧ ∃ t, step running = .next t := by
  refine ⟨fun k => ?_, step_runs (by decide +kernel)⟩
  cases k with
  | zero => exact shaped_of (by decide +kernel)
  | succ n => exact ⟨⟨rfl, rfl, rfl⟩, ⟨rfl, rfl, rfl⟩, rfl, ⟨rfl, rfl⟩, fun o h => (List.not_mem_nil h).elim⟩

theorem witness_FusesOnlyGrow : step State.reset = .next State.reset ∧ State.reset.fuses.keys[0]? = some (some (p384Gx, p384Gy)) := ⟨rfl, by decide +kernel⟩
/-! ### Ill-formed commands are refused -/

def badCore : Hd := h32 260

theorem test_ill_formed_cores :
    (Instr.nop badCore).wf = false ∧ (Instr.takeInterrupt 300).wf = false ∧ (Instr.nop (h32 259)).wf = true ∧ (Instr.nop (h32 0x1FF)).wf = true ∧
    (Instr.rdataAccess rq0 256 true 0).wf = false := by decide

theorem test_ill_formed_requests :
    ({ rq0 with pond := 32 } : Req).wf = false ∧ rq0.wf = true ∧ (Instr.rejoin { rq0 with pond := 32 }).wf = false ∧ (Instr.registerWrite rq0 0 3 0).wf = false ∧
    (Instr.debugPortAccess 32 true 0 8 true 0).wf = false ∧ (Instr.debugPortAccess 0 true 0 5 true 0).wf = false := by decide

theorem test_ill_formed_events :
    (evOf 32).wf = false ∧ (evOf 0).wf = true ∧ ({ evOf 0 with kind := 0 } : SluiceEv).wf = false ∧ ({ evOf 0 with kind := 7 } : SluiceEv).wf = false ∧
    ({ evOf 0 with src := 65536 } : SluiceEv).wf = false ∧ ({ evOf 0 with cluster := 32 } : SluiceEv).wf = false ∧ ({ evOf 0 with slot := 1024 } : SluiceEv).wf = false := by decide

theorem test_ill_formed_packets :
    let p : Pkt := { ver := 1, typ := 1, qos := 3, secure := true, pond := 31, dst := 0, src := 0, hops := 15, flags := 0, len := 32, seq := 0, stamp := 0, hcrc := 0, words := [], crc := 0 }
    p.wf = true ∧ { p with ver := 16 }.wf = false ∧ { p with typ := 16 }.wf = false ∧ { p with qos := 4 }.wf = false ∧ { p with pond := 32 }.wf = false ∧
    { p with dst := 65536 }.wf = false ∧ { p with src := 65536 }.wf = false ∧ { p with hops := 16 }.wf = false ∧ { p with flags := 16 }.wf = false ∧
    { p with seq := 65536 }.wf = false ∧ { p with stamp := 2 ^ 32 }.wf = false ∧ { p with len := 33 }.wf = false := by decide

theorem test_ill_formed_numbers :
    (Instr.markFire 0xFF 64).wf = false ∧ (Instr.markFire 31 16).wf = false ∧ (Instr.markFire 32 0).wf = false ∧ (Instr.markFire 31 15).wf = true ∧
    (Instr.ctxCreate 32).wf = false ∧ (Instr.ctxdataWrite rq0 0 8 0).wf = false ∧ (Instr.clusterTimerExpiry 0 16).wf = false ∧ (Instr.sourceEdge 2048 true).wf = false ∧
    (Instr.pendset rq0 32 0).wf = false ∧ (Instr.sourceLost 8).wf = false ∧ (Instr.atbSettingWrite rq0 4 0).wf = false ∧ (Instr.dirprobe 32).wf = false ∧
    (Instr.avsAlert 4).wf = false ∧ (Instr.domainWake 53).wf = false ∧ (Instr.retraining 16 0 0).wf = false ∧ (Instr.zqCalibration 0 4).wf = false ∧
    (Instr.helloSend 128).wf = false ∧ (Instr.tdbRelease 8).wf = false ∧ (Instr.timedSendGo 64).wf = false ∧ (Instr.spareGo 8).wf = false ∧ (Instr.laneFault 136).wf = false := by decide

theorem test_ill_formed_host_commands :
    (Instr.ringItimeExpiry 0 4).wf = false ∧ (Instr.flr 129).wf = false ∧ (Instr.bar0Request 0 0 3 true 0).wf = false ∧ (Instr.configWrite 0 0 8 0).wf = false ∧
    (Instr.configWrite 129 0 4 0).wf = false ∧ (Instr.sqtdb 0 64 0).wf = false ∧ (Instr.dmaRestart rq0 64).wf = false ∧ (Instr.ksbindWrite rq0 16 0).wf = false ∧
    (Instr.gpInputChange 256 true 0).wf = false ∧ (Instr.outset rq0 4 0).wf = false ∧ (Instr.digestPiece 0x18).wf = false ∧ (Instr.digestPiece 0x10).wf = false ∧
    (Instr.pcieLinkUp 6 16).wf = false ∧ (Instr.pcieLinkUp 5 3).wf = false ∧ (Instr.channelRead 0 0 32 0 []).wf = false ∧ (Instr.flitReceive 64 0 flit0 []).wf = false ∧
    (Instr.flitReceive 63 4 flit0 []).wf = false := by decide

/-! ### Worked examples of the spec -/

/-- The state that a command leaves. -/
def next (i : Instr) (s : State) : State :=
  match exec i s with
  | .next t => t
  | _ => s

/-- The example frame of 04: SP = 0x7FFF_F000, CALL at 0x4200 with mask 0b110. -/
def frameSt : State :=
  let s := app (fun c => { c with b0 := { c.b0 with sp := 0x7FFFF000, pc := 0x4200, x := 11, y := 22 } })
  { s with dev := { s.dev with felt := { s.dev.felt with cfg := [.pond 0 1 0 1 0 0 0, .dramRange 0 1 0 0x80000000] } } }

theorem test_call_example_frame :
    (((next (.call (h32 0) 6 0x100) frameSt).core 0).sbuf.map (fun x => (x.pa, leAt x.bytes 0 8)) =
      [(0x7FFFEFF8, 22), (0x7FFFEFF0, 11), (0x7FFFEFE8, 6), (0x7FFFEFE0, 0x4204)]) ∧
    ((next (.call (h32 0) 6 0x100) frameSt).core 0).bank.sp = 0x7FFFEFE0 := by decide +kernel

/-- The LOOPI #3,0x1008 at 0x1004 of the worked example of 05. -/
def loopSt : State := app (fun c => { c with b0 := { c.b0 with pc := 0x1004 } })

theorem test_loopi_example :
    (let b := ((next (.loopi (h32 0) 0x0302 false) loopSt).core 0).bank
     b.ls.getD 0 0 = 0x1008 ∧ b.le.getD 0 0 = 0x1008 ∧ b.lc.getD 0 0 = 3 ∧ b.ldepth = 1 ∧ b.pc = 0x1008) := by decide +kernel

/-- The home of the line at 0x0010_8036_7880: slice 21 over all slices, slice 5 with the colour mask 0xF0 (09). -/
def homeSt (colour : Nat) : State := st [.pond 3 0 0 1 0 colour 0, .dramRange 3 0xFFFF 0x1000000000 0x100000000] []

theorem test_home_slice_example : (homeSt 0).dev.home 0x1080367880 = 21 ∧ (homeSt 0xF0).dev.home 0x1080367880 = 5 := by decide +kernel

/-- The read of 1,600 bytes with Max_Read_Request_Size 512 of 14. -/
theorem test_host_read_split_example :
    splitAt4k 512 8 0x123456F00 1600 = [(0x123456F00, 256), (0x123457000, 512), (0x123457200, 512), (0x123457400, 320)] := by decide +kernel

/-- LEAD = 40 at 50 Hz is 0x0083_126F units (16): the wake begins there and not a unit before. -/
def leadSt (now : Word) : State :=
  clusterOff.onDev (fun d => ((((d.setRf (R.pwrDomctl 21) 23 12 40).setReg (R.cluMkctl 0 15) 0x80000000).setReg (R.cluMkangle 0 15) 0x80000000).setReg R.atbFreq 50000000).setReg R.atbNow now)

theorem test_wake_lead_example :
    ((next (.wakeLead 0) (leadSt (0x80000000 - 0x83126F))).dev.transOf 21).isSome = true ∧
    ((next (.wakeLead 0) (leadSt (0x80000000 - 0x831270))).dev.transOf 21) = none := by decide +kernel

/-- The division corners of R136: -2^63 / -1 is -2^63 with V = 1. -/
def divSt : State :=
  let s := app (fun c => { c with b0 := { c.b0 with a := 0x8000000000000000 }, lopstat := 0x8000000000000000 })
  { s with mem := { s.mem with img := (List.range 8).map (fun i => (64 + i, 0xFF#8)) } }

theorem test_div_overflow :
    ((next (.div (h32 0) ldAbs) divSt).core 0).bank.a = 0x8000000000000000 ∧ bit ((next (.div (h32 0) ldAbs) divSt).core 0).bank.fl flV = true := by decide +kernel

/-- The header of the timed write of 12, DST 0x0405, SRC 0x0404, SEQ 0x01A7, pond 3, STAMP 0x0004_00DC: its first 14 bytes. -/
theorem test_weir_header_example :
    ({ ver := 2, typ := 2, qos := 0, secure := false, pond := 3, dst := 0x0405, src := 0x0404, hops := 0, flags := 0, len := 11, seq := 0x01A7, stamp := 0x000400DC, hcrc := 0
       words := [], crc := 0 } : Pkt).head = [0x22#8, 0x03, 0x04, 0x05, 0x04, 0x04, 0x00, 0x0B, 0x01, 0xA7, 0x00, 0x04, 0x00, 0xDC] := by decide +kernel

/-- Words of the worked example of 05: LOOPI #3,0x1008, MAC.V #64 and ST.D A,[SP+16]; and an encoding that it marks reserved (the
M opcode 0x1F). -/
theorem test_words_of_the_worked_example :
    kreleWord (h32 0) 0x0030237B = some (.loopi (h32 0) 0x0302 false) ∧
    kreleWord (h32 0) 0x000400BB = some (.macV (h32 0) { n := 64, bit7 := false, xov := false, xseg := 0, yov := false, yseg := 0 }) ∧
    kreleWord (h16 0) 0x0508 = some (.st (h16 0) { size := 3, mode := 2, disp := 2, seg := 0, ov := false }) ∧
    insnLen 0x0030237B = 4 ∧ insnLen 0x0508 = 2 ∧ kreleWord (h32 0) 0x000000EF = none := by decide +kernel

/-- Settling and the idle step: with no command the block idles. -/
theorem test_idle_step : step State.reset = .next State.reset := rfl

end Sys2Proof.Tests
end

section
/-! SUPPORT. One step, and what the commands of the pins, of the register file and of the debug port's instruction register
do (19 R512 to R523, R525). -/

open Sys2Proof Sys2Proof.Machine

namespace Sys2Proof.Machine

/-! ### One step -/

theorem step_of_pending_nil {s : State} (h : s.pending = []) : step s = .next s := by
  rw [step, h]

theorem step_of_pending_cons {s : State} {c : Instr} {rest : List Instr} (h : s.pending = c :: rest) :
    step s = exec c { s with pending := rest } := by
  rw [step, h]

/-! ### General pins -/

theorem exec_gpInputChange_of_filter_le {s : State} {n held : Nat} (level : Bool) (hn : n < 256) (h : s.dev.pinFilter n ≤ held) :
    exec (.gpInputChange n level held) s = .next (s.onDev (fun d => d.pinLevel n (level != bit (d.reg (R.pinCfg n)) 45))).settle := by
  change execGpInputChange n level held s = _
  rw [execGpInputChange, if_pos hn, if_neg (Nat.not_lt.2 h), done]

theorem exec_gpInputChange_of_lt_filter {s : State} {n held : Nat} (level : Bool) (hn : n < 256) (h : held < s.dev.pinFilter n) :
    exec (.gpInputChange n level held) s = .next s := by
  change execGpInputChange n level held s = _
  rw [execGpInputChange, if_pos hn, if_pos h]

/-- The time-out acts on an owned input that is asserted, whose TMO is set and whose STUCK is clear (R515). -/
theorem exec_pinStuckTimeout_of_input {s : State} {n p : Nat} {sec : Bool} (hn : n < 256) (howner : pinOwner s.dev.felt.cfg n = some (p, sec, 0))
    (hin : s.dev.pinIn n = true) (htmo : s.dev.rf (R.pinCfg n) 31 16 ≠ 0) (hstuck : bit (s.dev.reg (R.pinCfg n)) 0 = false) :
    exec (.pinStuckTimeout n) s = .next (s.onDev (fun d => (d.setRf (R.pinCfg n) 0 0 1).satInc R.pinStatus 47 32)) := by
  change execPinStuckTimeout n s = _
  simp [execPinStuckTimeout, hn, howner, hin, htmo, hstuck]

/-! ### Writes of registers and the SMBus time-out -/

theorem exec_outset {j : Nat} (rq : Req) (bits : Word) (s : State) (hj : j < 4) :
    exec (.outset rq j bits) s = .next (s.regWrite rq (R.pinOutset j) 8 bits).settle := by
  change execOutset rq j bits s = _
  rw [execOutset, Nat.mod_eq_of_lt hj, done]

theorem exec_outclr {j : Nat} (rq : Req) (bits : Word) (s : State) (hj : j < 4) :
    exec (.outclr rq j bits) s = .next (s.regWrite rq (R.pinOutclr j) 8 bits).settle := by
  change execOutclr rq j bits s = _
  rw [execOutclr, Nat.mod_eq_of_lt hj, done]

theorem exec_registerWrite (rq : Req) (off size : Nat) (v : Word) (s : State) :
    exec (.registerWrite rq off size v) s = .next (s.regWrite rq off size v).settle := rfl

theorem exec_smbusTimeout (s : State) : exec .smbusTimeout s = .next (s.onDev (fun d => { d with pins := { d.pins with busHeld := false } })) := rfl

/-! ### The debug port's instruction register -/

theorem exec_bypass (s : State) : exec .bypass s = .next (s.onDev (fun d => d.jtag .bypass)) := rfl
theorem exec_debug (s : State) : exec .debug s = .next (s.onDev (fun d => d.jtag .debug)) := rfl
theorem exec_extest (s : State) : exec .extest s = .next (s.onDev (fun d => d.jtag .extest)) := rfl
theorem exec_clamp (s : State) : exec .clamp s = .next (s.onDev (fun d => d.jtag .clamp)) := rfl
theorem exec_highz (s : State) : exec .highz s = .next (s.onDev (fun d => d.jtag .highz)) := rfl

theorem exec_idcode (s : State) :
    exec .idcode s = .next (s.onDev (fun d => { d with pins := { d.pins with jins := .idcode, dr := word (idcode d.part) } })) := rfl

/-- SAMPLE captures the levels at the lands as IN shows them under the instruction that stood before, and loads the cells (R523). -/
theorem exec_samplePreload (levels : List Bool) (s : State) :
    exec (.samplePreload levels) s = .next (s.onDev (fun d => { d with pins := { d.pins with
      jins := .sample
      dr := d.pinValue 0x100 0
      cells := (List.range 256).foldl (fun t n => Tab.set (fun _ => false) t n (levels.getD n false)) [] } })) := rfl

/-- The instructions that drive lands (R523). -/
def JtagIns.DrivesLands (i : JtagIns) : Prop := i = .extest ∨ i = .clamp ∨ i = .highz

@[simp] theorem Dev.jtag_jins (d : Dev) (i : JtagIns) : (d.jtag i).pins.jins = i := rfl
@[simp] theorem Dev.jtag_resetLow (d : Dev) (i : JtagIns) : (d.jtag i).pins.resetLow = d.pins.resetLow := rfl
@[simp] theorem Dev.jtag_felt (d : Dev) (i : JtagIns) : (d.jtag i).felt = d.felt := rfl

theorem Dev.portIns_of_drivesLands {d : Dev} (h : d.pins.jins.DrivesLands) :
    d.portIns = if d.felt.felted && !d.pins.resetLow then .bypass else d.pins.jins := by
  rcases h with h | h | h <;> rw [Dev.portIns, h]

theorem Dev.portIns_jtag_felted {d : Dev} {i : JtagIns} (hi : i.DrivesLands) (hfelt : d.felt.felted = true) (hreset : d.pins.resetLow = false) :
    (d.jtag i).portIns = .bypass := by
  rw [Dev.portIns_of_drivesLands hi]
  simp [hfelt, hreset]

theorem Dev.portIns_jtag_unfelted_or_reset {d : Dev} {i : JtagIns} (hi : i.DrivesLands)
    (h : d.felt.felted = false ∨ d.pins.resetLow = true) : (d.jtag i).portIns = i := by
  rw [Dev.portIns_of_drivesLands hi]
  rcases h with h | h <;> simp [h]

end Sys2Proof.Machine

/-! ### The statements of the scope -/

/-- Settles O1: the two equations of a step, by the two forms of the queue. -/
theorem stepRunsFront : Obligations.StepRunsFront :=
  ⟨fun _ _ _ => step_of_pending_cons rfl, fun _ => step_of_pending_nil⟩

/-- Settles O55: each clause is the equation of its command; whether the port's instruction acts follows from
`Dev.portIns` on the instructions that drive lands. -/
theorem pinsAndRegistersComplete : Obligations.PinsAndRegistersComplete := by
  intro s
  refine ⟨fun n level held hn => ⟨exec_gpInputChange_of_filter_le level hn, exec_gpInputChange_of_lt_filter level hn⟩,
    fun n p sec => exec_pinStuckTimeout_of_input, fun rq j bits hj => ⟨exec_outset rq bits s hj, exec_outclr rq bits s hj⟩,
    fun rq off size v => exec_registerWrite rq off size v s, exec_smbusTimeout s, exec_bypass s, exec_debug s,
    ⟨_, exec_idcode s, rfl, rfl, rfl, rfl, rfl⟩, fun levels => ⟨_, exec_samplePreload levels s, rfl, rfl, rfl, rfl⟩, fun c i hc => ?_⟩
  have hdrives : i.DrivesLands := hc.imp And.right (Or.imp And.right And.right)
  refine ⟨?_, Dev.portIns_jtag_felted hdrives, Dev.portIns_jtag_unfelted_or_reset hdrives⟩
  rcases hc with ⟨rfl, rfl⟩ | ⟨rfl, rfl⟩ | ⟨rfl, rfl⟩
  · exact exec_extest s
  · exact exec_clamp s
  · exact exec_highz s

end

section
/-! SUPPORT. Settling keeps the configuration, what MOVE_FUNCTION does while a read of its function is outstanding, and a device on
which the writes that a function-level reset sends start such a read (02 R56; 14 R412, R415). -/

open Sys2Proof Sys2Proof.Machine

namespace Sys2Proof.Machine

/-! ### Settling keeps the FELT block -/

@[simp] theorem Dev.setIcBit_felt (d : Dev) (arr : Nat → Nat) (n : Nat) (b : Bool) : (d.setIcBit arr n b).felt = d.felt := rfl
@[simp] theorem Dev.satInc_felt (d : Dev) (off hi lo : Nat) : (d.satInc off hi lo).felt = d.felt := rfl
@[simp] theorem Dev.wrapAdd_felt (d : Dev) (off hi lo n : Nat) : (d.wrapAdd off hi lo n).felt = d.felt := rfl
@[simp] theorem Dev.setCd_felt (d : Dev) (k i : Nat) (v : Word) : (d.setCd k i v).felt = d.felt := rfl
@[simp] theorem Dev.setCtxState_felt (d : Dev) (k x : Nat) : (d.setCtxState k x).felt = d.felt := rfl
@[simp] theorem Dev.unready_felt (d : Dev) (k : Nat) : (d.unready k).felt = d.felt := rfl
@[simp] theorem Dev.makeReady_felt (d : Dev) (k : Nat) (b : Bool) : (d.makeReady k b).felt = d.felt := rfl
@[simp] theorem Dev.setEvq_felt (d : Dev) (c : Nat) (q : List QEv) : (d.setEvq c q).felt = d.felt := by
  unfold Dev.setEvq
  dsimp only
  split <;> rfl

@[simp] theorem Dev.edge_felt (d : Dev) (n : Nat) : (d.edge n).felt = d.felt := by
  unfold Dev.edge
  split
  · rfl
  · split
    · split <;> rfl
    · split <;> rfl

@[simp] theorem Dev.event_felt (d : Dev) (off b src : Nat) : (d.event off b src).felt = d.felt := by
  unfold Dev.event
  split
  · rfl
  · exact Dev.edge_felt ..

@[simp] theorem Dev.alarm_felt (d : Dev) (c b : Nat) : (d.alarm c b).felt = d.felt := Dev.event_felt ..

@[simp] theorem Dev.start_felt (d : Dev) (k core : Nat) (e : QEv) : (d.start k core e).felt = d.felt := by
  unfold Dev.start
  simp only [Dev.setReg_felt, Dev.setCd_felt]
  split
  · simp only [Dev.wrapAdd_felt, Dev.setCd_felt, Dev.setCtx_felt]
  · simp only [Dev.setCd_felt, Dev.setCtx_felt]

theorem Dev.consume_felt {d d' : Dev} {k : Nat} {e : QEv} (h : d.consume k = some (e, d')) : d'.felt = d.felt := by
  unfold Dev.consume at h
  split at h
  · cases h
  · cases h
    exact Dev.setEvq_felt ..

@[simp] theorem Dev.sluiceEvent_felt (d : Dev) (ev : SluiceEv) : (d.sluiceEvent ev).2.felt = d.felt := by
  unfold Dev.sluiceEvent
  dsimp only
  split
  · rfl
  · split
    · simp only [Dev.alarm_felt, Dev.wrapAdd_felt, Dev.setCd_felt]
    · split
      · split
        · split
          · split
            · next h => simp only [Dev.setCslu_felt, Dev.start_felt, Dev.setCtxState_felt, Dev.consume_felt h, Dev.setCd_felt, Dev.setEvq_felt]
            · simp only [Dev.setCd_felt, Dev.setEvq_felt]
          · simp only [Dev.makeReady_felt, Dev.setCd_felt, Dev.setEvq_felt]
        · simp only [Dev.makeReady_felt, Dev.setCd_felt, Dev.setEvq_felt]
      · simp only [Dev.setCd_felt, Dev.setEvq_felt]

@[simp] theorem Dev.icStep_felt (d : Dev) (cores : Tab Core) (n : Nat) : (d.icStep cores n).felt = d.felt := by
  unfold Dev.icStep
  dsimp only
  split
  · rfl
  · split
    · split
      · rfl
      · split
        · exact Dev.sluiceEvent_felt ..
        · exact Dev.sluiceEvent_felt ..
    · repeat' split
      all_goals rfl

@[simp] theorem Dev.resample_felt (d : Dev) : d.resample.felt = d.felt :=
  List.foldlRecOn (motive := fun (e : Dev) => e.felt = d.felt) _ _ rfl fun e he n _ => by
    split <;> exact he

theorem Dev.dispatch1_felt {d d' : Dev} {cores : Tab Core} {c : Nat} (h : d.dispatch1 cores c = some d') : d'.felt = d.felt := by
  unfold Dev.dispatch1 at h
  split at h
  · cases h
  · dsimp only at h
    split at h
    · split at h
      · cases h
        rfl
      · cases h
    · cases h
      rfl

theorem Dev.dispatchN_felt (cores : Tab Core) (c n : Nat) (d : Dev) : (d.dispatchN n cores c).felt = d.felt := by
  induction n generalizing d with
  | zero => rfl
  | succ n ih =>
    have hshort : (if d.chainShort cores c then d.alarm c 1 else d).felt = d.felt := by
      split
      · exact Dev.alarm_felt ..
      · rfl
    unfold Dev.dispatchN
    dsimp only
    split
    · exact hshort
    · next h => rw [ih, Dev.dispatch1_felt h, hshort]

@[simp] theorem Dev.dispatch_felt (d : Dev) (cores : Tab Core) (c : Nat) : (d.dispatch cores c).felt = d.felt := Dev.dispatchN_felt ..

/-- Neither the interrupt controller nor a dispatch touches the configuration in force. -/
@[simp] theorem Dev.settle_felt (d : Dev) (cores : Tab Core) : (d.settle cores).felt = d.felt := by
  unfold Dev.settle
  refine List.foldlRecOn (motive := fun (e : Dev) => e.felt = d.felt) _ _ ?_ fun e he c _ => (Dev.dispatch_felt ..).trans he
  exact List.foldlRecOn (motive := fun (e : Dev) => e.felt = d.felt) _ _ d.resample_felt fun e he n _ => (Dev.icStep_felt ..).trans he

theorem State.felt_eq_of_settle_eq {s t : State} (h : s.settle = t.settle) : s.dev.felt = t.dev.felt :=
  calc s.dev.felt = s.settle.dev.felt := (Dev.settle_felt ..).symm
    _ = t.settle.dev.felt := by rw [h]
    _ = t.dev.felt := Dev.settle_felt ..

/-! ### MOVE_FUNCTION while a read of its function is outstanding -/

/-- The move only begins the function-level reset, whose step 3 waits for the read (R415). -/
theorem exec_moveFunction_of_read_outstanding {s : State} {f fr t w : Nat} (hrec : s.dev.nextRec = some (.moveFunction f fr t w))
    (hread : (s.dev.flrBegin f).pep.reads.any (fun r => decide (r.fn = f)) = true) :
    exec .moveFunction s = .next ({ s with dev := s.dev.flrBegin f } : State).settle := by
  change execMoveFunction s = _
  unfold execMoveFunction
  rw [hrec]
  exact if_pos hread

/-! ### A function-level reset that starts a read -/

/-- A write of core 0 to byte 0 of VF 1's host memory, accepted by the endpoint and not yet sent. -/
def acceptedVfWrite : ExtAcc :=
  { agent := 0, weir := false, pond := 0, secure := true, qos := 0, otag := 0, strict := false, pa := hostBase + 2 ^ 36, host := 0
    write := true, size := 1, data := [0#8], st := .accepted, status := 0, tag := 0, timed := none, detail := 0 }

/-- Ponds 0 and 1; VF 1 belongs to pond 0. -/
def vfOfPond0 : List Rec := [.pond 0 1 0 1 0 0 0, .pond 1 1 0 2 0 0 0, .function 1 1 0 1]

/-- The device up with VF 1 enabled, the record that moves VF 1 to pond 1 next to apply, `acceptedVfWrite` waiting at the endpoint, and
VF 1's dirty log on over the page that it writes: sending it reads a word of the dirty map (R412). -/
def movingLoggedVf : State :=
  State.reset.onDev fun d =>
    ((({ d with
        felt := { d.felt with cfg := vfOfPond0, felted := true, todo := [.moveFunction 1 0 1 1], busy := true }
        pwr := { d.pwr with mode := .up, step := 12 }
        ext := [acceptedVfWrite] } : Dev).setCfg 0 0x158 9).setCfg 0 0x160 1).setHreg 0 (dlCtl 1) 0x8000000000000001

theorem movingLoggedVf_nextRec : movingLoggedVf.dev.nextRec = some (.moveFunction 1 0 1 1) := by decide +kernel

theorem movingLoggedVf_reads : movingLoggedVf.dev.pep.reads = [] := by decide +kernel

theorem movingLoggedVf_no_read_of_vf : ∀ r ∈ movingLoggedVf.dev.pep.reads, r.fn ≠ 1 := by
  rw [movingLoggedVf_reads]
  exact fun _ hr => absurd hr List.not_mem_nil

theorem movingLoggedVf_flr_reads : (movingLoggedVf.dev.flrBegin 1).pep.reads.any (fun r => decide (r.fn = 1)) = true := by decide +kernel

/-- The function-level reset leaves VF 1 with pond 0; the record would give it to pond 1. -/
theorem movingLoggedVf_flr_cfg :
    (movingLoggedVf.dev.flrBegin 1).felt.cfg ≠ amendCfg movingLoggedVf.dev.felt.cfg (.moveFunction 1 0 1 1) := by decide +kernel

end Sys2Proof.Machine

/-! ### The statements of the FELT image -/

/-- Refutes O40 at its clause about MOVE_FUNCTION: that no read of the function is outstanding when the record comes up does not make the
record apply. The function-level reset first sends the writes already accepted (R415 step 2); where the function's dirty log is on, sending
one starts a read of the dirty map in its name (R412), and the reset then waits for that read (R415 step 3), the owner unchanged. -/
theorem not_amendmentCommandsComplete : ¬ Obligations.AmendmentCommandsComplete := by
  intro h
  obtain ⟨-, -, -, -, hmove, -⟩ := h movingLoggedVf
  obtain ⟨u, hexec, -, -, hcfg⟩ := hmove 1 0 1 1 movingLoggedVf_nextRec movingLoggedVf_no_read_of_vf
  rw [exec_moveFunction_of_read_outstanding movingLoggedVf_nextRec movingLoggedVf_flr_reads] at hexec
  have hfelt := State.felt_eq_of_settle_eq (Host.Outcome.next.inj hexec)
  exact movingLoggedVf_flr_cfg ((congrArg Felt.cfg hfelt).trans hcfg)

end

section
/-! SUPPORT. What the commands of the angle time base do: the cycles of its sources and what the tracker makes of them, a source that is
lost, the end of holdover, encoder edges and marks (03 R70 to R78, R83, R85; 13 R377). -/

open Sys2Proof Sys2Proof.Machine

namespace Sys2Proof.Machine

/-! ### Evaluation cycles -/

/-- The tracker's state with the edges of an encoder, or the messages of the fabric, that the ended cycle has used up (R70). -/
def Dev.cycleUsed (d : Dev) (kind : Nat) : AtbSt :=
  if kind = 4 then { d.atb with enc := 0, rev := false } else if kind = 5 then { d.atb with sync := 0 } else d.atb

/-- A valid cycle records the source's sample, and then the tracker follows. -/
theorem Dev.evaluate_of_valid {d : Dev} {p kind inst nominal sel : Nat} {obs : CycleObs}
    (h : d.cycleReason p kind inst nominal sel obs = 0) :
    d.evaluate p kind inst nominal sel obs =
      ((({ d with atb := d.cycleUsed kind } : Dev).srcCycle p 0).setSrc p (d.srcSample p kind nominal obs)).atbCycle p := by
  rw [Dev.evaluate, h]
  exact if_pos rfl

/-- After an invalid cycle of the selected source the frequency in force stays and is that of the last full cycle (log entry 103). -/
theorem Dev.evaluate_of_invalid {d : Dev} {p kind inst nominal sel : Nat} {obs : CycleObs}
    (h : d.cycleReason p kind inst nominal sel obs ≠ 0) :
    d.evaluate p kind inst nominal sel obs =
      let d1 := ({ d with atb := d.cycleUsed kind } : Dev).srcCycle p (d.cycleReason p kind inst nominal sel obs)
      let d2 := d1.setSrc p { d1.src p with good := 0 }
      if (d2.atbState = 1 ∨ d2.atbState = 2) ∧ p = d2.atbSel then { d2 with atb := { d2.atb with mean := d2.atbFreq } } else d2 :=
  if_neg h

/-- A cycle of a live source, with calibrated converters where it is analogue, is evaluated. -/
theorem exec_evaluationCycle_of_live {s : State} {d : Dev} {p kind inst nominal sel : Nat} {obs : CycleObs} (hp : p < 8)
    (hsrc : atbSource s.dev.felt.cfg p = some (kind, inst, nominal, sel)) (hlive : s.dev.srcDead kind inst = false)
    (hcal : kind = 1 → s.dev.atb.uncal = false) (heval : s.dev.evaluate p kind inst nominal sel obs = d) :
    exec (.evaluationCycle p obs) s = .next ({ s with dev := d } : State).settle := by
  have hgood : (s.dev.srcDead kind inst || (decide (kind = 1) && s.dev.atb.uncal)) = false := by
    simpa [hlive] using hcal
  change execEvaluationCycle p obs s = _
  rw [execEvaluationCycle, if_pos hp, hsrc, ← heval]
  exact if_neg (by rw [hgood]; exact Bool.false_ne_true)

/-! ### The tracker at a valid cycle (R77) -/

theorem Dev.atbCycle_of_selected {d : Dev} {p : Nat} (hst : d.atbState = 1 ∨ d.atbState = 2) (hp : p = d.atbSel) :
    d.atbCycle p = d.atbTrack p := by
  simp [Dev.atbCycle, hst, hp]

theorem Dev.atbCycle_of_worse {d : Dev} {p : Nat} (hst : d.atbState = 1 ∨ d.atbState = 2) (hp : d.atbSel < p) : d.atbCycle p = d := by
  have hworse : ¬ p < d.atbSel ∧ p ≠ d.atbSel := by omega
  have hfollowing : ¬ (d.atbState = 0 ∨ d.atbState = 3) := by omega
  simp [Dev.atbCycle, hworse, hfollowing]

/-- A better source takes over once it has been valid for 50 cycles, which is VCNT of at least 50 (log entry 243). -/
theorem Dev.atbCycle_of_better {d : Dev} {p : Nat} (hst : d.atbState = 1 ∨ d.atbState = 2) (hp : p < d.atbSel) (hvalid : d.srcValid p = true)
    (hcount : 50 ≤ d.rf (R.atbSrcstat p) 23 16) : d.atbCycle p = (d.atbFollow p true).1.atbEvent 3 :=
  if_pos ⟨hst, hp, hvalid, hcount⟩

theorem Dev.atbCycle_of_none_valid {d : Dev} (p : Nat) (hst : d.atbState = 0 ∨ d.atbState = 3) (hbest : d.bestSrc = none) : d.atbCycle p = d := by
  have hidle : ¬ (d.atbState = 1 ∨ d.atbState = 2) := by omega
  simp [Dev.atbCycle, hidle, hbest]

theorem Dev.atbCycle_of_some_valid {d : Dev} {b : Nat} (p : Nat) (hst : d.atbState = 0 ∨ d.atbState = 3) (hbest : d.bestSrc = some b) :
    d.atbCycle p = if (d.atbFollow b false).2 then (d.atbFollow b false).1.atbEvent 0 else (d.atbFollow b false).1 := by
  have hidle : ¬ (d.atbState = 1 ∨ d.atbState = 2) := by omega
  simp [Dev.atbCycle, hidle, hst, hbest]

/-! ### A source falls silent (R71, R77) -/

/-- The registers after a source fell silent: it is invalid, its VCNT is 0 (log entry 242), and REASON is 1 when none was set (log entry 104). -/
def Dev.silence (d : Dev) (p : Nat) : Dev :=
  let d0 := (d.setSrcValid p false).setRf (R.atbSrcstat p) 23 16 0
  if d0.rf (R.atbSrcstat p) 27 24 = 0 then d0.setRf (R.atbSrcstat p) 27 24 1 else d0

/-- What the tracker makes of a source that fell silent: the followed one hands over to the best valid source, or the ATB holds over. -/
def Dev.dropSource (d : Dev) (p : Nat) : Dev :=
  if (d.atbState = 1 ∨ d.atbState = 2) ∧ d.atbSel = p then
    match d.bestSrc with
    | some b => (((d.atbFollow b false).1).atbEvent 3).atbEvent 2
    | none => ((d.atbEnter 3 p).setReg R.atbFreq (word (if d.atbState = 1 then d.atb.fest else d.atb.mean))).atbEvent 2
  else d

theorem exec_sourceLost_of_valid {s : State} {p : Nat} (hp : p < 8) (hvalid : s.dev.srcValid p = true) :
    exec (.sourceLost p) s = .next ({ s with dev := (s.dev.silence p).dropSource p } : State).settle := by
  have hacts : ¬ (8 ≤ p ∨ (!s.dev.srcValid p) = true) := by simp [hvalid, hp]
  obtain ⟨d, hd⟩ : ∃ d, d = s.dev.silence p := ⟨_, rfl⟩
  rw [← hd]
  dsimp only [Dev.silence] at hd
  change execSourceLost p s = _
  rw [execSourceLost, if_neg hacts]
  dsimp only
  rw [← hd, Dev.dropSource]
  split
  · cases d.bestSrc <;> rfl
  · rfl

theorem Dev.dropSource_of_other {d : Dev} {p : Nat} (h : ¬ ((d.atbState = 1 ∨ d.atbState = 2) ∧ d.atbSel = p)) : d.dropSource p = d :=
  if_neg h

theorem Dev.dropSource_of_some_valid {d : Dev} {p b : Nat} (hst : d.atbState = 1 ∨ d.atbState = 2) (hsel : d.atbSel = p)
    (hbest : d.bestSrc = some b) : d.dropSource p = (((d.atbFollow b false).1).atbEvent 3).atbEvent 2 := by
  rw [Dev.dropSource, if_pos ⟨hst, hsel⟩, hbest]

theorem Dev.dropSource_of_none_valid {d : Dev} {p : Nat} (hst : d.atbState = 1 ∨ d.atbState = 2) (hsel : d.atbSel = p) (hbest : d.bestSrc = none) :
    d.dropSource p = ((d.atbEnter 3 p).setReg R.atbFreq (word (if d.atbState = 1 then d.atb.fest else d.atb.mean))).atbEvent 2 := by
  rw [Dev.dropSource, if_pos ⟨hst, hsel⟩, hbest]

/-! ### The end of holdover, and encoder edges -/

theorem exec_holdoverExpiry_of_hold {s : State} (hst : s.dev.atbState = 3) :
    exec .holdoverExpiry s =
      .next (s.onDev (fun d => (({ d with atb := { d.atb with ramp := true, left := 0 } }).atbEnter 0 0).atbEvent 6)).settle := by
  change execHoldoverExpiry s = _
  rw [execHoldoverExpiry, if_pos hst, done]

/-- An edge counts and keeps its direction; the pass over the encoder sources, which moves their angles (R72), changes neither the counts
nor a register. -/
theorem exec_encoderEdge (fw : Bool) (s : State) :
    ∃ t, exec (.encoderEdge fw) s = .next t ∧ t.mem = s.mem ∧ t.cores = s.cores ∧ t.dev.regs = s.dev.regs ∧
      t.dev.atb.enc = s.dev.atb.enc + (if fw then 1 else -1) ∧ t.dev.atb.rev = (s.dev.atb.rev || !fw) := by
  have harm : exec (.encoderEdge fw) s = execEncoderEdge fw s := rfl
  rw [harm, execEncoderEdge]
  refine ⟨_, rfl, State.onDev_mem .., State.onDev_cores .., ?_⟩
  dsimp only [State.onDev_dev]
  refine List.foldlRecOn (motive := fun (e : Dev) => e.regs = s.dev.regs ∧ e.atb.enc = s.dev.atb.enc + (if fw then 1 else -1) ∧
    e.atb.rev = (s.dev.atb.rev || !fw)) _ _ ⟨rfl, rfl, rfl⟩ fun e he p _ => ?_
  split <;> exact he

/-! ### Marks, and writes of registers -/

/-- A due mark of the device or of a cluster fires when no armed mark before it in the order of the tick is due (R84, log entry 108). -/
theorem exec_markFire_of_first {s : State} {scope n : Nat} (hmark : (scope = 0xFF ∧ n < 64) ∨ (scope < 32 ∧ n < 16))
    (hdue : s.dev.markDue (mkCtl scope n) = true)
    (hfirst : ∀ c ∈ s.dev.armed, markBefore c (mkCtl scope n) = true → s.dev.markDue c = false) :
    let ctl := mkCtl scope n
    let angle := s.dev.reg (ctl + 8)
    exec (.markFire scope n) s = .next (((s.onDev (fun d =>
      let d0 : Dev := { d with atb := { d.atb with fired := ctl :: d.atb.fired } }
      (if bit (d.reg ctl) 30 then d0.setReg (ctl + 8) (angle + word (d.rf (ctl + 16) 31 0)) else d0.setRf ctl 31 31 0).wrapAdd
        (ctl + 24) 63 32 1)).markAct ctl angle).markApply (fun c => decide (c = ctl))).settle := by
  have hnone : s.dev.armed.any (fun c => markBefore c (mkCtl scope n) && s.dev.markDue c) = false := by
    simpa using hfirst
  change execMarkFire scope n s = _
  refine if_neg ?_
  rw [decide_eq_true hmark, hdue, hnone]
  decide

theorem exec_atbSettingWrite {j : Nat} (rq : Req) (v : Word) (s : State) (hj : j < 4) :
    exec (.atbSettingWrite rq j v) s = .next (s.regWrite rq (R.atbHoldover + 8 * j) 8 v).settle := by
  change execAtbSettingWrite rq j v s = _
  rw [execAtbSettingWrite, Nat.mod_eq_of_lt hj, done]

theorem exec_markRegisterWrite {scope n j : Nat} (rq : Req) (size : Nat) (v : Word) (s : State)
    (hmark : (scope = 0xFF ∧ n < 64) ∨ (scope < 32 ∧ n < 16)) (hj : j < 4) :
    exec (.markRegisterWrite rq scope n j size v) s = .next (s.regWrite rq (mkCtl scope n + 8 * j) size v).settle := by
  change execMarkRegisterWrite rq scope n j size v s = _
  rw [execMarkRegisterWrite, if_pos hmark, Nat.mod_eq_of_lt hj, done]

theorem exec_ptpstep (rq : Req) (v : Word) (s : State) : exec (.ptpstep rq v) s = .next (s.regWrite rq R.exPtpstep 8 v).settle := rfl

end Sys2Proof.Machine

/-! ### The statement of the angle time base -/

/-- Settles O36: each clause is the equation of its command, and the tracker's clauses are the rows of R77 in their order. The statement
rests on the readings of log entries 103 and 104 (invalid cycles and REASON), 108 (MARK_FIRE), 242 and 243 (VCNT). -/
theorem timeBaseCommandsComplete : Obligations.TimeBaseCommandsComplete := by
  intro s
  refine ⟨?cycle, ?tracker, ?lost, exec_holdoverExpiry_of_hold, fun rq j v hj => exec_atbSettingWrite rq v s hj,
    fun fw => exec_encoderEdge fw s, fun scope n => exec_markFire_of_first,
    fun rq scope n j size v hmark hj => exec_markRegisterWrite rq size v s hmark hj, fun rq v => exec_ptpstep rq v s⟩
  case cycle =>
    intro p obs kind inst nominal sel hp hsrc hlive hcal
    have hexec {d : Dev} := exec_evaluationCycle_of_live (d := d) (obs := obs) hp hsrc hlive hcal
    exact ⟨fun hinvalid => hexec (Dev.evaluate_of_invalid hinvalid), fun hvalid => hexec (Dev.evaluate_of_valid hvalid)⟩
  case tracker =>
    exact fun d p => ⟨Dev.atbCycle_of_selected, Dev.atbCycle_of_worse, Dev.atbCycle_of_better, Dev.atbCycle_of_none_valid p,
      fun b => Dev.atbCycle_of_some_valid p⟩
  case lost =>
    intro p d hp hvalid hd
    have hsilent : s.dev.silence p = d := hd.symm
    rw [exec_sourceLost_of_valid hp hvalid, hsilent]
    exact ⟨fun hst hsel b hbest => by rw [Dev.dropSource_of_some_valid hst hsel hbest],
      fun hst hsel hbest => by rw [Dev.dropSource_of_none_valid hst hsel hbest], fun hother => by rw [Dev.dropSource_of_other hother]⟩

end
